-- ==== Sys2Proof/Word.lean ====
section
/-! DEFINITION. The word types of the MS-32: bytes and operand words of the host port, and feed positions. -/

namespace Sys2Proof

/-- One byte of a frame (R185). -/
abbrev Byte := BitVec 8

/-- A two-byte operand field (R197). -/
abbrev Half := BitVec 16

/-- A four-byte operand field, tag or wrapping 32-bit counter (R197, R17, R179). -/
abbrev Word := BitVec 32

/-- A feed position: a 32-bit count of 0.1 mm that wraps (R61). -/
abbrev Pos := BitVec 32

/-- A lane number, L0 to L31 (00_scope, "Lanes, pairs and boards"). -/
abbrev LaneNo := Fin 32

/-- A valve board number, B0 to B3. -/
abbrev BoardNo := Fin 4

end Sys2Proof
end

