-- ==== Sys2Proof/Syntax.lean ====
section
/-! DEFINITION. The commands of the MS-32: one constructor for each row of spec/opcode_table.json. A host command
carries its operand bytes as the fields of chapter 12 (12_frame_and_record_layouts.md), each of its width on the
wire; a machine event carries what arrives with it. -/

namespace Sys2Proof

/-- The nine plan fields as ARTICLE WRITE sends them (12, "The article record"). -/
structure PlanOperands where
  splitGap : Half
  gapTolerance : Byte
  feedSpeed : Half
  basePressure : Half
  edgeRelief : Half
  bottomRelief : Half
  bridgeBoost : Byte
  edgeBand : Byte
  rejectLimit : Half
  deriving DecidableEq, Repr

/-- The nine lane settings as LANE WRITE sends them (bytes 21 to 34 of 12, "The lane summary"). -/
structure LaneSettingsOperands where
  contactThreshold : Half
  hysteresis : Byte
  enterDebounce : Byte
  exitDebounce : Byte
  bottomLimit : Half
  contactLimit : Word
  referenceBeta : Byte
  fastBeta : Byte
  haltEnable : Byte
  deriving DecidableEq, Repr

/-- The calibration part of LANE WRITE: the calibration-present byte, the gain code and the offset. -/
structure CalibrationOperands where
  present : Byte
  gain : Byte
  offset : Half
  deriving DecidableEq, Repr

/-- The six tune settings as TUNE WRITE sends them (12, "The tune summary"). -/
structure TuneOperands where
  mode : Byte
  base : Half
  target : Half
  band : Byte
  automatic : Byte
  holdoff : Byte
  deriving DecidableEq, Repr

/-- A route as ROUTE WRITE sends it after its index (R197). -/
structure RouteOperands where
  enabled : Byte
  source : Byte
  filter : Word
  task : Byte
  lineSet : Byte
  pulseWidth : Byte
  tallyIndex : Byte
  deriving DecidableEq, Repr

/-- The seventeen machine settings as MACHINE WRITE SETTINGS sends them (12, "Machine settings"). -/
structure SettingsOperands where
  throatLength : Half
  maximumHideLength : Half
  gapFilter : Half
  leadDebounce : Half
  approachMargin : Half
  eyePolarity : Byte
  unannouncedPolicy : Byte
  idleFeedSpeed : Half
  idlePressure : Half
  parkPressure : Half
  scanPeriod : Byte
  gapMethod : Byte
  defaultGapTolerance : Byte
  gapMoveTimeout : Byte
  selectTimeout : Byte
  sessionFrameLimit : Byte
  releaseInterval : Byte
  deriving DecidableEq, Repr

/-- What a selected valve board answers in a slot of SELECTING (R159). A slot with nothing readable is taken as
NOT_READY. -/
inductive BoardAnswer where
  | ready
  | notReady
  | refuse
  deriving DecidableEq, Repr

/-- A well-formed transfer from a valve board that passes its check: the pair it names, 0 to 15, and the value it
gives for the pair's even and odd lane (R161). The half of a partner marked keep is never compared. -/
structure Echo where
  pair : Fin 16
  even : Half
  odd : Half
  deriving DecidableEq, Repr

/-- The commands: one constructor for each row of spec/opcode_table.json, in the table's order. -/
inductive Instr where
  | articleWrite (code : Half) (plan : PlanOperands) (mark : Byte)
  | articleRead (code : Half)
  | articleFindNext (code : Half)
  | articleRetire (code : Half)
  | hideAnnounce (tag : Word) (code : Half)
  | hideAmend (ticket : Half) (tag : Word) (code : Half)
  | hideRead (ticket : Half)
  | hideFind (tag : Word)
  | hideList
  | hideAbort (ticket : Half)
  | hideRetire (ticket : Half)
  | feedRun
  | feedStop
  | feedStopAtClear
  | feedStopBeforeNext
  | feedHold
  | feedClearHold (causes : Half)
  | feedRead
  /-- EYE FORCE (header 0x38) with its operand byte, 1 for LEAD; an unassigned byte is here too (log entry 21). -/
  | eyeForceLead (operand : Byte)
  /-- EYE FORCE (header 0x38) with its operand byte, 2 for TAIL. -/
  | eyeForceTail (operand : Byte)
  | eyeRead
  | gapSet (gap : Half)
  | gapApply
  | gapRecover
  | gapRead
  | lanePark (lane : Byte)
  | laneUnpark (lane : Byte)
  | laneRecover (lane : Byte)
  | laneRead (lane : Byte)
  | laneWrite (lane : Byte) (settings : LaneSettingsOperands) (calibration : CalibrationOperands)
  | lanePressure (lane : Byte)
  | tuneStart (mask : Word)
  | tuneAbort
  | tuneWrite (lane : Byte) (settings : TuneOperands)
  | tuneRead (lane : Byte)
  | boardRecover (board : Byte)
  | boardRead (board : Byte)
  | routeWrite (index : Byte) (route : RouteOperands)
  | routeRead (index : Byte)
  | lineWrite (line : Byte) (mode : Byte) (drive : Byte) (level : Byte)
  | lineClear (lines : Byte)
  | lineRead (line : Byte)
  | tallyWrite (tally : Byte) (threshold : Word) (scope : Byte) (flags : Byte)
  | tallyReset (tally : Byte)
  | tallyRead (tally : Byte)
  | machineReset
  | machineReadAttention
  | machineWriteAttentionMask (causes : Half)
  | machineReadAttentionMask
  | machineReadSettings
  | machineWriteSettings (settings : SettingsOperands)
  /-- A FETCH frame: `clocked` whole bytes are clocked after its header (R188). -/
  | linkFetch (clocked : Nat)
  /-- A frame that R186 calls malformed: its header byte and the clocks received after the header. -/
  | malformedFrame (header : Byte) (clocks : Nat)
  /-- A frame that R185 or R186 disregards: the clocks received in it. -/
  | frameDisregarded (clocks : Nat)
  /-- Power-on completes with the eye input and the STOP line at these levels. -/
  | powerOn (eyeHigh : Bool) (stopAsserted : Bool)
  /-- The reset pin was held low and rises, with the eye input and the STOP line at these levels. -/
  | resetPin (eyeHigh : Bool) (stopAsserted : Bool)
  | forwardStep
  | backwardStep
  | stopAssertion
  | stopRelease
  | eyeTransition
  | leadDebounceTravelled
  | gapFilterTravelled
  | discardLightTravelled
  | approachPointCrossing (ticket : Half)
  | knifeLineCrossing (ticket : Half)
  | trailMarkCrossing (ticket : Half)
  | maximumLengthCrossing (ticket : Half)
  | gaugePair (left : Half) (right : Half)
  /-- The arrival of the gauge pair that completes the move under way (R86). -/
  | moveCompletion (left : Half) (right : Half)
  | moveTimerExpiry
  | laneReading (lane : LaneNo) (raw : Half)
  | laneReseed (lane : LaneNo)
  | batchCompletion
  | formationTest
  | holdoffTimerExpiry (lane : LaneNo)
  | arbiterTest
  | selectAnswer (answer : BoardAnswer)
  | selectTimerExpiry
  /-- One slot of the link. `received` is the well-formed transfer the board sent in it, `none` where nothing
  arrived or the transfer failed its check (R160, R163). -/
  | busSlot (received : Option Echo)
  | echoArrival (echo : Echo)
  | releaseIntervalExpiry
  | pulseTimerExpiry (line : Fin 4)
  | framesAccepted
  deriving DecidableEq, Repr

end Sys2Proof
end

