-- ==== Sys2Proof/Decode.lean ====
section
/-! DEFINITION. Decoding. No row of spec/opcode_table.json gives bits, so `decodeTableWord` spells none of them. The
part does decode something: the frames of its host port (R186), whose headers and operand bytes chapter 12 gives.
`decodeFrame` is that decoder, total on any bytes, and `encodeFrame` writes a host command's frame from the same
tables. -/

namespace Sys2Proof

/-- The command a word spells by the table's bits. The table gives no bits to any row, so no word spells one. -/
def decodeTableWord (_nbits _w : Nat) : Option Instr := none

/-! ## Header bytes (12, the table of headers) -/

namespace Header

/-- LINK FETCH. -/
def fetch : Byte := 0x01
def articleWrite : Byte := 0x11
def articleRead : Byte := 0x12
def articleFindNext : Byte := 0x13
def articleRetire : Byte := 0x14
def hideAnnounce : Byte := 0x21
def hideAmend : Byte := 0x22
def hideRead : Byte := 0x23
def hideFind : Byte := 0x24
def hideList : Byte := 0x25
def hideAbort : Byte := 0x26
def hideRetire : Byte := 0x27
def feedRun : Byte := 0x31
def feedStop : Byte := 0x32
def feedStopAtClear : Byte := 0x33
def feedStopBeforeNext : Byte := 0x34
def feedHold : Byte := 0x35
def feedClearHold : Byte := 0x36
def feedRead : Byte := 0x37
def eyeForce : Byte := 0x38
def eyeRead : Byte := 0x39
def gapSet : Byte := 0x41
def gapApply : Byte := 0x42
def gapRecover : Byte := 0x43
def gapRead : Byte := 0x44
def lanePark : Byte := 0x51
def laneUnpark : Byte := 0x52
def laneRecover : Byte := 0x53
def laneRead : Byte := 0x54
def laneWrite : Byte := 0x55
def lanePressure : Byte := 0x56
def tuneStart : Byte := 0x61
def tuneAbort : Byte := 0x62
def tuneWrite : Byte := 0x63
def tuneRead : Byte := 0x64
def boardRecover : Byte := 0x71
def boardRead : Byte := 0x72
def routeWrite : Byte := 0x81
def routeRead : Byte := 0x82
def lineWrite : Byte := 0x91
def lineClear : Byte := 0x92
def lineRead : Byte := 0x93
def tallyRead : Byte := 0xA1
def tallyWrite : Byte := 0xA2
def tallyReset : Byte := 0xA3
def machineReset : Byte := 0xB1
def machineReadAttention : Byte := 0xB2
def machineWriteAttentionMask : Byte := 0xB3
def machineReadAttentionMask : Byte := 0xB4
def machineReadSettings : Byte := 0xB5
def machineWriteSettings : Byte := 0xB6

end Header

/-- The operand length in bytes fixed for a command frame's header; none where the part has no such class or verb
(R186, 12). FETCH is no command frame and is not here. -/
def operandLength (header : Byte) : Option Nat :=
  match header.toNat with
  | 0x11 => some 18
  | 0x12 => some 2
  | 0x13 => some 2
  | 0x14 => some 2
  | 0x21 => some 6
  | 0x22 => some 8
  | 0x23 => some 2
  | 0x24 => some 4
  | 0x25 => some 0
  | 0x26 => some 2
  | 0x27 => some 2
  | 0x31 => some 0
  | 0x32 => some 0
  | 0x33 => some 0
  | 0x34 => some 0
  | 0x35 => some 0
  | 0x36 => some 2
  | 0x37 => some 0
  | 0x38 => some 1
  | 0x39 => some 0
  | 0x41 => some 2
  | 0x42 => some 0
  | 0x43 => some 0
  | 0x44 => some 0
  | 0x51 => some 1
  | 0x52 => some 1
  | 0x53 => some 1
  | 0x54 => some 1
  | 0x55 => some 19
  | 0x56 => some 1
  | 0x61 => some 4
  | 0x62 => some 0
  | 0x63 => some 9
  | 0x64 => some 1
  | 0x71 => some 1
  | 0x72 => some 1
  | 0x81 => some 11
  | 0x82 => some 1
  | 0x91 => some 4
  | 0x92 => some 1
  | 0x93 => some 1
  | 0xA1 => some 1
  | 0xA2 => some 7
  | 0xA3 => some 1
  | 0xB1 => some 0
  | 0xB2 => some 0
  | 0xB3 => some 2
  | 0xB4 => some 0
  | 0xB5 => some 0
  | 0xB6 => some 25
  | _ => none

/-! ## Bytes, most significant first (R197) -/

/-- The two bytes of a 16-bit value. -/
def bytes2 (x : Half) : List Byte := [x.extractLsb' 8 8, x.extractLsb' 0 8]

/-- The four bytes of a 32-bit value. -/
def bytes4 (x : Word) : List Byte :=
  [x.extractLsb' 24 8, x.extractLsb' 16 8, x.extractLsb' 8 8, x.extractLsb' 0 8]

/-- Byte `i` of an operand field. -/
def byteAt (operand : List Byte) (i : Nat) : Byte := operand.getD i 0

/-- The two-byte number at byte `i` of an operand field. -/
def halfAt (operand : List Byte) (i : Nat) : Half := byteAt operand i ++ byteAt operand (i + 1)

/-- The four-byte number at byte `i` of an operand field. -/
def wordAt (operand : List Byte) (i : Nat) : Word :=
  (byteAt operand i ++ byteAt operand (i + 1)) ++ (byteAt operand (i + 2) ++ byteAt operand (i + 3))

/-- The plan fields of ARTICLE WRITE (12, "The article record", bytes 3 to 17). -/
def planBytes (p : PlanOperands) : List Byte :=
  bytes2 p.splitGap ++ [p.gapTolerance] ++ bytes2 p.feedSpeed ++ bytes2 p.basePressure ++ bytes2 p.edgeRelief ++
    bytes2 p.bottomRelief ++ [p.bridgeBoost, p.edgeBand] ++ bytes2 p.rejectLimit

/-- The lane settings (12, "The lane summary", bytes 21 to 34). -/
def laneSettingsBytes (t : LaneSettingsOperands) : List Byte :=
  bytes2 t.contactThreshold ++ [t.hysteresis, t.enterDebounce, t.exitDebounce] ++ bytes2 t.bottomLimit ++
    bytes4 t.contactLimit ++ [t.referenceBeta, t.fastBeta, t.haltEnable]

/-- The machine settings (12, "Machine settings"). -/
def settingsBytes (t : SettingsOperands) : List Byte :=
  bytes2 t.throatLength ++ bytes2 t.maximumHideLength ++ bytes2 t.gapFilter ++ bytes2 t.leadDebounce ++
    bytes2 t.approachMargin ++ [t.eyePolarity, t.unannouncedPolicy] ++ bytes2 t.idleFeedSpeed ++
    bytes2 t.idlePressure ++ bytes2 t.parkPressure ++ [t.scanPeriod, t.gapMethod, t.defaultGapTolerance,
    t.gapMoveTimeout, t.selectTimeout, t.sessionFrameLimit, t.releaseInterval]

/-! ## Frames (R186) -/

/-- The command a header names with an operand field of the right length. -/
def decodeOperands (header : Byte) (operand : List Byte) : Option Instr :=
  let byte := byteAt operand
  let half := halfAt operand
  let word := wordAt operand
  match header.toNat with
  | 0x11 => some (.articleWrite (half 0) ⟨half 2, byte 4, half 5, half 7, half 9, half 11, byte 13, byte 14, half 15⟩ (byte 17))
  | 0x12 => some (.articleRead (half 0))
  | 0x13 => some (.articleFindNext (half 0))
  | 0x14 => some (.articleRetire (half 0))
  | 0x21 => some (.hideAnnounce (word 0) (half 4))
  | 0x22 => some (.hideAmend (half 0) (word 2) (half 6))
  | 0x23 => some (.hideRead (half 0))
  | 0x24 => some (.hideFind (word 0))
  | 0x25 => some .hideList
  | 0x26 => some (.hideAbort (half 0))
  | 0x27 => some (.hideRetire (half 0))
  | 0x31 => some .feedRun
  | 0x32 => some .feedStop
  | 0x33 => some .feedStopAtClear
  | 0x34 => some .feedStopBeforeNext
  | 0x35 => some .feedHold
  | 0x36 => some (.feedClearHold (half 0))
  | 0x37 => some .feedRead
  | 0x38 => some (if byte 0 = 2 then .eyeForceTail (byte 0) else .eyeForceLead (byte 0))
  | 0x39 => some .eyeRead
  | 0x41 => some (.gapSet (half 0))
  | 0x42 => some .gapApply
  | 0x43 => some .gapRecover
  | 0x44 => some .gapRead
  | 0x51 => some (.lanePark (byte 0))
  | 0x52 => some (.laneUnpark (byte 0))
  | 0x53 => some (.laneRecover (byte 0))
  | 0x54 => some (.laneRead (byte 0))
  | 0x55 => some (.laneWrite (byte 0) ⟨half 1, byte 3, byte 4, byte 5, half 6, word 8, byte 12, byte 13, byte 14⟩ ⟨byte 15, byte 16, half 17⟩)
  | 0x56 => some (.lanePressure (byte 0))
  | 0x61 => some (.tuneStart (word 0))
  | 0x62 => some .tuneAbort
  | 0x63 => some (.tuneWrite (byte 0) ⟨byte 1, half 2, half 4, byte 6, byte 7, byte 8⟩)
  | 0x64 => some (.tuneRead (byte 0))
  | 0x71 => some (.boardRecover (byte 0))
  | 0x72 => some (.boardRead (byte 0))
  | 0x81 => some (.routeWrite (byte 0) ⟨byte 1, byte 2, word 3, byte 7, byte 8, byte 9, byte 10⟩)
  | 0x82 => some (.routeRead (byte 0))
  | 0x91 => some (.lineWrite (byte 0) (byte 1) (byte 2) (byte 3))
  | 0x92 => some (.lineClear (byte 0))
  | 0x93 => some (.lineRead (byte 0))
  | 0xA1 => some (.tallyRead (byte 0))
  | 0xA2 => some (.tallyWrite (byte 0) (word 1) (byte 5) (byte 6))
  | 0xA3 => some (.tallyReset (byte 0))
  | 0xB1 => some .machineReset
  | 0xB2 => some .machineReadAttention
  | 0xB3 => some (.machineWriteAttentionMask (half 0))
  | 0xB4 => some .machineReadAttentionMask
  | 0xB5 => some .machineReadSettings
  | 0xB6 => some (.machineWriteSettings ⟨half 0, half 2, half 4, half 6, half 8, byte 10, byte 11, half 12, half 14, half 16, byte 18, byte 19, byte 20,
      byte 21, byte 22, byte 23, byte 24⟩)
  | _ => none

/-- What a frame is, from its whole bytes and the clocks received after the last of them (fewer than 8): R186, in
its order. Frames that begin before frames are accepted are told apart by the state, not here (R185). -/
def decodeFrame (bytes : List Byte) (extraClocks : Nat) : Instr :=
  match bytes with
  | [] => .frameDisregarded extraClocks
  | header :: operand =>
    if header = Header.fetch then .linkFetch operand.length
    else if extraClocks = 0 ∧ operandLength header = some operand.length then
      (decodeOperands header operand).getD (.malformedFrame header (8 * operand.length))
    else .malformedFrame header (8 * operand.length + extraClocks)

/-- The frame that carries a host command; none for the rows that are no command frame. -/
def encodeFrame (c : Instr) : Option (List Byte) :=
  match c with
  | .articleWrite code p mark => some (Header.articleWrite :: (bytes2 code ++ planBytes p ++ [mark]))
  | .articleRead code => some (Header.articleRead :: (bytes2 code))
  | .articleFindNext code => some (Header.articleFindNext :: (bytes2 code))
  | .articleRetire code => some (Header.articleRetire :: (bytes2 code))
  | .hideAnnounce tag code => some (Header.hideAnnounce :: (bytes4 tag ++ bytes2 code))
  | .hideAmend ticket tag code => some (Header.hideAmend :: (bytes2 ticket ++ bytes4 tag ++ bytes2 code))
  | .hideRead ticket => some (Header.hideRead :: (bytes2 ticket))
  | .hideFind tag => some (Header.hideFind :: (bytes4 tag))
  | .hideList => some [Header.hideList]
  | .hideAbort ticket => some (Header.hideAbort :: (bytes2 ticket))
  | .hideRetire ticket => some (Header.hideRetire :: (bytes2 ticket))
  | .feedRun => some [Header.feedRun]
  | .feedStop => some [Header.feedStop]
  | .feedStopAtClear => some [Header.feedStopAtClear]
  | .feedStopBeforeNext => some [Header.feedStopBeforeNext]
  | .feedHold => some [Header.feedHold]
  | .feedClearHold causes => some (Header.feedClearHold :: (bytes2 causes))
  | .feedRead => some [Header.feedRead]
  | .eyeForceLead operand => some (Header.eyeForce :: [operand])
  | .eyeForceTail operand => some (Header.eyeForce :: [operand])
  | .eyeRead => some [Header.eyeRead]
  | .gapSet gap => some (Header.gapSet :: (bytes2 gap))
  | .gapApply => some [Header.gapApply]
  | .gapRecover => some [Header.gapRecover]
  | .gapRead => some [Header.gapRead]
  | .lanePark lane => some (Header.lanePark :: ([lane]))
  | .laneUnpark lane => some (Header.laneUnpark :: ([lane]))
  | .laneRecover lane => some (Header.laneRecover :: ([lane]))
  | .laneRead lane => some (Header.laneRead :: ([lane]))
  | .laneWrite lane t c => some (Header.laneWrite :: ([lane] ++ laneSettingsBytes t ++ [c.present, c.gain] ++ bytes2 c.offset))
  | .lanePressure lane => some (Header.lanePressure :: ([lane]))
  | .tuneStart mask => some (Header.tuneStart :: (bytes4 mask))
  | .tuneAbort => some [Header.tuneAbort]
  | .tuneWrite lane t => some (Header.tuneWrite :: ([lane, t.mode] ++ bytes2 t.base ++ bytes2 t.target ++ [t.band, t.automatic, t.holdoff]))
  | .tuneRead lane => some (Header.tuneRead :: ([lane]))
  | .boardRecover board => some (Header.boardRecover :: ([board]))
  | .boardRead board => some (Header.boardRead :: ([board]))
  | .routeWrite index r => some (Header.routeWrite :: ([index, r.enabled, r.source] ++ bytes4 r.filter ++ [r.task, r.lineSet, r.pulseWidth, r.tallyIndex]))
  | .routeRead index => some (Header.routeRead :: ([index]))
  | .lineWrite line mode drive level => some (Header.lineWrite :: ([line, mode, drive, level]))
  | .lineClear lines => some (Header.lineClear :: ([lines]))
  | .lineRead line => some (Header.lineRead :: ([line]))
  | .tallyRead tally => some (Header.tallyRead :: ([tally]))
  | .tallyWrite tally threshold scope flags => some (Header.tallyWrite :: ([tally] ++ bytes4 threshold ++ [scope, flags]))
  | .tallyReset tally => some (Header.tallyReset :: ([tally]))
  | .machineReset => some [Header.machineReset]
  | .machineReadAttention => some [Header.machineReadAttention]
  | .machineWriteAttentionMask causes => some (Header.machineWriteAttentionMask :: (bytes2 causes))
  | .machineReadAttentionMask => some [Header.machineReadAttentionMask]
  | .machineReadSettings => some [Header.machineReadSettings]
  | .machineWriteSettings t => some (Header.machineWriteSettings :: (settingsBytes t))
  | .linkFetch _ => none
  | .malformedFrame _ _ => none
  | .frameDisregarded _ => none
  | .powerOn _ _ => none
  | .resetPin _ _ => none
  | .forwardStep => none
  | .backwardStep => none
  | .stopAssertion => none
  | .stopRelease => none
  | .eyeTransition => none
  | .leadDebounceTravelled => none
  | .gapFilterTravelled => none
  | .discardLightTravelled => none
  | .approachPointCrossing _ => none
  | .knifeLineCrossing _ => none
  | .trailMarkCrossing _ => none
  | .maximumLengthCrossing _ => none
  | .gaugePair _ _ => none
  | .moveCompletion _ _ => none
  | .moveTimerExpiry => none
  | .laneReading _ _ => none
  | .laneReseed _ => none
  | .batchCompletion => none
  | .formationTest => none
  | .holdoffTimerExpiry _ => none
  | .arbiterTest => none
  | .selectAnswer _ => none
  | .selectTimerExpiry => none
  | .busSlot _ => none
  | .echoArrival _ => none
  | .releaseIntervalExpiry => none
  | .pulseTimerExpiry _ => none
  | .framesAccepted => none

end Sys2Proof
end

