-- ==== Sys2Proof/Config.lean ====
section
/-! DEFINITION. The fixed numbers of the part (00_scope.md, "Numbers") and the free values: what the spec leaves
open while the part goes on. A free value is an opaque constant, so no proof can know it. -/

namespace Sys2Proof.Config

/-- Article table capacity (R1). -/
def articleCapacity : Nat := 64

/-- Hide table capacity (R23). -/
def hideCapacity : Nat := 8

/-- Backward steps that add REVERSE: one more than the reverse limit of 2.0 mm (R63). -/
def reverseSteps : Nat := 21

/-- In-tolerance pairs that complete a gap move (R86). -/
def settlePairs : Nat := 3

/-- Consecutive rail readings that fault a lane (R102). -/
def railReadings : Nat := 4

/-- Readings of one trial or phase of a tuning member (R125). -/
def trialReadings : Nat := 8

/-- Largest conditioned reading (R101). -/
def conditionedMax : Nat := 4095

/-- Largest contact distance, in 0.1 mm (R111). -/
def contactDistanceMax : Nat := 80000

/-- Largest pressure, kPa (R141). -/
def pressureMax : Nat := 600

/-- Largest event count of a hide record (R22). -/
def eventCountMax : Nat := 65535

/-! ## Time

One tick is 10 us, the finest unit the spec times in (the release interval). DESIGN CHOICE, log entry 2. -/

/-- Ticks in one unit of the gap move timeout, 0.1 s (R78). -/
def ticksPerMoveUnit : Nat := 10000

/-- Ticks in one unit of the select timeout, 0.1 ms (R155). -/
def ticksPerSelectUnit : Nat := 10

/-- Ticks in one unit of the release interval, 10 us (R155). -/
def ticksPerReleaseUnit : Nat := 1

/-- Ticks in one unit of the pulse width, 10 ms (R171). -/
def ticksPerPulseUnit : Nat := 1000

/-- Ticks in one millisecond, the unit LINE READ reports a pulse in. -/
def ticksPerMillisecond : Nat := 100

/-- Ticks in one second, the unit of the retune holdoff (R122). -/
def ticksPerSecond : Nat := 100000

/-- Ticks from the completion of a reset to the first accepted frame, 2 ms (R185). -/
def ticksToAcceptance : Nat := 200

/-! ## Free values -/

/-- FREE VALUE. Which of several timers that have run out in the same tick expires first: the spec settles such
pairs by "the order taken" and gives no order. Applied to the counter `Part.freeCount`. Log entry 3. -/
opaque timerChoice : Nat → Nat

/-- FREE VALUE. The level of an open-drain line's pin while the part releases it: it is the board's, not the
part's. Log entry 16. -/
opaque releasedPinHigh : Fin 4 → Bool

/-- FREE VALUE. The level of the open-drain ATTN pin while the part releases it: it is the board's, not the part's. Log
entry 48. -/
opaque releasedAttnHigh : Bool

/-- FREE VALUE. Bits 0 to 2 of byte 4 of the LANE PRESSURE reply outside the SPLIT case, where R149 gives them no
meaning. Log entry 17. -/
opaque pressureFlagsOutsideSplit : LaneNo → BitVec 3

end Sys2Proof.Config
end

