-- ==== Sys2Proof/Machine/State.lean ====
section
/-! DEFINITION. The state of the MS-32 as plain data: every table, register, record, timer and pin the spec gives
the part (`Part`), and the queue of waiting commands (`State`). Numbers the manual counts and compares are Nat in
host units; values that wrap or are bit masks are bit vectors. `Option` marks the fields the manual calls optional. -/

namespace Sys2Proof.Machine

/-! ## Article table (01_split_plans.md) -/

/-- The nine plan fields (R2), in host units. -/
structure PlanFields where
  splitGap : Nat
  gapTolerance : Nat
  feedSpeed : Nat
  basePressure : Nat
  edgeRelief : Nat
  bottomRelief : Nat
  bridgeBoost : Nat
  edgeBand : Nat
  rejectLimit : Nat
  deriving DecidableEq, Repr

/-- ACTIVE or RETIRING (R3). -/
inductive PlanState where
  | active
  | retiring
  deriving DecidableEq, Repr

/-- A split-plan record (R1 to R3). -/
structure Plan where
  code : Nat
  fields : PlanFields
  state : PlanState
  mark : Bool
  pins : Nat
  cleared : Word
  aborted : Word
  deriving DecidableEq, Repr

/-! ## Hide table (02_the_hide_table.md) -/

/-- The states of a hide record (R22). -/
inductive HideState where
  | announced
  | entering
  | splitting
  | cleared
  | aborted
  deriving DecidableEq, Repr

/-- The verdict of a CLEARED record (R34). -/
inductive Verdict where
  | none
  | pass
  | reject
  deriving DecidableEq, Repr

/-- The cause of an ABORTED record (R42, R43). -/
inductive AbortCause where
  | host
  | stop
  deriving DecidableEq, Repr

/-- A hide record (R22), with the two facts the table keeps while a record is ENTERING: that its approach point has
been reached (R32), and that its knife line was reached and the transition waits (R33). -/
structure Hide where
  ticket : Nat
  tag : Word
  article : Nat
  state : HideState
  unannounced : Bool
  overlength : Bool
  gapUnsettled : Bool
  lead : Option Pos
  trail : Option Pos
  snapshot : Option PlanFields
  coverage : Option (Nat × Nat)
  bottomEvents : Nat
  gapExcursions : Nat
  verdict : Option Verdict
  abortCause : Option AbortCause
  approachReached : Bool
  waiting : Bool
  deriving DecidableEq, Repr

/-- The unbound edge (R30). -/
structure UnboundEdge where
  lead : Pos
  trail : Option Pos
  deriving DecidableEq, Repr

/-! ## Entry eye (03_entry_eye_and_edge_capture.md) -/

/-- The eye state with the position it holds (R47). -/
inductive EyeState where
  | clear
  | leadPending (capture : Pos)
  | body
  | tailPending (tentative : Pos)
  | discard (lightStart : Option Pos)
  deriving DecidableEq, Repr

/-- The entry eye unit: the level of its input pin and the eye record (R46, R47). -/
structure Eye where
  inputHigh : Bool
  state : EyeState
  deriving DecidableEq, Repr

/-! ## Feed unit (04_feed_position_run_states_and_holds.md) -/

/-- The levels of the encoder pair's two channels as last taken, which a quadrature decode compares with the next
(R61; log entry 41). -/
structure Encoder where
  a : Bool
  b : Bool
  deriving DecidableEq, Repr

/-- The run states (R64). -/
inductive RunState where
  | stopped
  | running
  | stoppingAtClear
  | stoppingBeforeNext
  deriving DecidableEq, Repr

/-- The eleven hold causes (R69), in the order of their code list (12, "Sets and codes"). -/
inductive HoldCause where
  | stopLine
  | stopRecovery
  | hostHold
  | routeHold
  | unboundEdge
  | overlength
  | hideAborted
  | gapNotReady
  | gapFault
  | tuning
  | reverse
  deriving DecidableEq, Repr

/-- The hold cause set: each cause is a member or not (R69). -/
structure HoldSet where
  stopLine : Bool
  stopRecovery : Bool
  hostHold : Bool
  routeHold : Bool
  unboundEdge : Bool
  overlength : Bool
  hideAborted : Bool
  gapNotReady : Bool
  gapFault : Bool
  tuning : Bool
  reverse : Bool
  deriving DecidableEq, Repr

/-- The feed unit (R61, R63, R64, R69) and the level of the STOP line (R75). -/
structure Feed where
  position : Pos
  backwardRun : Nat
  runState : RunState
  holds : HoldSet
  stopLine : Bool
  deriving DecidableEq, Repr

/-! ## Knife gap axis (05_knife_gap_axis.md) -/

/-- The axis states (R79). -/
inductive AxisState where
  | idle
  | moving
  | stale
  | fault
  deriving DecidableEq, Repr

/-- A gap with its tolerance, in 0.01 mm (R78). -/
structure GapTol where
  gap : Nat
  tol : Nat
  deriving DecidableEq, Repr

/-- An order on the jack drive target output (R85, R87). -/
inductive JackOrder where
  | target (gap : Nat)
  | halt
  deriving DecidableEq, Repr

/-- The axis record (R78), the last order sent to the jack drive, and how many were sent since the last full reset
(the model's own count, so that an order repeated at the same gap is seen; log entry 20). -/
structure GapAxis where
  state : AxisState
  active : Option GapTol
  staged : Option GapTol
  target : Option GapTol
  settle : Nat
  lastPair : Option (Nat × Nat)
  moveTimer : Option Nat
  excursionRun : Bool
  applyPending : Bool
  jackOrder : JackOrder
  jackOrders : Nat
  deriving DecidableEq, Repr

/-! ## Lane sensing (06_lane_sensing_and_contact.md) -/

/-- The fault kinds of a lane (R97). -/
inductive LaneFaultKind where
  | sensor
  | drive
  | board
  deriving DecidableEq, Repr

/-- The service state of a lane (R97). -/
inductive Service where
  | inService
  | parked
  | faulted (kind : LaneFaultKind)
  deriving DecidableEq, Repr

/-- The error kinds of TUNE_ERROR (R121). -/
inductive TuneErrorKind where
  | gain
  | offsetMin
  | offsetMax
  | verify
  deriving DecidableEq, Repr

/-- The tune state of a lane (R121). -/
inductive TuneState where
  | untuned
  | tuning
  | tuned
  | tuneError (kind : TuneErrorKind)
  deriving DecidableEq, Repr

/-- The contact state of a lane (R97). -/
inductive Contact where
  | empty
  | contact
  | bottomed
  deriving DecidableEq, Repr

/-- The nine settings of a lane (R98). -/
structure LaneSettings where
  contactThreshold : Nat
  hysteresis : Nat
  enterDebounce : Nat
  exitDebounce : Nat
  bottomLimit : Nat
  contactLimit : Nat
  referenceBeta : Nat
  fastBeta : Nat
  haltEnable : Bool
  deriving DecidableEq, Repr

/-- A calibration: gain code and offset (R101). -/
structure Calibration where
  gain : Nat
  offset : Nat
  deriving DecidableEq, Repr

/-- A lane record (R97). -/
structure Lane where
  service : Service
  tune : TuneState
  contact : Contact
  lastRaw : Nat
  lastConditioned : Nat
  reference : Nat
  seedPending : Bool
  enterCount : Nat
  exitCount : Nat
  distance : Nat
  railCount : Nat
  calibration : Calibration
  settings : LaneSettings
  deriving DecidableEq, Repr

/-! ## Lane tuning (07_lane_tuning.md) -/

/-- The tune modes (R122). -/
inductive TuneMode where
  | full
  | offsetOnly
  | off
  deriving DecidableEq, Repr

/-- The six tune settings of a lane (R122). -/
structure TuneSettings where
  mode : TuneMode
  base : Nat
  target : Nat
  band : Nat
  automatic : Bool
  holdoff : Nat
  deriving DecidableEq, Repr

/-- What lane tuning keeps for one lane: its settings, whether it is in the request set (R134), and its holdoff
timer, disarmed or with the ticks remaining (R136). -/
structure LaneTuning where
  settings : TuneSettings
  requested : Bool
  holdoff : Option Nat
  deriving DecidableEq, Repr

/-- The phase of a batch member, with what it holds in that phase only (R123): the trial, base code and passing
average of the gain search. -/
inductive Phase where
  | gain (trial : Nat) (base : Nat) (passing : Nat)
  | offset
  | verify
  | finished
  deriving DecidableEq, Repr

/-- The values a lane had when it joined its batch (R123). -/
structure Saved where
  calibration : Calibration
  reference : Nat
  seedPending : Bool
  tune : TuneState
  deriving DecidableEq, Repr

/-- A member of a batch (R123). -/
structure Member where
  lane : LaneNo
  phase : Phase
  readings : Nat
  sum : Nat
  lastAverage : Option Nat
  clamped : Bool
  saved : Option Saved
  deriving DecidableEq, Repr

/-- The origin of a batch (R123). -/
inductive Origin where
  | host
  | automatic
  deriving DecidableEq, Repr

/-- The batch record (R123): the running batch, or the last one (R131). -/
structure Batch where
  running : Bool
  origin : Origin
  members : List Member
  deriving DecidableEq, Repr

/-- The tuning unit. -/
structure Tuning where
  batch : Option Batch
  lanes : Vector LaneTuning 32
  deriving DecidableEq, Repr

/-! ## Pressure unit (08_lane_pressures.md) -/

/-- The wanted pressure of each lane and the STOP level as the unit has taken it (R139). -/
structure Pressures where
  wanted : Vector Nat 32
  stopLevel : Bool
  deriving DecidableEq, Repr

/-! ## Lane drive bus (09_lane_drive_bus.md) -/

/-- The drive state of a lane, with the value in flight (R153). -/
inductive DriveState where
  | settled
  | waiting
  | inFlight (value : Nat)
  deriving DecidableEq, Repr

/-- The drive record of a lane (R153). -/
structure Drive where
  state : DriveState
  applied : Option Nat
  retry : Nat
  deriving DecidableEq, Repr

/-- The fault kinds of a valve board (R154). -/
inductive BoardFaultKind where
  | timeout
  | refused
  | silent
  deriving DecidableEq, Repr

/-- The state of a valve board (R154). -/
inductive BoardState where
  | unknown
  | ready
  | faulted (kind : BoardFaultKind)
  deriving DecidableEq, Repr

/-- The state of the bus master, with the board it serves (R155). -/
inductive MasterState where
  | idle
  | selecting (board : BoardNo)
  | opened (board : BoardNo)
  | draining (board : BoardNo)
  | releasing
  deriving DecidableEq, Repr

/-- A PAIR or SINGLE frame on the link: the pair of its board and the value carried for each lane, absent for a
partner marked keep (R160). -/
structure BusFrame where
  pair : Fin 4
  even : Option Nat
  odd : Option Nat
  deriving DecidableEq, Repr

/-- The lane drive bus. `dueNext` is the frame whose echo is due in the next slot and `dueAfter` the one whose echo
is due in the slot after that (R161). -/
structure Bus where
  drives : Vector Drive 32
  boards : Vector BoardState 4
  master : MasterState
  pointer : BoardNo
  cursor : Fin 4
  frameCount : Nat
  sessionLimit : Nat
  resetDrain : Bool
  selectTimer : Option Nat
  releaseTimer : Option Nat
  dueNext : Option BusFrame
  dueAfter : Option BusFrame
  deriving DecidableEq, Repr

/-! ## Reaction map, output lines and tallies (10_reactions_output_lines_and_tallies.md) -/

/-- The event kinds (R172), in the order of their codes. -/
inductive EventKind where
  | laneContactOn
  | laneBottomOn
  | laneReseed
  | laneFault
  | lanePhantom
  | tuneError
  | boardFault
  | hideEntering
  | hideSplitting
  | hideCleared
  | hideReject
  | hideAborted
  | overlength
  | gapExcursion
  | unboundEdge
  | gapMoveDone
  | gapFault
  | tallyReached
  deriving DecidableEq, Repr

/-- The level conditions (R176), in the order of their codes. -/
inductive Level where
  | anyContact
  | anyBottomed
  | anyBlind
  | feedEnabled
  | feedHeld
  | gapMoving
  deriving DecidableEq, Repr

/-- The source of a route (R171). -/
inductive Source where
  | event (kind : EventKind)
  | level (level : Level)
  deriving DecidableEq, Repr

/-- The filter of a route, as its source calls for (R172). -/
inductive Filter where
  | lanes (mask : BitVec 32)
  | article (code : Nat)
  | tallies (mask : BitVec 4)
  | none
  deriving DecidableEq, Repr

/-- The task of a route with the operand it calls for (R171). -/
inductive Task where
  | attend
  | holdFeed
  | stopAtClear
  | pulseLines (lines : BitVec 4) (width : Nat)
  | setLines (lines : BitVec 4)
  | clearLines (lines : BitVec 4)
  | follow (lines : BitVec 4)
  | tallyStep (tally : Fin 4)
  deriving DecidableEq, Repr

/-- A route (R171). -/
structure Route where
  enabled : Bool
  source : Source
  filter : Filter
  task : Task
  deriving DecidableEq, Repr

/-- ROUTED or DIRECT (R177). -/
inductive LineMode where
  | routed
  | direct
  deriving DecidableEq, Repr

/-- PUSH_PULL or OPEN_DRAIN (R177). -/
inductive LineDrive where
  | pushPull
  | openDrain
  deriving DecidableEq, Repr

/-- An output line record; the pulse timer is stopped or holds the ticks remaining (R177). -/
structure Line where
  mode : LineMode
  drive : LineDrive
  directActive : Bool
  latched : Bool
  pulse : Option Nat
  deriving DecidableEq, Repr

/-- RUNNING or PER_HIDE (R179). -/
inductive TallyScope where
  | running
  | perHide
  deriving DecidableEq, Repr

/-- A tally (R179). -/
structure Tally where
  count : Word
  threshold : Word
  scope : TallyScope
  invert : Bool
  frozen : Bool
  freezeOnStop : Bool
  deriving DecidableEq, Repr

/-! ## Command port (11_command_port_and_attention.md) -/

/-- The result codes (R187). -/
inductive ResultCode where
  | ok
  | pending
  | notFound
  | full
  | busy
  | range
  | state
  | retiring
  | malformed
  | none
  deriving DecidableEq, Repr

/-- The result slot (R187). -/
structure ResultSlot where
  header : Byte
  code : ResultCode
  reply : List Byte
  deriving DecidableEq, Repr

/-- The eleven attention causes (R190), in the order of their code list. -/
inductive Attention where
  | restarted
  | hideDone
  | unboundEdge
  | overlength
  | articleGone
  | tuneDone
  | gapFault
  | boardFault
  | laneFault
  | stop
  | route
  deriving DecidableEq, Repr

/-- A set of attention causes: each a member or not (R190, R192). -/
structure AttentionSet where
  restarted : Bool
  hideDone : Bool
  unboundEdge : Bool
  overlength : Bool
  articleGone : Bool
  tuneDone : Bool
  gapFault : Bool
  boardFault : Bool
  laneFault : Bool
  stop : Bool
  route : Bool
  deriving DecidableEq, Repr

/-- The eye polarity (R46). -/
inductive Polarity where
  | darkHigh
  | darkLow
  deriving DecidableEq, Repr

/-- The unannounced policy (R29). -/
inductive Policy where
  | refuse
  | adopt
  deriving DecidableEq, Repr

/-- The gap update method (R78). -/
inductive GapMethod where
  | atClear
  | host
  deriving DecidableEq, Repr

/-- The seventeen machine settings (R193), in host units. -/
structure Settings where
  throatLength : Nat
  maximumHideLength : Nat
  gapFilter : Nat
  leadDebounce : Nat
  approachMargin : Nat
  eyePolarity : Polarity
  unannouncedPolicy : Policy
  idleFeedSpeed : Nat
  idlePressure : Nat
  parkPressure : Nat
  scanPeriod : Nat
  gapMethod : GapMethod
  defaultGapTolerance : Nat
  gapMoveTimeout : Nat
  selectTimeout : Nat
  sessionFrameLimit : Nat
  releaseInterval : Nat
  deriving DecidableEq, Repr

/-- The command port. `acceptIn` holds the ticks until frames are accepted after a reset, and is absent once they
are (R185). `shiftedOut` is the model's own record of the bytes the spec fixes on SDO in the last frame, and `shortBits`
of the status bits, first bit first, in the last frame too short for a whole byte (R189; log entry 5). -/
structure Port where
  acceptIn : Option Nat
  slot : ResultSlot
  attention : AttentionSet
  attentionMask : AttentionSet
  shiftedOut : List Byte
  shortBits : List Bool
  deriving DecidableEq, Repr

/-! ## The part and the machine -/

/-- The MS-32 itself ("the part"): all it holds. `scanPeriod` is the period of the scan under way (R100).
`freeCount` is the model's own counter for free values (log entry 3). -/
structure Part where
  articles : List Plan
  hides : List Hide
  nextTicket : Nat
  unbound : Option UnboundEdge
  eye : Eye
  encoder : Encoder
  feed : Feed
  gap : GapAxis
  lanes : Vector Lane 32
  scanPeriod : Nat
  tuning : Tuning
  pressure : Pressures
  bus : Bus
  routes : Vector Route 16
  lines : Vector Line 4
  tallies : Vector Tally 4
  port : Port
  settings : Settings
  freeCount : Nat
  deriving DecidableEq, Repr

/-- The machine: the part, and the commands that wait to be taken, first in first out. -/
structure State extends Part where
  pending : List Instr
  deriving DecidableEq, Repr

/-- Reasons a step stops with a fault. None: nothing the spec describes stops the part; the faults of lanes, boards
and the axis are states of it (R87, R102, R103, R165). No meaning raises one, so this is safe. -/
inductive Fault where
  deriving DecidableEq, Repr

/-- Reasons a step is refused. -/
inductive Refusal where
  /-- Raised by exec's arm for a row that has no meaning yet. Safe. No arm raises it now. -/
  | notModelled (mnemonic : String)
  deriving DecidableEq, Repr

/-! ## Power-on values -/

/-- The empty hold cause set. -/
def HoldSet.empty : HoldSet :=
  ⟨false, false, false, false, false, false, false, false, false, false, false⟩

/-- The empty attention set. -/
def AttentionSet.empty : AttentionSet :=
  ⟨false, false, false, false, false, false, false, false, false, false, false⟩

/-- All eleven attention causes (R196). -/
def AttentionSet.all : AttentionSet :=
  ⟨true, true, true, true, true, true, true, true, true, true, true⟩

/-- RESTARTED alone (R195, R196). -/
def AttentionSet.restartedAlone : AttentionSet := { AttentionSet.empty with restarted := true }

/-- The power-on values of the machine settings (R193). -/
def Settings.powerOn : Settings where
  throatLength := 8500
  maximumHideLength := 40000
  gapFilter := 600
  leadDebounce := 50
  approachMargin := 1500
  eyePolarity := .darkHigh
  unannouncedPolicy := .refuse
  idleFeedSpeed := 100
  idlePressure := 80
  parkPressure := 40
  scanPeriod := 5
  gapMethod := .atClear
  defaultGapTolerance := 5
  gapMoveTimeout := 80
  selectTimeout := 20
  sessionFrameLimit := 8
  releaseInterval := 4

/-- The power-on values of a lane's settings (R98). -/
def LaneSettings.powerOn : LaneSettings where
  contactThreshold := 64
  hysteresis := 16
  enterDebounce := 3
  exitDebounce := 3
  bottomLimit := 3600
  contactLimit := 0
  referenceBeta := 8
  fastBeta := 4
  haltEnable := true

/-- The power-on values of a lane record (R119). -/
def Lane.powerOn : Lane where
  service := .inService
  tune := .untuned
  contact := .empty
  lastRaw := 0
  lastConditioned := 0
  reference := 0
  seedPending := false
  enterCount := 0
  exitCount := 0
  distance := 0
  railCount := 0
  calibration := ⟨16, 0⟩
  settings := LaneSettings.powerOn

/-- The power-on values of a lane's tuning (R122, R138). -/
def LaneTuning.powerOn : LaneTuning where
  settings := ⟨.full, 2048, 512, 10, false, 30⟩
  requested := false
  holdoff := none

/-- The power-on values of the gap axis (R96), with the halt order sent to the jack drive. -/
def GapAxis.powerOn : GapAxis where
  state := .stale
  active := none
  staged := none
  target := none
  settle := 0
  lastPair := none
  moveTimer := none
  excursionRun := false
  applyPending := false
  jackOrder := .halt
  jackOrders := 1

/-- The power-on values of the drive bus (R169) after the arbiter test that is made as the reset completes: every
lane of every board waits, so B0, the first after pointer B3, is selected, with the select timer armed (R158).
Pair cursor, frame count and session limit: DESIGN CHOICE, log entry 36. -/
def Bus.powerOn : Bus where
  drives := Vector.replicate 32 ⟨.waiting, none, 0⟩
  boards := Vector.replicate 4 .unknown
  master := .selecting 0
  pointer := 0
  cursor := 0
  frameCount := 0
  sessionLimit := 0
  resetDrain := false
  selectTimer := some (20 * Config.ticksPerSelectUnit)
  releaseTimer := none
  dueNext := none
  dueAfter := none

/-- The power-on value of a route (R184). -/
def Route.powerOn : Route := ⟨false, .event .laneContactOn, .lanes 0, .attend⟩

/-- The power-on value of a line (R177, R184). -/
def Line.powerOn : Line := ⟨.routed, .pushPull, false, false, none⟩

/-- The power-on value of a tally (R179, R184). -/
def Tally.powerOn : Tally := ⟨0, 0, .running, false, false, false⟩

/-- The power-on values of the command port (R196); frames are accepted 2 ms later (R185). -/
def Port.powerOn : Port where
  acceptIn := some Config.ticksToAcceptance
  slot := ⟨0, .none, []⟩
  attention := AttentionSet.restartedAlone
  attentionMask := AttentionSet.all
  shiftedOut := []
  shortBits := []

/-- The part right after power-on or the reset pin, with the eye input and the STOP line found at these levels:
every item at its power-on value (R19, R44, R60, R77, R96, R119, R138, R151, R169, R184, R196). The eye is seated
through DARK_HIGH (R60). A STOP line that stands asserted is taken as an assertion, without the attention cause
STOP (R77, R196). The encoder channels: log entry 41. -/
def Part.powerOn (eyeHigh stopAsserted : Bool) : Part where
  articles := []
  hides := []
  nextTicket := 1
  unbound := none
  eye := ⟨eyeHigh, if eyeHigh then .discard none else .clear⟩
  encoder := ⟨false, false⟩
  feed := ⟨0, 0, .stopped,
    { HoldSet.empty with stopLine := stopAsserted, stopRecovery := stopAsserted }, stopAsserted⟩
  gap := GapAxis.powerOn
  lanes := Vector.replicate 32 Lane.powerOn
  scanPeriod := 5
  tuning := ⟨none, Vector.replicate 32 LaneTuning.powerOn⟩
  pressure := ⟨Vector.replicate 32 40, stopAsserted⟩
  bus := Bus.powerOn
  routes := Vector.replicate 16 Route.powerOn
  lines := Vector.replicate 4 Line.powerOn
  tallies := Vector.replicate 4 Tally.powerOn
  port := Port.powerOn
  settings := Settings.powerOn
  freeCount := 0

/-- The machine right after reset: the eye input low (light) and the STOP line released (DESIGN CHOICE, log entry
6), both encoder channels low (DESIGN CHOICE, log entry 41), no command waiting. -/
def State.reset : State := { Part.powerOn false false with pending := [] }

end Sys2Proof.Machine
end

