-- ==== Sys2Proof/Machine/Ops.lean ====
section
/-! DEFINITION. The shared operations over the part's registers, tables and sets. One setter for each item of
`Part`; every other operation of the model is written over these, so what it leaves alone is read from its text. -/

namespace Sys2Proof.Machine

/-! ## One setter for each item of the part -/

/-- The part with another article table. -/
@[simps] def Part.setArticles (p : Part) (x : List Plan) : Part := { p with articles := x }
/-- The part with another hide table. -/
@[simps] def Part.setHides (p : Part) (x : List Hide) : Part := { p with hides := x }
/-- The part with another next-ticket counter. -/
@[simps] def Part.setNextTicket (p : Part) (x : Nat) : Part := { p with nextTicket := x }
/-- The part with another unbound edge, or none. -/
@[simps] def Part.setUnbound (p : Part) (x : Option UnboundEdge) : Part := { p with unbound := x }
/-- The part with another entry eye unit. -/
@[simps] def Part.setEye (p : Part) (x : Eye) : Part := { p with eye := x }
/-- The part with other levels of the encoder pair. -/
@[simps] def Part.setEncoder (p : Part) (x : Encoder) : Part := { p with encoder := x }
/-- The part with another feed unit. -/
@[simps] def Part.setFeed (p : Part) (x : Feed) : Part := { p with feed := x }
/-- The part with another gap axis. -/
@[simps] def Part.setGap (p : Part) (x : GapAxis) : Part := { p with gap := x }
/-- The part with other lane records. -/
@[simps] def Part.setLanes (p : Part) (x : Vector Lane 32) : Part := { p with lanes := x }
/-- The part with another period of the scan under way. -/
@[simps] def Part.setScanPeriod (p : Part) (x : Nat) : Part := { p with scanPeriod := x }
/-- The part with another tuning unit. -/
@[simps] def Part.setTuning (p : Part) (x : Tuning) : Part := { p with tuning := x }
/-- The part with another pressure unit. -/
@[simps] def Part.setPressure (p : Part) (x : Pressures) : Part := { p with pressure := x }
/-- The part with another drive bus. -/
@[simps] def Part.setBus (p : Part) (x : Bus) : Part := { p with bus := x }
/-- The part with other routes. -/
@[simps] def Part.setRoutes (p : Part) (x : Vector Route 16) : Part := { p with routes := x }
/-- The part with other line records. -/
@[simps] def Part.setLines (p : Part) (x : Vector Line 4) : Part := { p with lines := x }
/-- The part with other tallies. -/
@[simps] def Part.setTallies (p : Part) (x : Vector Tally 4) : Part := { p with tallies := x }
/-- The part with another command port. -/
@[simps] def Part.setPort (p : Part) (x : Port) : Part := { p with port := x }
/-- The part with other machine settings. -/
@[simps] def Part.setSettings (p : Part) (x : Settings) : Part := { p with settings := x }
/-- The part with another free-value counter. -/
@[simps] def Part.setFreeCount (p : Part) (x : Nat) : Part := { p with freeCount := x }

/-- An operation of the part, made on the machine: the queue of waiting commands is not touched. -/
def State.run (f : Part → Part) (s : State) : State := { s with toPart := f s.toPart }

/-- Every entry of a table changed by `f`. -/
def mapAll {α β : Type} {k : Nat} (f : α → β) (table : Vector α k) : Vector β k :=
  Vector.ofFn fun i => f table[i.val]

/-! ## Positions -/

/-- A position is reached when the forward distance from it to the feed position, modulo 2^32, is below 2^31
(Conventions, "Feed position and reaching a position"). -/
def reached (mark position : Pos) : Bool := decide ((position - mark).toNat < 2 ^ 31)

/-- The position a distance ahead of another, modulo 2^32. -/
def ahead (position : Pos) (distance : Nat) : Pos := position + BitVec.ofNat 32 distance

/-- Whether the feed position has reached a mark. -/
def Part.atOrPast (p : Part) (mark : Pos) : Bool := reached mark p.feed.position

/-! ## Hold causes and attention causes -/

/-- Whether a hold cause is in the set (R69). -/
def HoldSet.has (h : HoldSet) (c : HoldCause) : Bool :=
  match c with
  | .stopLine => h.stopLine
  | .stopRecovery => h.stopRecovery
  | .hostHold => h.hostHold
  | .routeHold => h.routeHold
  | .unboundEdge => h.unboundEdge
  | .overlength => h.overlength
  | .hideAborted => h.hideAborted
  | .gapNotReady => h.gapNotReady
  | .gapFault => h.gapFault
  | .tuning => h.tuning
  | .reverse => h.reverse

/-- The set with a hold cause made a member or not (R69). -/
def HoldSet.put (h : HoldSet) (c : HoldCause) (b : Bool) : HoldSet :=
  match c with
  | .stopLine => { h with stopLine := b }
  | .stopRecovery => { h with stopRecovery := b }
  | .hostHold => { h with hostHold := b }
  | .routeHold => { h with routeHold := b }
  | .unboundEdge => { h with unboundEdge := b }
  | .overlength => { h with overlength := b }
  | .hideAborted => { h with hideAborted := b }
  | .gapNotReady => { h with gapNotReady := b }
  | .gapFault => { h with gapFault := b }
  | .tuning => { h with tuning := b }
  | .reverse => { h with reverse := b }

/-- Whether the hold cause set is empty (R73). -/
def HoldSet.isEmpty (h : HoldSet) : Bool := h == HoldSet.empty

/-- The members of a set and not of another. -/
def HoldSet.minus (h k : HoldSet) : HoldSet where
  stopLine := h.stopLine && !k.stopLine
  stopRecovery := h.stopRecovery && !k.stopRecovery
  hostHold := h.hostHold && !k.hostHold
  routeHold := h.routeHold && !k.routeHold
  unboundEdge := h.unboundEdge && !k.unboundEdge
  overlength := h.overlength && !k.overlength
  hideAborted := h.hideAborted && !k.hideAborted
  gapNotReady := h.gapNotReady && !k.gapNotReady
  gapFault := h.gapFault && !k.gapFault
  tuning := h.tuning && !k.tuning
  reverse := h.reverse && !k.reverse

/-- Whether an attention cause is in the set (R190). -/
def AttentionSet.has (a : AttentionSet) (c : Attention) : Bool :=
  match c with
  | .restarted => a.restarted
  | .hideDone => a.hideDone
  | .unboundEdge => a.unboundEdge
  | .overlength => a.overlength
  | .articleGone => a.articleGone
  | .tuneDone => a.tuneDone
  | .gapFault => a.gapFault
  | .boardFault => a.boardFault
  | .laneFault => a.laneFault
  | .stop => a.stop
  | .route => a.route

/-- The set with an attention cause added (R190). -/
def AttentionSet.add (a : AttentionSet) (c : Attention) : AttentionSet :=
  match c with
  | .restarted => { a with restarted := true }
  | .hideDone => { a with hideDone := true }
  | .unboundEdge => { a with unboundEdge := true }
  | .overlength => { a with overlength := true }
  | .articleGone => { a with articleGone := true }
  | .tuneDone => { a with tuneDone := true }
  | .gapFault => { a with gapFault := true }
  | .boardFault => { a with boardFault := true }
  | .laneFault => { a with laneFault := true }
  | .stop => { a with stop := true }
  | .route => { a with route := true }

/-- The part with another hold cause set. -/
@[simps!] def Part.setHolds (p : Part) (h : HoldSet) : Part := p.setFeed { p.feed with holds := h }

/-- A request to add a hold cause (`true`) or to remove it (`false`), as R69 takes it. -/
def Part.putHold (p : Part) (c : HoldCause) (b : Bool) : Part := p.setHolds (p.feed.holds.put c b)

/-- The part with another run state. -/
@[simps!] def Part.setRunState (p : Part) (r : RunState) : Part := p.setFeed { p.feed with runState := r }

/-- A block adds a cause to the pending attention set (R190). -/
def Part.attend (p : Part) (c : Attention) : Part :=
  p.setPort { p.port with attention := p.port.attention.add c }

/-! ## Lanes -/

/-- The record of a lane. -/
def Part.lane (p : Part) (n : LaneNo) : Lane := p.lanes[n.val]

/-- The part with another record for a lane. -/
def Part.setLane (p : Part) (n : LaneNo) (l : Lane) : Part := p.setLanes (p.lanes.set n.val l)

/-- Contact state EMPTY, with the counters and the contact distance 0: the silent drop of R99. -/
def Lane.dropContact (l : Lane) : Lane :=
  { l with contact := .empty, enterCount := 0, exitCount := 0, distance := 0 }

/-- What lane tuning keeps for a lane. -/
def Part.laneTuning (p : Part) (n : LaneNo) : LaneTuning := p.tuning.lanes[n.val]

/-- The part with another tuning record for a lane. -/
def Part.setLaneTuning (p : Part) (n : LaneNo) (t : LaneTuning) : Part :=
  p.setTuning { p.tuning with lanes := p.tuning.lanes.set n.val t }

/-- The drive record of a lane. -/
def Part.drive (p : Part) (n : LaneNo) : Drive := p.bus.drives[n.val]

/-- The part with another drive record for a lane. -/
def Part.setDrive (p : Part) (n : LaneNo) (d : Drive) : Part :=
  p.setBus { p.bus with drives := p.bus.drives.set n.val d }

/-- The wanted pressure of a lane. -/
def Part.wanted (p : Part) (n : LaneNo) : Nat := p.pressure.wanted[n.val]

/-- The valve board of a lane: lane n belongs to board n div 8 (Conventions). -/
def boardOf (n : LaneNo) : BoardNo := ⟨n.val / 8, by omega⟩

/-- Lane 8b + i of board b. -/
def laneOfBoard (b : BoardNo) (i : Fin 8) : LaneNo := ⟨8 * b.val + i.val, by omega⟩

/-- The eight lanes of a board, ascending. -/
def lanesOfBoard (b : BoardNo) : List LaneNo := (List.finRange 8).map (laneOfBoard b)

/-- The thirty-two lanes, L0 first. -/
def allLanes : List LaneNo := List.finRange 32

/-- A set of lanes as a mask: bit n for lane Ln (R197). -/
def laneMask (lanes : List LaneNo) : Word :=
  lanes.foldl (fun m n => m ||| BitVec.twoPow 32 n.val) 0

/-- The lanes of a mask, ascending. -/
def maskLanes (mask : Word) : List LaneNo := allLanes.filter fun n => mask.getLsbD n.val

/-! ## Articles -/

/-- The split-plan record of a code. -/
def Part.plan? (p : Part) (code : Nat) : Option Plan := p.articles.find? fun a => a.code == code

/-- The default article: the record with the default mark (R4). -/
def Part.defaultPlan? (p : Part) : Option Plan := p.articles.find? fun a => a.mark

/-- The part with the record of a code changed by `f`. -/
def Part.modifyPlan (p : Part) (code : Nat) (f : Plan → Plan) : Part :=
  p.setArticles (p.articles.map fun a => if a.code == code then f a else a)

/-! ## Hides -/

/-- The hide record of a ticket. -/
def Part.hide? (p : Part) (ticket : Nat) : Option Hide := p.hides.find? fun h => h.ticket == ticket

/-- The part with the record of a ticket changed by `f`. -/
def Part.modifyHide (p : Part) (ticket : Nat) (f : Hide → Hide) : Part :=
  p.setHides (p.hides.map fun h => if h.ticket == ticket then f h else h)

/-- The record that is SPLITTING (R33). -/
def Part.splitting? (p : Part) : Option Hide := p.hides.find? fun h => h.state == .splitting

/-- The oldest ENTERING record in table order. -/
def Part.oldestEntering? (p : Part) : Option Hide := p.hides.find? fun h => h.state == .entering

/-- The oldest ENTERING record that has reached its approach point (R32, R89). -/
def Part.oldestApproached? (p : Part) : Option Hide :=
  p.hides.find? fun h => h.state == .entering && h.approachReached

/-- The record is ENTERING or SPLITTING. -/
def Hide.inPassage (h : Hide) : Bool := h.state == .entering || h.state == .splitting

/-! ## Timers of the move and the release -/

/-- A gap move timer armed with a timeout in units of 0.1 s (R78, R85). -/
def moveTicks (units : Nat) : Nat := units * Config.ticksPerMoveUnit

/-- A select timer armed with a timeout in units of 0.1 ms (R155, R158). -/
def selectTicks (units : Nat) : Nat := units * Config.ticksPerSelectUnit

/-- A release timer armed with an interval in units of 10 us (R155, R164). -/
def releaseTicks (units : Nat) : Nat := units * Config.ticksPerReleaseUnit

/-- A pulse timer started with a width in units of 10 ms (R171, R175). -/
def pulseTicks (units : Nat) : Nat := units * Config.ticksPerPulseUnit

/-- A holdoff timer armed with a holdoff in seconds (R122, R136). -/
def holdoffTicks (seconds : Nat) : Nat := seconds * Config.ticksPerSecond

end Sys2Proof.Machine
end

