-- ==== Sys2Proof/Machine/Flags.lean ====
section
/-! DEFINITION. The conditions the part derives from its state and never stores: seeing and blind lanes, the contact
set, global halt, knife-line occupancy, the feed outputs, frozen tallies, the level conditions and line pins, ATTN,
the select lines and the status byte. -/

namespace Sys2Proof.Machine

/-! ## Lanes -/

/-- A lane is seeing when it is IN_SERVICE and TUNED; every other lane is blind (Conventions). -/
def Lane.seeing (l : Lane) : Bool := l.service == .inService && l.tune == .tuned

/-- The contact state is CONTACT or BOTTOMED. -/
def Lane.inContact (l : Lane) : Bool := !(l.contact == .empty)

/-- A lane is driven unless it is FAULTED(DRIVE) or FAULTED(BOARD) (R153). -/
def Lane.driven (l : Lane) : Bool := !(l.service == .faulted .drive || l.service == .faulted .board)

/-- The lane belongs to the contact set: seeing, and in CONTACT or BOTTOMED (Conventions, R142). -/
def Lane.inContactSet (l : Lane) : Bool := l.seeing && l.inContact

/-- The contact set, ascending (R142). -/
def Part.contactSet (p : Part) : List LaneNo := allLanes.filter fun n => (p.lane n).inContactSet

/-- The lowest and the highest lane of the contact set, absent when the set is empty (R142). -/
def Part.contactSpan (p : Part) : Option (Nat × Nat) :=
  match p.contactSet with
  | [] => none
  | a :: rest => some (a.val, (rest.getLast?.getD a).val)

/-- Global halt: some seeing lane with halt enable set is in CONTACT or BOTTOMED (R110). -/
def Part.globalHalt (p : Part) : Bool :=
  allLanes.any fun n => (p.lane n).inContactSet && (p.lane n).settings.haltEnable

/-- A lane is halted when its own halt enable is set and global halt is in effect (R110). -/
def Part.halted (p : Part) (n : LaneNo) : Bool := (p.lane n).settings.haltEnable && p.globalHalt

/-- Lane n is bridged when a neighbour it has is blind (R143). -/
def Part.bridged (p : Part) (n : LaneNo) : Bool :=
  (if below : 0 < n.val then !(p.lane ⟨n.val - 1, by omega⟩).seeing else false) ||
  (if above : n.val + 1 < 32 then !(p.lane ⟨n.val + 1, above⟩).seeing else false)

/-- The tune window: target less w to target plus w, w the target times the band divided by 100 (R112, R122). -/
def TuneSettings.window (t : TuneSettings) : Nat × Nat :=
  (t.target - t.target * t.band / 100, t.target + t.target * t.band / 100)

/-- A value lies inside the tune window, both ends included. -/
def TuneSettings.inWindow (t : TuneSettings) (x : Nat) : Bool :=
  decide (t.window.1 ≤ x) && decide (x ≤ t.window.2)

/-! ## Throat and feed -/

/-- The knife line is occupied while a record is SPLITTING or the hold cause set contains HIDE_ABORTED or
STOP_RECOVERY (Conventions, R72). -/
def Part.knifeOccupied (p : Part) : Bool :=
  p.splitting?.isSome || p.feed.holds.hideAborted || p.feed.holds.stopRecovery

/-- Some record is ENTERING or SPLITTING. -/
def Part.anyInPassage (p : Part) : Bool := p.hides.any Hide.inPassage

/-- The feed enable output: the run state is not STOPPED and the hold cause set is empty (R73). -/
def Part.feedEnable (p : Part) : Bool := !(p.feed.runState == .stopped) && p.feed.holds.isEmpty

/-- The speed reference output: the SPLITTING record's snapshot speed, else the oldest ENTERING record's, else the
idle feed speed (R74). -/
def Part.speedReference (p : Part) : Nat :=
  match p.splitting?.orElse fun _ => p.oldestEntering? with
  | some h => (h.snapshot.map (·.feedSpeed)).getD p.settings.idleFeedSpeed
  | none => p.settings.idleFeedSpeed

/-- The analog level of the speed reference, in units of 10 uV: 2.5 V at 400 (R74). -/
def Part.speedReferenceLevel (p : Part) : Nat := 625 * p.speedReference

/-- A tuning batch is running (R123). -/
def Part.batchRunning (p : Part) : Bool := (p.tuning.batch.map (·.running)).getD false

/-- The member of the running batch for a lane (R123). -/
def Part.member? (p : Part) (n : LaneNo) : Option Member :=
  match p.tuning.batch with
  | some b => if b.running then b.members.find? fun m => m.lane == n else none
  | none => none

/-- The level at the eye, read through the polarity: true for dark (R46). -/
def Part.eyeDark (p : Part) : Bool :=
  match p.settings.eyePolarity with
  | .darkHigh => p.eye.inputHigh
  | .darkLow => !p.eye.inputHigh

/-! ## Tallies, level conditions and lines -/

/-- A tally is frozen by its own flag, or by freeze-on-stop while the STOP line is asserted (R179, R181). -/
def Tally.frozenNow (t : Tally) (stopLine : Bool) : Bool := t.frozen || (t.freezeOnStop && stopLine)

/-- The lane mask of a filter; empty for a filter of another kind. -/
def Filter.laneSet (f : Filter) : Word :=
  match f with
  | .lanes mask => mask
  | _ => 0

/-- A level condition, read from its owners' state as it stands (R176). -/
def Part.levelHolds (p : Part) (l : Level) (f : Filter) : Bool :=
  match l with
  | .anyContact => (maskLanes f.laneSet).any fun n => (p.lane n).inContactSet
  | .anyBottomed => (maskLanes f.laneSet).any fun n => (p.lane n).seeing && (p.lane n).contact == .bottomed
  | .anyBlind => (maskLanes f.laneSet).any fun n => !(p.lane n).seeing
  | .feedEnabled => p.feedEnable
  | .feedHeld => !p.feed.holds.isEmpty
  | .gapMoving => p.gap.state == .moving

/-- The condition of a route is true now: its source is a level condition that holds (R176). -/
def Part.conditionTrue (p : Part) (r : Route) : Bool :=
  match r.source with
  | .level l => p.levelHolds l r.filter
  | .event _ => false

/-- An enabled FOLLOW route whose line set holds the line has a true condition (R177). -/
def Part.lineFollowed (p : Part) (i : Fin 4) : Bool :=
  p.routes.toList.any fun r =>
    match r.task with
    | .follow lines => r.enabled && lines.getLsbD i.val && p.conditionTrue r
    | _ => false

/-- The record of a line. -/
def Part.line (p : Part) (i : Fin 4) : Line := p.lines[i.val]

/-- Whether a line is active (R177). -/
def Part.lineActive (p : Part) (i : Fin 4) : Bool :=
  match (p.line i).mode with
  | .direct => (p.line i).directActive
  | .routed => (p.line i).latched || (p.line i).pulse.isSome || p.lineFollowed i

/-- Whether the pin of a line is high: a PUSH_PULL pin follows the activity, an OPEN_DRAIN pin is low while active
and released while inactive, when its level is the board's (R177; log entry 16). -/
def Part.linePinHigh (p : Part) (i : Fin 4) : Bool :=
  match (p.line i).drive with
  | .pushPull => p.lineActive i
  | .openDrain => if p.lineActive i then false else Config.releasedPinHigh i

/-! ## Port and bus outputs -/

/-- The ATTN line is active exactly while the pending set and the enable mask share a cause (R192). -/
def Part.attnActive (p : Part) : Bool :=
  let a := p.port.attention
  let m := p.port.attentionMask
  (a.restarted && m.restarted) || (a.hideDone && m.hideDone) || (a.unboundEdge && m.unboundEdge) ||
    (a.overlength && m.overlength) || (a.articleGone && m.articleGone) || (a.tuneDone && m.tuneDone) ||
    (a.gapFault && m.gapFault) || (a.boardFault && m.boardFault) || (a.laneFault && m.laneFault) ||
    (a.stop && m.stop) || (a.route && m.route)

/-- Whether the ATTN pin is high: pulled low while the line is active and released while it is inactive, when its level
is the board's (R192, R196; log entry 48). -/
def Part.attnPinHigh (p : Part) : Bool := if p.attnActive then false else Config.releasedAttnHigh

/-- The board the bus master serves: none in IDLE and RELEASING (R155). -/
def MasterState.board (m : MasterState) : Option BoardNo :=
  match m with
  | .idle => none
  | .selecting b => some b
  | .opened b => some b
  | .draining b => some b
  | .releasing => none

/-- The select line of a board is raised (R155). -/
def Part.selectLine (p : Part) (b : BoardNo) : Bool := p.bus.master.board == some b

/-- A lane is WAITING and driven: its value is to be sent (R156, R158). -/
def Part.waitingDriven (p : Part) (n : LaneNo) : Bool :=
  (p.drive n).state == .waiting && (p.lane n).driven

/-- A byte of flags, the first of the list in bit 0. -/
def flagByte (flags : List Bool) : Byte := BitVec.ofNat 8 (flags.foldr (fun b n => 2 * n + b.toNat) 0)

/-- The status byte (R189, R199). -/
def Part.statusByte (p : Part) : Byte :=
  flagByte [true, p.port.slot.code == .none, p.batchRunning, p.knifeOccupied, p.feed.stopLine,
    !p.feed.holds.isEmpty, p.feedEnable, p.attnActive]

end Sys2Proof.Machine
end

