-- ==== Sys2Proof/Machine/Layouts.lean ====
section
/-! DEFINITION. The codes and byte layouts of chapter 12: what each reply shifts out. Numbers are sent most
significant byte first and an absent field as zeros (R197). -/

namespace Sys2Proof.Machine

/-! ## Numbers -/

/-- One byte of a number. -/
def u8 (x : Nat) : List Byte := [BitVec.ofNat 8 x]
/-- Two bytes of a number. -/
def u16 (x : Nat) : List Byte := bytes2 (BitVec.ofNat 16 x)
/-- Four bytes of a number. -/
def u32 (x : Nat) : List Byte := bytes4 (BitVec.ofNat 32 x)

/-! ## Codes (12, "Sets and codes") -/

def ResultCode.byte (c : ResultCode) : Byte :=
  match c with
  | .ok => 0x00
  | .pending => 0x01
  | .notFound => 0x02
  | .full => 0x03
  | .busy => 0x04
  | .range => 0x05
  | .state => 0x06
  | .retiring => 0x07
  | .malformed => 0x08
  | .none => 0xFF

def HideState.code (s : HideState) : Nat :=
  match s with
  | .announced => 1
  | .entering => 2
  | .splitting => 3
  | .cleared => 4
  | .aborted => 5

def RunState.code (s : RunState) : Nat :=
  match s with
  | .stopped => 0
  | .running => 1
  | .stoppingAtClear => 2
  | .stoppingBeforeNext => 3

def EyeState.code (s : EyeState) : Nat :=
  match s with
  | .clear => 0
  | .leadPending _ => 1
  | .body => 2
  | .tailPending _ => 3
  | .discard _ => 4

def AxisState.code (s : AxisState) : Nat :=
  match s with
  | .idle => 0
  | .moving => 1
  | .stale => 2
  | .fault => 3

def Service.code (s : Service) : Nat :=
  match s with
  | .inService => 0
  | .parked => 1
  | .faulted .sensor => 2
  | .faulted .drive => 3
  | .faulted .board => 4

def TuneState.code (s : TuneState) : Nat :=
  match s with
  | .untuned => 0
  | .tuning => 1
  | .tuned => 2
  | .tuneError .gain => 3
  | .tuneError .offsetMin => 4
  | .tuneError .offsetMax => 5
  | .tuneError .verify => 6

def Contact.code (s : Contact) : Nat :=
  match s with
  | .empty => 0
  | .contact => 1
  | .bottomed => 2

def BoardState.code (s : BoardState) : Nat :=
  match s with
  | .unknown => 0
  | .ready => 1
  | .faulted .timeout => 2
  | .faulted .refused => 3
  | .faulted .silent => 4

/-- Low four bits the state, high four bits the board served; 0 where none is (log entry 19). -/
def MasterState.code (s : MasterState) : Nat :=
  match s with
  | .idle => 0
  | .selecting b => 1 + 16 * b.val
  | .opened b => 2 + 16 * b.val
  | .draining b => 3 + 16 * b.val
  | .releasing => 4

def Verdict.code (v : Verdict) : Nat :=
  match v with
  | .none => 0
  | .pass => 1
  | .reject => 2

def AbortCause.code (c : AbortCause) : Nat :=
  match c with
  | .host => 1
  | .stop => 2

def EventKind.code (k : EventKind) : Nat :=
  match k with
  | .laneContactOn => 0
  | .laneBottomOn => 1
  | .laneReseed => 2
  | .laneFault => 3
  | .lanePhantom => 4
  | .tuneError => 5
  | .boardFault => 6
  | .hideEntering => 7
  | .hideSplitting => 8
  | .hideCleared => 9
  | .hideReject => 10
  | .hideAborted => 11
  | .overlength => 12
  | .gapExcursion => 13
  | .unboundEdge => 14
  | .gapMoveDone => 15
  | .gapFault => 16
  | .tallyReached => 17

def Level.code (l : Level) : Nat :=
  match l with
  | .anyContact => 32
  | .anyBottomed => 33
  | .anyBlind => 34
  | .feedEnabled => 35
  | .feedHeld => 36
  | .gapMoving => 37

def Source.code (s : Source) : Nat :=
  match s with
  | .event k => k.code
  | .level l => l.code

def Task.code (t : Task) : Nat :=
  match t with
  | .attend => 0
  | .holdFeed => 1
  | .stopAtClear => 2
  | .pulseLines _ _ => 3
  | .setLines _ => 4
  | .clearLines _ => 5
  | .follow _ => 6
  | .tallyStep _ => 7

def TuneMode.code (m : TuneMode) : Nat :=
  match m with
  | .full => 0
  | .offsetOnly => 1
  | .off => 2

def Origin.code (o : Origin) : Nat :=
  match o with
  | .host => 0
  | .automatic => 1

def Phase.code (f : Phase) : Nat :=
  match f with
  | .gain _ _ _ => 0
  | .offset => 1
  | .verify => 2
  | .finished => 3

def DriveState.code (d : DriveState) : Nat :=
  match d with
  | .settled => 0
  | .waiting => 1
  | .inFlight _ => 2

/-! ## Sets -/

/-- A hold cause set in two bytes (12, "Sets and codes"). -/
def HoldSet.bytes (h : HoldSet) : List Byte :=
  [flagByte [h.gapFault, h.tuning, h.reverse],
   flagByte [h.stopLine, h.stopRecovery, h.hostHold, h.routeHold, h.unboundEdge, h.overlength, h.hideAborted,
     h.gapNotReady]]

/-- An attention set in two bytes (12, "Sets and codes"). -/
def AttentionSet.bytes (a : AttentionSet) : List Byte :=
  [flagByte [a.laneFault, a.stop, a.route],
   flagByte [a.restarted, a.hideDone, a.unboundEdge, a.overlength, a.articleGone, a.tuneDone, a.gapFault,
     a.boardFault]]

/-! ## Records -/

/-- The plan fields: bytes 3 to 17 of the article record. -/
def PlanFields.bytes (f : PlanFields) : List Byte :=
  u16 f.splitGap ++ u8 f.gapTolerance ++ u16 f.feedSpeed ++ u16 f.basePressure ++ u16 f.edgeRelief ++
    u16 f.bottomRelief ++ u8 f.bridgeBoost ++ u8 f.edgeBand ++ u16 f.rejectLimit

/-- The article record, 27 bytes (R10). -/
def Plan.bytes (a : Plan) : List Byte :=
  u16 a.code ++ [flagByte [a.state == .retiring, a.mark]] ++ a.fields.bytes ++ u8 a.pins ++ bytes4 a.cleared ++
    bytes4 a.aborted

/-- The hide record, 41 bytes (R39). -/
def Hide.bytes (h : Hide) : List Byte :=
  u16 h.ticket ++ bytes4 h.tag ++ u16 h.article ++ u8 h.state.code ++
    [flagByte [h.unannounced, h.overlength, h.gapUnsettled],
     flagByte [h.lead.isSome, h.trail.isSome, h.snapshot.isSome, h.coverage.isSome, h.verdict.isSome,
       h.abortCause.isSome]] ++
    bytes4 (h.lead.getD 0) ++ bytes4 (h.trail.getD 0) ++
    (match h.snapshot with
      | some f => f.bytes
      | none => List.replicate 15 0) ++
    u8 ((h.coverage.map (·.1)).getD 0) ++ u8 ((h.coverage.map (·.2)).getD 0) ++ u16 h.bottomEvents ++
    u16 h.gapExcursions ++
    u8 (match h.verdict, h.abortCause with
      | some v, _ => v.code
      | none, some c => c.code
      | none, none => 0)

/-- The list of hide records: the count, then ticket and state of each in table order (R41). -/
def hideListBytes (hides : List Hide) : List Byte :=
  u8 hides.length ++ hides.flatMap fun h => u16 h.ticket ++ u8 h.state.code

/-- The run state and the hold cause set: the reply of the first five FEED commands and of FEED CLEAR HOLD. -/
def Part.feedReply (p : Part) : List Byte := u8 p.feed.runState.code ++ p.feed.holds.bytes

/-- FEED READ, 11 bytes (R76). -/
def Part.feedBytes (p : Part) : List Byte :=
  bytes4 p.feed.position ++ u8 p.feed.backwardRun ++ p.feedReply ++
    [flagByte [p.feedEnable, p.feed.stopLine, p.knifeOccupied]] ++ u16 p.speedReference

/-- The position the eye holds in its state (R47). -/
def EyeState.held (e : EyeState) : Option Pos :=
  match e with
  | .clear => none
  | .leadPending c => some c
  | .body => none
  | .tailPending t => some t
  | .discard l => l

/-- EYE READ, 10 bytes (R57). -/
def Part.eyeBytes (p : Part) : List Byte :=
  u8 p.eye.state.code ++
    [flagByte [p.eyeDark, p.settings.eyePolarity == .darkLow, p.eye.state.held.isSome]] ++
    bytes4 (p.eye.state.held.getD 0) ++ bytes4 p.feed.position

/-- GAP READ, 21 bytes (R94). The time remaining is rounded down (log entry 18). -/
def Part.gapBytes (p : Part) : List Byte :=
  let g := p.gap
  u8 g.state.code ++
    [flagByte [p.feed.holds.gapFault],
     flagByte [g.active.isSome, g.staged.isSome, g.target.isSome, g.lastPair.isSome, g.moveTimer.isSome,
       g.excursionRun, g.applyPending, p.feed.holds.gapNotReady]] ++
    u16 ((g.active.map (·.gap)).getD 0) ++ u8 ((g.active.map (·.tol)).getD 0) ++
    u16 ((g.staged.map (·.gap)).getD 0) ++ u8 ((g.staged.map (·.tol)).getD 0) ++
    u16 ((g.target.map (·.gap)).getD 0) ++ u8 ((g.target.map (·.tol)).getD 0) ++
    u8 g.settle ++ u16 ((g.lastPair.map (·.1)).getD 0) ++ u16 ((g.lastPair.map (·.2)).getD 0) ++
    u8 (g.moveTimer.getD 0 / Config.ticksPerMoveUnit) ++
    u8 (match p.settings.gapMethod with
      | .atClear => 0
      | .host => 1) ++
    u8 p.settings.defaultGapTolerance ++ u8 p.settings.gapMoveTimeout

/-- The settings of a lane: bytes 21 to 34 of the lane summary. -/
def LaneSettings.bytes (t : LaneSettings) : List Byte :=
  u16 t.contactThreshold ++ u8 t.hysteresis ++ u8 t.enterDebounce ++ u8 t.exitDebounce ++ u16 t.bottomLimit ++
    u32 t.contactLimit ++ u8 t.referenceBeta ++ u8 t.fastBeta ++ u8 t.haltEnable.toNat

/-- LANE READ, 35 bytes (R116). -/
def Part.laneBytes (p : Part) (n : LaneNo) : List Byte :=
  let l := p.lane n
  u8 n.val ++ u8 l.service.code ++ u8 l.tune.code ++ u8 l.contact.code ++
    [flagByte [l.seedPending, l.seeing, p.globalHalt, p.halted n]] ++
    u16 l.lastRaw ++ u16 l.lastConditioned ++ u16 l.reference ++ u8 l.enterCount ++ u8 l.exitCount ++
    u32 l.distance ++ u8 l.railCount ++ u8 l.calibration.gain ++ u16 l.calibration.offset ++ l.settings.bytes

/-- A lane's seven bytes in the board summary. -/
def Part.driveBytes (p : Part) (n : LaneNo) : List Byte :=
  let d := p.drive n
  [BitVec.ofNat 8 (d.state.code + 4 * (p.lane n).driven.toNat + 8 * d.applied.isSome.toNat + 16 * d.retry)] ++
    u16 (p.wanted n) ++ u16 (d.applied.getD 0) ++
    u16 (match d.state with
      | .inFlight v => v
      | _ => 0)

/-- BOARD READ, 65 bytes (R167). The pair cursor is the pair's own number, 4b to 4b+3 (log entry 19). -/
def Part.boardBytes (p : Part) (b : BoardNo) : List Byte :=
  let session := p.bus.master == .opened b || p.bus.master == .draining b
  u8 b.val ++ u8 (p.bus.boards[b.val]).code ++ u8 p.bus.master.code ++ u8 p.bus.pointer.val ++
    u8 (if session then p.bus.frameCount else 0) ++ u8 (if session then 4 * b.val + p.bus.cursor.val else 0) ++
    (lanesOfBoard b).flatMap p.driveBytes ++
    u8 p.settings.selectTimeout ++ u8 p.settings.sessionFrameLimit ++ u8 p.settings.releaseInterval

/-- The four bytes of a filter: an article code or a tally mask in the low bytes (R197). -/
def Filter.word (f : Filter) : Word :=
  match f with
  | .lanes mask => mask
  | .article code => BitVec.ofNat 32 code
  | .tallies mask => mask.setWidth 32
  | .none => 0

/-- The line set of a task; 0 where it calls for none. -/
def Task.lineSet (t : Task) : BitVec 4 :=
  match t with
  | .pulseLines lines _ => lines
  | .setLines lines => lines
  | .clearLines lines => lines
  | .follow lines => lines
  | _ => 0

/-- The pulse width byte of a task; 0 where it calls for none. -/
def Task.width (t : Task) : Nat :=
  match t with
  | .pulseLines _ width => width
  | _ => 0

/-- The tally index byte of a task; 0 where it calls for none. -/
def Task.tallyIndex (t : Task) : Nat :=
  match t with
  | .tallyStep i => i.val
  | _ => 0

/-- ROUTE READ, 12 bytes: the route as ROUTE WRITE sends it, then whether a FOLLOW route's condition is true
(R183). -/
def Part.routeBytes (p : Part) (i : Fin 16) : List Byte :=
  let r := p.routes[i.val]
  u8 i.val ++ u8 r.enabled.toNat ++ u8 r.source.code ++ bytes4 r.filter.word ++ u8 r.task.code ++
    [r.task.lineSet.setWidth 8] ++ u8 r.task.width ++ u8 r.task.tallyIndex ++ u8 (p.conditionTrue r).toNat

/-- LINE READ, 10 bytes (R178; log entry 16). The time remaining is in ms, rounded down (log entry 18). The FOLLOW item
of a DIRECT line is that of the same line in ROUTED mode: the model's choice (log entry 47). So is the code of the pin's
level, 1 for high and 0 for low (log entry 51). -/
def Part.lineBytes (p : Part) (i : Fin 4) : List Byte :=
  let l := p.line i
  u8 (match l.mode with
      | .routed => 0
      | .direct => 1) ++
    u8 (match l.drive with
      | .pushPull => 0
      | .openDrain => 1) ++
    u8 l.directActive.toNat ++ u8 l.latched.toNat ++ u8 l.pulse.isSome.toNat ++
    u16 (l.pulse.getD 0 / Config.ticksPerMillisecond) ++ u8 (p.lineFollowed i).toNat ++ u8 (p.lineActive i).toNat ++
    u8 (p.linePinHigh i).toNat

/-- TALLY READ, 10 bytes (R182). -/
def Part.tallyBytes (p : Part) (i : Fin 4) : List Byte :=
  let t := p.tallies[i.val]
  bytes4 t.count ++ bytes4 t.threshold ++
    u8 (match t.scope with
      | .running => 0
      | .perHide => 1) ++
    [flagByte [t.invert, t.frozen, t.freezeOnStop, t.frozenNow p.feed.stopLine]]

/-- The machine settings, 25 bytes (R193). -/
def Settings.bytes (t : Settings) : List Byte :=
  u16 t.throatLength ++ u16 t.maximumHideLength ++ u16 t.gapFilter ++ u16 t.leadDebounce ++ u16 t.approachMargin ++
    u8 (match t.eyePolarity with
      | .darkHigh => 0
      | .darkLow => 1) ++
    u8 (match t.unannouncedPolicy with
      | .refuse => 0
      | .adopt => 1) ++
    u16 t.idleFeedSpeed ++ u16 t.idlePressure ++ u16 t.parkPressure ++ u8 t.scanPeriod ++
    u8 (match t.gapMethod with
      | .atClear => 0
      | .host => 1) ++
    u8 t.defaultGapTolerance ++ u8 t.gapMoveTimeout ++ u8 t.selectTimeout ++ u8 t.sessionFrameLimit ++
    u8 t.releaseInterval

/-- The trial, base code and reading count of a member, 0 where its phase holds none. -/
def Phase.trialAndBase (f : Phase) : Nat × Nat :=
  match f with
  | .gain trial base _ => (trial, base)
  | _ => (0, 0)

/-- TUNE READ, 25 bytes (R137). The zero bytes of the last trial average of a member that has made no trial, with bit 5
set, are the model's choice (log entry 39). The time remaining is rounded down (log entry 18). -/
def Part.tuneBytes (p : Part) (n : LaneNo) : List Byte :=
  let t := p.laneTuning n
  let member := p.member? n
  let phase := (member.map (·.phase)).getD .finished
  u8 (p.lane n).tune.code ++ u8 t.settings.mode.code ++ u16 t.settings.base ++ u16 t.settings.target ++
    u8 t.settings.band ++ u8 t.settings.holdoff ++
    [flagByte [t.settings.automatic, t.requested, t.holdoff.isSome, p.batchRunning, p.tuning.batch.isSome,
      member.isSome]] ++
    u16 t.settings.window.1 ++ u16 t.settings.window.2 ++
    u8 (t.holdoff.getD 0 / Config.ticksPerSecond) ++
    u8 ((p.tuning.batch.map (·.origin.code)).getD 0) ++
    bytes4 ((p.tuning.batch.map fun b => laneMask (b.members.map (·.lane))).getD 0) ++
    u8 ((member.map (·.phase.code)).getD 0) ++ u8 phase.trialAndBase.1 ++ u8 phase.trialAndBase.2 ++
    u8 ((member.map (·.readings)).getD 0) ++ u16 ((member.bind (·.lastAverage)).getD 0)

end Sys2Proof.Machine
end

