-- ==== Sys2Proof/Machine/Operands.lean ====
section
/-! DEFINITION. Operand forms of the host commands: each reads the bytes of one operand and answers `none` where the
command refuses them RANGE (R197 and the rule of the command). -/

namespace Sys2Proof.Machine

/-- A value within a range, both ends included. -/
def inRange (low high x : Nat) : Bool := decide (low ≤ x) && decide (x ≤ high)

/-- A yes/no byte takes 0 or 1 (R197). -/
def yesNo (b : Byte) : Option Bool :=
  match b.toNat with
  | 0 => some false
  | 1 => some true
  | _ => none

/-- A lane number, 0 to 31. -/
def laneOperand (b : Byte) : Option LaneNo := if h : b.toNat < 32 then some ⟨b.toNat, h⟩ else none

/-- A board number, 0 to 3. -/
def boardOperand (b : Byte) : Option BoardNo := if h : b.toNat < 4 then some ⟨b.toNat, h⟩ else none

/-- A line number or a tally index, 0 to 3. -/
def fourOperand (b : Byte) : Option (Fin 4) := if h : b.toNat < 4 then some ⟨b.toNat, h⟩ else none

/-- A route index, 0 to 15. -/
def routeOperand (b : Byte) : Option (Fin 16) := if h : b.toNat < 16 then some ⟨b.toNat, h⟩ else none

/-- The nine plan fields, each in its range of R2. -/
def planOperand (o : PlanOperands) : Option PlanFields :=
  let f : PlanFields := ⟨o.splitGap.toNat, o.gapTolerance.toNat, o.feedSpeed.toNat, o.basePressure.toNat,
    o.edgeRelief.toNat, o.bottomRelief.toNat, o.bridgeBoost.toNat, o.edgeBand.toNat, o.rejectLimit.toNat⟩
  if inRange 50 800 f.splitGap && inRange 2 50 f.gapTolerance && inRange 50 400 f.feedSpeed &&
      inRange 0 600 f.basePressure && inRange 0 300 f.edgeRelief && inRange 0 300 f.bottomRelief &&
      inRange 0 200 f.bridgeBoost && inRange 1 3 f.edgeBand && inRange 0 1023 f.rejectLimit then some f
  else none

/-- The nine lane settings, each in its range of R98. -/
def laneSettingsOperand (o : LaneSettingsOperands) : Option LaneSettings :=
  match yesNo o.haltEnable with
  | none => none
  | some halt =>
    let t : LaneSettings := ⟨o.contactThreshold.toNat, o.hysteresis.toNat, o.enterDebounce.toNat,
      o.exitDebounce.toNat, o.bottomLimit.toNat, o.contactLimit.toNat, o.referenceBeta.toNat, o.fastBeta.toNat,
      halt⟩
    if inRange 8 1024 t.contactThreshold && inRange 0 255 t.hysteresis && inRange 1 15 t.enterDebounce &&
        inRange 1 15 t.exitDebounce && inRange 256 4095 t.bottomLimit &&
        (t.contactLimit == 0 || inRange 5000 80000 t.contactLimit) && inRange 2 12 t.referenceBeta &&
        inRange 1 8 t.fastBeta then some t
    else none

/-- The optional calibration of LANE WRITE: absent, with its gain and offset disregarded, or present and in range
(R117, R197). -/
def calibrationOperand (o : CalibrationOperands) : Option (Option Calibration) :=
  match yesNo o.present with
  | none => none
  | some false => some none
  | some true =>
    if inRange 1 16 o.gain.toNat && inRange 0 1023 o.offset.toNat then some (some ⟨o.gain.toNat, o.offset.toNat⟩)
    else none

/-- The tune mode of a code (12, "Sets and codes"). -/
def tuneModeOperand (b : Byte) : Option TuneMode :=
  match b.toNat with
  | 0 => some .full
  | 1 => some .offsetOnly
  | 2 => some .off
  | _ => none

/-- The six tune settings, each in its range of R122. -/
def tuneSettingsOperand (o : TuneOperands) : Option TuneSettings :=
  match tuneModeOperand o.mode, yesNo o.automatic with
  | some mode, some automatic =>
    let t : TuneSettings := ⟨mode, o.base.toNat, o.target.toNat, o.band.toNat, automatic, o.holdoff.toNat⟩
    if inRange 256 3072 t.base && inRange 64 1024 t.target && inRange 5 50 t.band && inRange 1 255 t.holdoff then
      some t
    else none
  | _, _ => none

/-- The source of a route of a code (12, "Sets and codes"). -/
def sourceOperand (b : Byte) : Option Source :=
  match b.toNat with
  | 0 => some (.event .laneContactOn)
  | 1 => some (.event .laneBottomOn)
  | 2 => some (.event .laneReseed)
  | 3 => some (.event .laneFault)
  | 4 => some (.event .lanePhantom)
  | 5 => some (.event .tuneError)
  | 6 => some (.event .boardFault)
  | 7 => some (.event .hideEntering)
  | 8 => some (.event .hideSplitting)
  | 9 => some (.event .hideCleared)
  | 10 => some (.event .hideReject)
  | 11 => some (.event .hideAborted)
  | 12 => some (.event .overlength)
  | 13 => some (.event .gapExcursion)
  | 14 => some (.event .unboundEdge)
  | 15 => some (.event .gapMoveDone)
  | 16 => some (.event .gapFault)
  | 17 => some (.event .tallyReached)
  | 32 => some (.level .anyContact)
  | 33 => some (.level .anyBottomed)
  | 34 => some (.level .anyBlind)
  | 35 => some (.level .feedEnabled)
  | 36 => some (.level .feedHeld)
  | 37 => some (.level .gapMoving)
  | _ => none

/-- What kind of filter a source takes (R172, R176). -/
inductive FilterKind where
  | lanes
  | article
  | tallies
  | none
  deriving DecidableEq, Repr

/-- The filter an event kind takes (R172). -/
def EventKind.filterKind (k : EventKind) : FilterKind :=
  match k with
  | .laneContactOn | .laneBottomOn | .laneReseed | .laneFault | .lanePhantom | .tuneError | .boardFault => .lanes
  | .hideEntering | .hideSplitting | .hideCleared | .hideReject | .hideAborted | .overlength | .gapExcursion => .article
  | .unboundEdge | .gapMoveDone | .gapFault => .none
  | .tallyReached => .tallies

/-- The filter a source takes (R172, R176). -/
def Source.filterKind (s : Source) : FilterKind :=
  match s with
  | .event k => k.filterKind
  | .level .anyContact | .level .anyBottomed | .level .anyBlind => .lanes
  | .level .feedEnabled | .level .feedHeld | .level .gapMoving => .none

/-- The filter of a route, as its source calls for it: any lane mask; an article code 0 to 65534 or a tally mask of
four in the low bytes; disregarded where the source takes none (R171, R197; log entry 35). -/
def filterOperand (s : Source) (w : Word) : Option Filter :=
  match s.filterKind with
  | .lanes => some (.lanes w)
  | .article => if w.toNat ≤ 65534 then some (.article w.toNat) else none
  | .tallies => if w.toNat < 16 then some (.tallies (w.setWidth 4)) else none
  | .none => some .none

/-- A line set: any lines of S0 to S3. -/
def lineSetOperand (b : Byte) : Option (BitVec 4) := if b.toNat < 16 then some (b.setWidth 4) else none

/-- A line set that a task needs: not empty (R171). -/
def taskLinesOperand (b : Byte) : Option (BitVec 4) := if b.toNat = 0 then none else lineSetOperand b

/-- The task of a route with the operand it calls for; the bytes it does not call for are disregarded (R171,
R197). -/
def taskOperand (o : RouteOperands) : Option Task :=
  match o.task.toNat with
  | 0 => some .attend
  | 1 => some .holdFeed
  | 2 => some .stopAtClear
  | 3 => if o.pulseWidth.toNat = 0 then none
    else (taskLinesOperand o.lineSet).map fun lines => .pulseLines lines o.pulseWidth.toNat
  | 4 => (taskLinesOperand o.lineSet).map .setLines
  | 5 => (taskLinesOperand o.lineSet).map .clearLines
  | 6 => (taskLinesOperand o.lineSet).map .follow
  | 7 => (fourOperand o.tallyIndex).map .tallyStep
  | _ => none

/-- FOLLOW goes with a level condition, every other task with an event kind (R171, case 2). -/
def taskFits (s : Source) (t : Task) : Bool :=
  match s, t with
  | .level _, .follow _ => true
  | .level _, _ => false
  | .event _, .follow _ => false
  | .event _, _ => true

/-- The route a ROUTE WRITE carries, `none` where it is refused RANGE (R171, cases 1 and 2). -/
def routeFieldsOperand (o : RouteOperands) : Option Route :=
  match yesNo o.enabled, sourceOperand o.source, taskOperand o with
  | some enabled, some source, some task =>
    match filterOperand source o.filter with
    | some filter => if taskFits source task then some ⟨enabled, source, filter, task⟩ else none
    | none => none
  | _, _, _ => none

/-- ROUTED or DIRECT (12, "Sets and codes"). -/
def lineModeOperand (b : Byte) : Option LineMode :=
  (yesNo b).map fun direct => if direct then .direct else .routed

/-- PUSH_PULL or OPEN_DRAIN (12, "Sets and codes"). -/
def lineDriveOperand (b : Byte) : Option LineDrive :=
  (yesNo b).map fun drain => if drain then .openDrain else .pushPull

/-- RUNNING or PER_HIDE (12, "Sets and codes"). -/
def tallyScopeOperand (b : Byte) : Option TallyScope :=
  (yesNo b).map fun perHide => if perHide then .perHide else .running

/-- A set of hold causes: bits 11 to 15 are unassigned (12, "Sets and codes"; R71). -/
def holdSetOperand (x : Half) : Option HoldSet :=
  if x.toNat < 2 ^ 11 then
    some ⟨x.getLsbD 0, x.getLsbD 1, x.getLsbD 2, x.getLsbD 3, x.getLsbD 4, x.getLsbD 5, x.getLsbD 6, x.getLsbD 7,
      x.getLsbD 8, x.getLsbD 9, x.getLsbD 10⟩
  else none

/-- A set of attention causes: bits 11 to 15 are unassigned (12, "Sets and codes"; R192). -/
def attentionSetOperand (x : Half) : Option AttentionSet :=
  if x.toNat < 2 ^ 11 then
    some ⟨x.getLsbD 0, x.getLsbD 1, x.getLsbD 2, x.getLsbD 3, x.getLsbD 4, x.getLsbD 5, x.getLsbD 6, x.getLsbD 7,
      x.getLsbD 8, x.getLsbD 9, x.getLsbD 10⟩
  else none

/-- The seventeen machine settings, each in its range of R193, the gap filter at most the throat length of the same
write less 500 (R194). -/
def settingsOperand (o : SettingsOperands) : Option Settings :=
  match yesNo o.eyePolarity, yesNo o.unannouncedPolicy, yesNo o.gapMethod with
  | some low, some adopt, some host =>
    let t : Settings := {
      throatLength := o.throatLength.toNat
      maximumHideLength := o.maximumHideLength.toNat
      gapFilter := o.gapFilter.toNat
      leadDebounce := o.leadDebounce.toNat
      approachMargin := o.approachMargin.toNat
      eyePolarity := if low then .darkLow else .darkHigh
      unannouncedPolicy := if adopt then .adopt else .refuse
      idleFeedSpeed := o.idleFeedSpeed.toNat
      idlePressure := o.idlePressure.toNat
      parkPressure := o.parkPressure.toNat
      scanPeriod := o.scanPeriod.toNat
      gapMethod := if host then .host else .atClear
      defaultGapTolerance := o.defaultGapTolerance.toNat
      gapMoveTimeout := o.gapMoveTimeout.toNat
      selectTimeout := o.selectTimeout.toNat
      sessionFrameLimit := o.sessionFrameLimit.toNat
      releaseInterval := o.releaseInterval.toNat }
    if inRange 3000 20000 t.throatLength && inRange 10000 60000 t.maximumHideLength &&
        inRange 200 3000 t.gapFilter && inRange 20 500 t.leadDebounce && inRange 200 5000 t.approachMargin &&
        inRange 50 400 t.idleFeedSpeed && inRange 0 600 t.idlePressure && inRange 0 600 t.parkPressure &&
        inRange 2 20 t.scanPeriod && inRange 2 50 t.defaultGapTolerance && inRange 5 200 t.gapMoveTimeout &&
        inRange 1 255 t.selectTimeout && inRange 4 16 t.sessionFrameLimit && inRange 1 255 t.releaseInterval &&
        decide (t.gapFilter + 500 ≤ t.throatLength) then some t
    else none
  | _, _, _ => none

end Sys2Proof.Machine
end

