-- ==== Sys2Proof/Machine/Reactions.lean ====
section
/-! DEFINITION. The reaction map, the output lines and the tallies (10_reactions_output_lines_and_tallies.md):
`raise` hands one event to the reaction map and lets its routes act. -/

namespace Sys2Proof.Machine

/-! ## Events (R172) -/

/-- An event with what it carries (R172). -/
inductive Event where
  | laneContactOn (lane : LaneNo)
  | laneBottomOn (lane : LaneNo)
  | laneReseed (lane : LaneNo)
  | laneFault (lane : LaneNo) (kind : LaneFaultKind)
  | lanePhantom (lane : LaneNo)
  | tuneError (lane : LaneNo) (kind : TuneErrorKind)
  | boardFault (board : BoardNo) (kind : BoardFaultKind)
  | hideEntering (ticket article : Nat)
  | hideSplitting (ticket article : Nat)
  | hideCleared (ticket article : Nat)
  | hideReject (ticket article : Nat)
  | hideAborted (ticket article : Nat)
  | overlength (ticket article : Nat)
  | gapExcursion (ticket article : Nat)
  | unboundEdge (lead : Pos)
  | gapMoveDone (gap : Nat)
  | gapFault (target : Nat)
  | tallyReached (tally : Fin 4) (count : Word)
  deriving DecidableEq, Repr

/-- The kind of an event. -/
def Event.kind (e : Event) : EventKind :=
  match e with
  | .laneContactOn _ => .laneContactOn
  | .laneBottomOn _ => .laneBottomOn
  | .laneReseed _ => .laneReseed
  | .laneFault _ _ => .laneFault
  | .lanePhantom _ => .lanePhantom
  | .tuneError _ _ => .tuneError
  | .boardFault _ _ => .boardFault
  | .hideEntering _ _ => .hideEntering
  | .hideSplitting _ _ => .hideSplitting
  | .hideCleared _ _ => .hideCleared
  | .hideReject _ _ => .hideReject
  | .hideAborted _ _ => .hideAborted
  | .overlength _ _ => .overlength
  | .gapExcursion _ _ => .gapExcursion
  | .unboundEdge _ => .unboundEdge
  | .gapMoveDone _ => .gapMoveDone
  | .gapFault _ => .gapFault
  | .tallyReached _ _ => .tallyReached

/-- The lanes an event is about: its lane, or the eight lanes of its board. -/
def Event.lanes (e : Event) : List LaneNo :=
  match e with
  | .laneContactOn n => [n]
  | .laneBottomOn n => [n]
  | .laneReseed n => [n]
  | .laneFault n _ => [n]
  | .lanePhantom n => [n]
  | .tuneError n _ => [n]
  | .boardFault b _ => lanesOfBoard b
  | _ => []

/-- The article code an event carries. -/
def Event.article (e : Event) : Option Nat :=
  match e with
  | .hideEntering _ a => some a
  | .hideSplitting _ a => some a
  | .hideCleared _ a => some a
  | .hideReject _ a => some a
  | .hideAborted _ a => some a
  | .overlength _ a => some a
  | .gapExcursion _ a => some a
  | _ => none

/-- The tally an event carries. -/
def Event.tally (e : Event) : Option (Fin 4) :=
  match e with
  | .tallyReached i _ => some i
  | _ => none

/-- Whether an event passes a filter (R172): a lane mask holds one of its lanes, code 0 passes every article, a tally
mask holds its tally. -/
def Filter.passes (f : Filter) (e : Event) : Bool :=
  match f with
  | .lanes mask => e.lanes.any fun n => mask.getLsbD n.val
  | .article code => e.article.any fun a => code == 0 || a == code
  | .tallies mask => e.tally.any fun i => mask.getLsbD i.val
  | .none => true

/-- Whether an enabled route's source is the event's kind and its filter passes (R172). -/
def Route.fires (r : Route) (e : Event) : Bool :=
  r.enabled && r.source == .event e.kind && r.filter.passes e

/-! ## What the routes act on -/

/-- All that a route's task can change: the run state, the hold cause set, the pending attention set, the line
records and the tallies (R174, R175, R179). -/
structure Reaction where
  runState : RunState
  holds : HoldSet
  attention : AttentionSet
  lines : Vector Line 4
  tallies : Vector Tally 4
  deriving DecidableEq, Repr

/-- What the routes act on, as it stands. -/
def Part.reaction (p : Part) : Reaction :=
  ⟨p.feed.runState, p.feed.holds, p.port.attention, p.lines, p.tallies⟩

/-- The part with what the routes have left. -/
def Part.withReaction (p : Part) (r : Reaction) : Part :=
  { p with
    feed := { p.feed with runState := r.runState, holds := r.holds }
    port := { p.port with attention := r.attention }
    lines := r.lines
    tallies := r.tallies }

/-- FEED STOP AT CLEAR on a run state, as some record is in passage or none is (R67). -/
def RunState.stopAtClear (r : RunState) (inPassage : Bool) : RunState :=
  match r with
  | .stopped => .stopped
  | .running => if inPassage then .stoppingAtClear else .stopped
  | .stoppingAtClear => .stoppingAtClear
  | .stoppingBeforeNext => if inPassage then .stoppingAtClear else .stopped

/-- The lines of a set changed by `f`, the others as they are. -/
def changeLines (set : BitVec 4) (f : Line → Line) (lines : Vector Line 4) : Vector Line 4 :=
  Vector.ofFn fun i => if set.getLsbD i.val then f lines[i.val] else lines[i.val]

/-- SET_LINES on a line (R175). -/
def Line.set (l : Line) : Line := { l with latched := true }

/-- CLEAR_LINES on a line: the latched flag is cleared and the pulse timer stopped (R175). -/
def Line.clear (l : Line) : Line := { l with latched := false, pulse := none }

/-- PULSE_LINES on a line: the pulse timer is started, or restarted, with the width (R175). -/
def Line.startPulse (width : Nat) (l : Line) : Line := { l with pulse := some (pulseTicks width) }

/-- A TALLY_STEP on a tally that is not frozen adds 1 to its count (R179). -/
def Tally.step (t : Tally) : Tally := { t with count := t.count + 1 }

/-- A RUNNING tally that the step has brought to its threshold (R179). -/
def Tally.reachedByStep (t : Tally) : Bool := t.scope == .running && t.count == t.threshold

/-- A TALLY_STEP task, with the TALLY_REACHED it raises (R179). -/
def stepTally (stopLine : Bool) (i : Fin 4) (r : Reaction) : Reaction × List Event :=
  let t := r.tallies[i.val]
  if t.frozenNow stopLine then (r, [])
  else
    ({ r with tallies := r.tallies.set i.val t.step },
      if t.step.reachedByStep then [.tallyReached i t.step.count] else [])

/-- A route's task, with the events it raises (R174, R175, R179). A FOLLOW route has no event as its source. -/
def performTask (p : Part) (t : Task) (r : Reaction) : Reaction × List Event :=
  match t with
  | .attend => ({ r with attention := r.attention.add .route }, [])
  | .holdFeed => ({ r with holds := r.holds.put .routeHold true }, [])
  | .stopAtClear => ({ r with runState := r.runState.stopAtClear p.anyInPassage }, [])
  | .pulseLines set width => ({ r with lines := changeLines set (Line.startPulse width) r.lines }, [])
  | .setLines set => ({ r with lines := changeLines set Line.set r.lines }, [])
  | .clearLines set => ({ r with lines := changeLines set Line.clear r.lines }, [])
  | .follow _ => (r, [])
  | .tallyStep i => stepTally p.feed.stopLine i r

/-- The routes in ascending index act on one event, each on what the earlier ones left; the events they raise are
gathered in the order they are raised (R173). -/
def serveRoutes (p : Part) (e : Event) (routes : List Route) (r : Reaction) : Reaction × List Event :=
  match routes with
  | [] => (r, [])
  | route :: rest =>
    let first := if route.fires e then performTask p route.task r else (r, [])
    let later := serveRoutes p e rest first.1
    (later.1, first.2 ++ later.2)

/-- One event handed on and the TALLY_REACHED events that follow from it, each after the routes of the event that raised it
(R173), and after one that waits already: the model's choice (log entry 46). -/
def serveEvents (p : Part) (fuel : Nat) (events : List Event) (r : Reaction) : Reaction :=
  match fuel, events with
  | 0, _ => r
  | _, [] => r
  | k + 1, e :: rest =>
    let served := serveRoutes p e p.routes.toList r
    serveEvents p k (rest ++ served.2) served.1

/-- Events served for one event raised: itself and at most one TALLY_REACHED of each tally, since a step changes a
count by 1 and a count meets its threshold once before it wraps (R173, R179). -/
def eventFuel : Nat := 5

/-- One event is handed to the reaction map (R173). -/
def raise (e : Event) (p : Part) : Part := p.withReaction (serveEvents p eventFuel [e] p.reaction)

/-- Several events, each handed on when the one before it has been served (R173). A TALLY_REACHED that the routes of one of
them raise is served before the next of them: the model's reading (log entry 49). -/
def raiseAll (events : List Event) (p : Part) : Part :=
  match events with
  | [] => p
  | e :: rest => raiseAll rest (raise e p)

/-! ## PER_HIDE tallies (R180) -/

/-- A PER_HIDE tally's count becomes 0. -/
def Tally.clearPerHide (t : Tally) : Tally :=
  match t.scope with
  | .perHide => { t with count := 0 }
  | .running => t

/-- The PER_HIDE comparison of a tally (R180). -/
def Tally.reachedByHide (t : Tally) : Bool :=
  t.scope == .perHide &&
    (if t.invert then decide (t.count.toNat < t.threshold.toNat) else decide (t.threshold.toNat ≤ t.count.toNat))

/-- Every PER_HIDE tally's count becomes 0, with no comparison (R180). -/
def clearPerHideTallies (p : Part) : Part := p.setTallies (mapAll Tally.clearPerHide p.tallies)

/-- The TALLY_REACHED events of the PER_HIDE comparison, in ascending index, with the counts before clearing. -/
def perHideEvents (p : Part) : List Event :=
  (List.finRange 4).filterMap fun i =>
    if (p.tallies[i.val]).reachedByHide then some (.tallyReached i (p.tallies[i.val]).count) else none

/-- Every PER_HIDE tally is compared and cleared, and the events are then taken (R180; log entry 10). -/
def comparePerHideTallies (p : Part) : Part := raiseAll (perHideEvents p) (clearPerHideTallies p)

end Sys2Proof.Machine
end

