-- ==== Sys2Proof/Machine/Pressure.lean ====
section
/-! DEFINITION. The pressure unit (08_lane_pressures.md): the four cases, the split pressure, and the recompute with
its hand-on to the drive records (R156). -/

namespace Sys2Proof.Machine

/-- The four cases of a lane's wanted pressure (R140). -/
inductive PressureCase where
  | stop
  | blind
  | idle
  | split (hide : Hide) (fields : PlanFields)
  deriving DecidableEq, Repr

/-- The case code (12, "Sets and codes"). -/
def PressureCase.code (c : PressureCase) : Nat :=
  match c with
  | .stop => 0
  | .blind => 1
  | .idle => 2
  | .split _ _ => 3

/-- The first of the four cases that applies to a lane (R140). A SPLITTING record always has its snapshot (R22). -/
def Part.pressureCase (p : Part) (n : LaneNo) : PressureCase :=
  if p.pressure.stopLevel then .stop
  else if !(p.lane n).seeing then .blind
  else
    match p.splitting? with
    | none => .idle
    | some h =>
      match h.snapshot with
      | none => .idle
      | some f => .split h f

/-- Lane n lies in the span a to z and within the edge band of one of its ends (R142). -/
def inEdgeBand (span : Option (Nat × Nat)) (band n : Nat) : Bool :=
  match span with
  | none => false
  | some (a, z) => decide (a ≤ n) && decide (n ≤ z) && (decide (n - a < band) || decide (z - n < band))

/-- The sum of the four terms before clamping (R141). -/
def Part.splitSum (p : Part) (span : Option (Nat × Nat)) (f : PlanFields) (n : LaneNo) : Int :=
  (f.basePressure : Int)
    - (if inEdgeBand span f.edgeBand n.val then (f.edgeRelief : Int) else 0)
    - (if (p.lane n).contact = .bottomed then (f.bottomRelief : Int) else 0)
    + (if p.bridged n then (f.bridgeBoost : Int) else 0)

/-- A sum clamped to 0 to 600 kPa (R141). -/
def clampPressure (x : Int) : Nat := min x.toNat Config.pressureMax

/-- The wanted pressure that R140 to R143 give a lane. -/
def Part.pressureFor (p : Part) (span : Option (Nat × Nat)) (n : LaneNo) : Nat :=
  match p.pressureCase n with
  | .stop => p.settings.parkPressure
  | .blind => p.settings.parkPressure
  | .idle => p.settings.idlePressure
  | .split _ f => clampPressure (p.splitSum span f n)

/-- The wanted pressures of all lanes as the inputs stand (R145). -/
def Part.pressures (p : Part) : Vector Nat 32 :=
  let span := p.contactSpan
  Vector.ofFn fun n => p.pressureFor span n

/-- A drive record takes a hand-on: a SETTLED lane becomes WAITING, the others stay (R156). -/
def Drive.handOn (d : Drive) : Drive :=
  match d.state with
  | .settled => { d with state := .waiting }
  | .waiting => d
  | .inFlight _ => d

/-- The drive records after the lanes whose wanted value changes have been handed on (R146, R156). -/
def handOnDrives (before after : Vector Nat 32) (drives : Vector Drive 32) : Vector Drive 32 :=
  Vector.ofFn fun n : LaneNo =>
    if before[n.val] = after[n.val] then drives[n.val] else (drives[n.val]).handOn

/-- The recompute of every lane (R144 to R146). -/
def recompute (p : Part) : Part :=
  { p with
    pressure := { p.pressure with wanted := p.pressures }
    bus := { p.bus with drives := handOnDrives p.pressure.wanted p.pressures p.bus.drives } }

/-- The STOP level as the pressure unit takes it, with the recompute that follows (R148). -/
def takeStopLevel (asserted : Bool) (p : Part) : Part :=
  recompute (p.setPressure { p.pressure with stopLevel := asserted })

/-- The ticket of the SPLIT case. -/
def PressureCase.ticket (c : PressureCase) : Option Nat :=
  match c with
  | .split h _ => some h.ticket
  | _ => none

/-- The sum before clamping in the SPLIT case, 0 outside it (R149). -/
def Part.caseSum (p : Part) (n : LaneNo) : Int :=
  match p.pressureCase n with
  | .split _ f => p.splitSum p.contactSpan f n
  | _ => 0

/-- The edge band, bottomed, bridged and clamped bits; the first three have no meaning outside the SPLIT case and are
free there (R149; log entry 17). -/
def Part.caseFlags (p : Part) (n : LaneNo) : List Bool :=
  match p.pressureCase n with
  | .split _ f =>
    [inEdgeBand p.contactSpan f.edgeBand n.val, (p.lane n).contact == .bottomed, p.bridged n,
      decide (p.caseSum n < 0) || decide ((Config.pressureMax : Int) < p.caseSum n)]
  | _ =>
    [(Config.pressureFlagsOutsideSplit n).getLsbD 0, (Config.pressureFlagsOutsideSplit n).getLsbD 1,
      (Config.pressureFlagsOutsideSplit n).getLsbD 2, false]

/-- LANE PRESSURE, 15 bytes (R149). -/
def Part.pressureBytes (p : Part) (n : LaneNo) : List Byte :=
  let ticket := (p.pressureCase n).ticket
  let span := p.contactSpan
  u16 (p.wanted n) ++ u8 (p.pressureCase n).code ++
    [flagByte [ticket.isSome, span.isSome, ticket.isSome], flagByte (p.caseFlags n)] ++
    u16 (ticket.getD 0) ++ u8 ((span.map Prod.fst).getD 0) ++ u8 ((span.map Prod.snd).getD 0) ++
    bytes2 (BitVec.ofInt 16 (p.caseSum n)) ++ u16 p.settings.idlePressure ++ u16 p.settings.parkPressure

end Sys2Proof.Machine
end

