-- ==== Sys2Proof/Machine/Gap.lean ====
section
/-! DEFINITION. The knife gap axis (05_knife_gap_axis.md): staging, starting and ending moves, readiness, excursions
and re-seating, as the operations other blocks hand on to; the GAP commands and the axis events. -/

namespace Sys2Proof.Machine

/-! ## Readiness (R89) -/

/-- The axis is IDLE with this active gap. -/
def GapAxis.idleOn (g : GapAxis) (gap : Option Nat) : Bool := g.state == .idle && g.active.map (·.gap) == gap

/-- The not-ready condition: some ENTERING record has reached its approach point, and the axis is not IDLE on the
snapshot split gap of the oldest such record (R89). -/
def Part.notReady (p : Part) : Bool :=
  match p.oldestApproached? with
  | none => false
  | some h => !p.gap.idleOn (h.snapshot.map (·.splitGap))

/-- GAP_NOT_READY is kept in the hold cause set as the not-ready condition holds (R89). -/
def notReadyTest (p : Part) : Part := p.putHold .gapNotReady p.notReady

/-! ## Starting moves -/

/-- An order to the jack drive, with the moves' record of it (log entry 20). -/
def GapAxis.order (g : GapAxis) (o : JackOrder) : GapAxis :=
  { g with jackOrder := o, jackOrders := g.jackOrders + 1 }

/-- A move starts (R85). -/
def startMove (target : GapTol) (p : Part) : Part :=
  notReadyTest (p.setGap { p.gap.order (.target target.gap) with
    state := .moving
    target := some target
    settle := 0
    moveTimer := some (moveTicks p.settings.gapMoveTimeout) })

/-- Staging: with the knife line unoccupied, the staged gap is the oldest ENTERING record's (R81). -/
def stage (p : Part) : Part :=
  if p.knifeOccupied then p
  else
    match p.oldestEntering?.bind (·.snapshot) with
    | none => p
    | some f => p.setGap { p.gap with staged := some ⟨f.splitGap, f.gapTolerance⟩ }

/-- The gap the start test of R83 would move to: under AT_CLEAR over an unoccupied knife line, from STALE any staged
gap, from IDLE one that differs from the active gap. -/
def Part.startTarget? (p : Part) : Option GapTol :=
  if p.settings.gapMethod == .atClear && !p.knifeOccupied then
    match p.gap.state, p.gap.staged with
    | .stale, some g => some g
    | .idle, some g => if p.gap.active.map (·.gap) = some g.gap then none else some g
    | _, _ => none
  else none

/-- The start test of R83. -/
def startTest (p : Part) : Part :=
  match p.startTarget? with
  | some g => startMove g p
  | none => p

/-- The pending apply is taken up: the line is unoccupied and apply-pending is set under HOST, with the axis IDLE or
STALE (R84). -/
def Part.applyDue (p : Part) : Bool :=
  p.settings.gapMethod == .host && p.gap.applyPending && !p.knifeOccupied &&
    (p.gap.state == .idle || p.gap.state == .stale)

/-- Apply-pending is cleared and the move to the staged gap starts (R84). -/
def startPendingApply (p : Part) : Part :=
  let q := p.setGap { p.gap with applyPending := false }
  match q.gap.staged with
  | some g => startMove g q
  | none => q

/-- A hand-on of a record change or an occupancy change: staging first, then the pending apply or the start test, then
the readiness test (R72, R81, R83, R84, R89). -/
def gapHandOn (p : Part) : Part :=
  let staged := stage p
  notReadyTest (if staged.applyDue then startPendingApply staged else startTest staged)

/-! ## Gauge pairs -/

/-- Both readings lie within a tolerance of a gap (R80). -/
def withinTolerance (gap tol left right : Nat) : Bool :=
  decide (left ≤ gap + tol) && decide (gap ≤ left + tol) && decide (right ≤ gap + tol) && decide (gap ≤ right + tol)

/-- The last gauge pair is out of the active tolerance of the active gap (R92). -/
def GapAxis.drifted (g : GapAxis) : Bool :=
  match g.active, g.lastPair with
  | some a, some (left, right) => !withinTolerance a.gap a.tol left right
  | _, _ => false

/-- The decision at a CLEARED record: the pending apply, the move of R83, or a re-seat at the active gap (R92). -/
def gapCleared (p : Part) : Part :=
  let staged := stage p
  let moved :=
    if staged.applyDue then startPendingApply staged
    else if staged.startTarget?.isSome then startTest staged
    else if !staged.knifeOccupied && staged.gap.state == .idle && staged.gap.drifted then
      match staged.gap.active with
      | some a => startMove a staged
      | none => staged
    else staged
  notReadyTest moved

/-- The reference of the excursion test: the move target while MOVING, the active gap otherwise (R91). -/
def GapAxis.excursionReference (g : GapAxis) : Option Nat :=
  if g.state = .moving then g.target.map (·.gap) else g.active.map (·.gap)

/-- A pair is out of a tolerance of the excursion reference; without a reference every pair is (R80, R91). -/
def GapAxis.outOfTolerance (g : GapAxis) (tol left right : Nat) : Bool :=
  match g.excursionReference with
  | none => true
  | some gap => !withinTolerance gap tol left right

/-- The start of an excursion is attributed to the record that is SPLITTING (R37). -/
def Hide.addExcursion (h : Hide) : Hide := { h with gapExcursions := min (h.gapExcursions + 1) Config.eventCountMax }

/-- The excursion test of a gauge pair while a record is SPLITTING (R91). -/
def excursionTest (left right : Nat) (p : Part) : Part :=
  match p.splitting? with
  | none => p
  | some h =>
    if p.gap.outOfTolerance ((h.snapshot.map (·.gapTolerance)).getD 0) left right then
      if p.gap.excursionRun then p
      else
        raise (.gapExcursion h.ticket h.article)
          ((p.setGap { p.gap with excursionRun := true }).modifyHide h.ticket Hide.addExcursion)
    else p.setGap { p.gap with excursionRun := false }

/-- The excursion run is returned to not in run (R91). -/
def endExcursionRun (p : Part) : Part := p.setGap { p.gap with excursionRun := false }

/-- The move completes on its target (R86). -/
def completeMove (target : GapTol) (p : Part) : Part :=
  let idle := p.setGap { p.gap with
    state := .idle
    active := some target
    target := none
    settle := 0
    moveTimer := none }
  startTest (notReadyTest (raise (.gapMoveDone target.gap) idle))

/-- The settle test of a gauge pair while MOVING (R86). -/
def settleTest (left right : Nat) (p : Part) : Part :=
  match p.gap.target with
  | none => p
  | some t =>
    if withinTolerance t.gap t.tol left right then
      if p.gap.settle + 1 = Config.settlePairs then completeMove t p
      else p.setGap { p.gap with settle := p.gap.settle + 1 }
    else p.setGap { p.gap with settle := 0 }

/-- A gauge pair arrives (R80): it becomes the last pair, and then acts as the axis state calls for, the excursion test
before the settle test (R86). -/
def takeGaugePair (left right : Nat) (p : Part) : Part :=
  let q := p.setGap { p.gap with lastPair := some (left, right) }
  match q.gap.state with
  | .fault => q
  | .moving => settleTest left right (excursionTest left right q)
  | .idle => excursionTest left right q
  | .stale => excursionTest left right q

/-- The pair would complete the move under way: the third in tolerance while MOVING (R86). -/
def Part.completesMove (p : Part) (left right : Nat) : Bool :=
  p.gap.state == .moving && p.gap.settle + 1 == Config.settlePairs &&
    (match p.gap.target with
      | some t => withinTolerance t.gap t.tol left right
      | none => false)

/-- The move timer expires while MOVING: the axis faults (R87). -/
def faultMove (p : Part) : Part :=
  let faulted := p.setGap { p.gap.order .halt with state := .fault, settle := 0, moveTimer := none }
  notReadyTest (raise (.gapFault ((p.gap.target.map (·.gap)).getD 0))
    ((faulted.putHold .gapFault true).attend .gapFault))

/-- The expiry acts only while MOVING (R87). -/
def expireMoveTimer (p : Part) : Part := if p.gap.state = .moving then faultMove p else p

/-- A move under way is abandoned: STALE, a halt order, target and timer dropped, the active gap kept (R93, R96). -/
def GapAxis.abandon (g : GapAxis) : GapAxis :=
  { g.order .halt with state := .stale, target := none, settle := 0, moveTimer := none }

/-- The STOP assertion at the gap axis: a move under way is abandoned (R93). -/
def stopGap (p : Part) : Part := if p.gap.state = .moving then p.setGap p.gap.abandon else p

/-- MACHINE RESET at the gap axis, before its start test (R96). -/
def GapAxis.machineReset (g : GapAxis) : GapAxis :=
  let stale := if g.state = .moving then g.abandon else { g with state := .stale, target := none, settle := 0, moveTimer := none }
  { stale with applyPending := false, excursionRun := false }

end Sys2Proof.Machine
end

