-- ==== Sys2Proof/Machine/Tuning.lean ====
section
/-! DEFINITION. Lane tuning (07_lane_tuning.md): starting a batch, the readings of its members, failure and withdrawal,
the end of a batch, requests and the formation test. -/

namespace Sys2Proof.Machine

/-! ## Members -/

/-- The member has finished (R123). -/
def Member.isFinished (m : Member) : Bool := m.phase == .finished

/-- A member begins a trial or phase: count, sum and clamp flag are cleared (R123, R125). -/
def Member.begin (m : Member) (phase : Phase) : Member :=
  { m with phase := phase, readings := 0, sum := 0, clamped := false }

/-- A member is FINISHED, its saved values dropped (R128 to R130). -/
def Member.finish (m : Member) : Member := { m.begin .finished with saved := none }

/-- The batch with the member of a lane changed by `f`. -/
def Batch.modify (b : Batch) (n : LaneNo) (f : Member → Member) : Batch :=
  { b with members := b.members.map fun m => if m.lane = n then f m else m }

/-- The part with the member of a lane changed by `f`. -/
def Part.modifyMember (p : Part) (n : LaneNo) (f : Member → Member) : Part :=
  p.setTuning { p.tuning with batch := p.tuning.batch.map fun b => b.modify n f }

/-! ## Starting a batch -/

/-- The first phase of a member (R124). A lane of mode OFF joins no batch. The passing average 0 before a trial has
passed is the model's choice, and nothing reads it (R123; log entry 44). -/
def TuneMode.firstPhase (mode : TuneMode) : Phase :=
  match mode with
  | .full => .gain 1 1 0
  | .offsetOnly => .offset
  | .off => .finished

/-- The trial step: 8, 4, 2 and 1 for trials 1 to 4 (R126). -/
def trialStep (trial : Nat) : Nat := 16 / 2 ^ trial

/-- The calibration set as a member joins: code 9 for FULL, the current code for OFFSET_ONLY, offset 0 (R124). -/
def TuneMode.firstCalibration (mode : TuneMode) (current : Calibration) : Calibration :=
  match mode with
  | .full => ⟨1 + trialStep 1, 0⟩
  | .offsetOnly => ⟨current.gain, 0⟩
  | .off => current

/-- The values saved as a lane joins a batch (R123). -/
def Lane.save (l : Lane) : Saved := ⟨l.calibration, l.reference, l.seedPending, l.tune⟩

/-- The saved values put back; the lane is EMPTY with its counters 0 (R99, R130, R132). -/
def Lane.restore (l : Lane) (s : Saved) : Lane :=
  { l.dropContact with
    calibration := s.calibration
    reference := s.reference
    seedPending := s.seedPending
    tune := s.tune }

/-- A lane joins a batch (R124). -/
def Lane.join (l : Lane) (mode : TuneMode) : Lane :=
  { l.dropContact with
    tune := .tuning
    seedPending := false
    calibration := mode.firstCalibration l.calibration }

/-- A new member, with its saved values (R123, R124). -/
def Part.newMember (p : Part) (n : LaneNo) : Member where
  lane := n
  phase := (p.laneTuning n).settings.mode.firstPhase
  readings := 0
  sum := 0
  lastAverage := none
  clamped := false
  saved := some (p.lane n).save

/-- A lane's request is removed and its holdoff timer disarmed (R124, R122, R138). -/
def LaneTuning.withdrawRequest (t : LaneTuning) : LaneTuning := { t with requested := false, holdoff := none }

/-- A batch starts with these lanes (R124). -/
def startBatch (origin : Origin) (lanes : List LaneNo) (p : Part) : Part :=
  let joined : Part := { p with
    lanes := Vector.ofFn fun n : LaneNo =>
      if n ∈ lanes then (p.lane n).join (p.laneTuning n).settings.mode else p.lane n
    tuning := {
      batch := some ⟨true, origin, lanes.map p.newMember⟩
      lanes := Vector.ofFn fun n : LaneNo =>
        if n ∈ lanes then (p.laneTuning n).withdrawRequest else p.laneTuning n } }
  recompute (joined.putHold .tuning true)

/-! ## Requests and the formation test (R134, R135) -/

/-- The request set, ascending. -/
def Part.requests (p : Part) : List LaneNo := allLanes.filter fun n => (p.laneTuning n).requested

/-- The lane may be retuned by the part itself: automatic retune on, mode not OFF, IN_SERVICE (R134). -/
def Part.retunable (p : Part) (n : LaneNo) : Bool :=
  (p.laneTuning n).settings.automatic && !((p.laneTuning n).settings.mode == .off) &&
    (p.lane n).service == .inService

/-- The lane is in TUNE_ERROR, of any kind. -/
def Lane.inTuneError (l : Lane) : Bool :=
  match l.tune with
  | .tuneError _ => true
  | _ => false

/-- A waiting request still qualifies: the lane is retunable, and TUNED or TUNE_ERROR (R134; log entry 12). -/
def Part.qualifies (p : Part) (n : LaneNo) : Bool :=
  p.retunable n && ((p.lane n).tune == .tuned || (p.lane n).inTuneError)

/-- The conditions of the formation test (R135). -/
def Part.formationDue (p : Part) : Bool :=
  !p.requests.isEmpty && !p.batchRunning && !p.knifeOccupied && p.oldestApproached?.isNone

/-- The requests that no longer qualify are dropped (R135). -/
def dropUnqualified (p : Part) : Part :=
  p.setTuning { p.tuning with lanes := Vector.ofFn fun n : LaneNo =>
    { p.laneTuning n with requested := (p.laneTuning n).requested && p.qualifies n } }

/-- The formation test (R135). -/
def formationTest (p : Part) : Part :=
  if p.formationDue then
    let q := dropUnqualified p
    if q.requests.isEmpty then q else startBatch .automatic q.requests q
  else p

/-- A request joins the set, with the formation test that follows; a lane already in the set leaves it as it is
(R134). -/
def addRequest (n : LaneNo) (p : Part) : Part :=
  if (p.laneTuning n).requested then p
  else formationTest (p.setLaneTuning n { p.laneTuning n with requested := true })

/-- A drift request is kept for a retunable TUNED lane (R112, R134). -/
def driftRequest (n : LaneNo) (p : Part) : Part :=
  if p.retunable n && (p.lane n).tune == .tuned then addRequest n p else p

/-- A holdoff timer expires: it is disarmed, and a request is kept for a retunable lane still in TUNE_ERROR (R136). -/
def expireHoldoff (n : LaneNo) (p : Part) : Part :=
  match (p.laneTuning n).holdoff with
  | none => p
  | some _ =>
    let q := p.setLaneTuning n { p.laneTuning n with holdoff := none }
    if q.retunable n && (q.lane n).inTuneError then addRequest n q else q

/-! ## The end of a batch -/

/-- The batch record shows no batch running, and TUNING is asked to be removed (R131, R132). -/
def endBatch (p : Part) : Part :=
  (p.setTuning { p.tuning with batch := p.tuning.batch.map fun b => { b with running := false } }).putHold .tuning false

/-- Every member of a running batch is FINISHED (R131). -/
def Part.batchDone (p : Part) : Bool :=
  match p.tuning.batch with
  | some b => b.running && b.members.all Member.isFinished
  | none => false

/-- A running batch whose members are all FINISHED completes (R131). -/
def completeBatch (p : Part) : Part :=
  if p.batchDone then formationTest ((endBatch p).attend .tuneDone) else p

/-- The members of the running batch that are not FINISHED. -/
def Part.unfinished (p : Part) : List Member :=
  match p.tuning.batch with
  | some b => if b.running then b.members.filter fun m => !m.isFinished else []
  | none => []

/-- A member's lane takes its saved values back and the member is FINISHED (R130, R132). -/
def restoreMember (p : Part) (m : Member) : Part :=
  match m.saved with
  | none => p.modifyMember m.lane Member.finish
  | some s => (p.setLane m.lane ((p.lane m.lane).restore s)).modifyMember m.lane Member.finish

/-- A member whose lane leaves IN_SERVICE is withdrawn (R130). -/
def withdraw (n : LaneNo) (p : Part) : Part :=
  match p.member? n with
  | some m => if m.isFinished then p else restoreMember p m
  | none => p

/-- A running batch is aborted: unfinished members are restored and the batch ends (R132, R133). The recompute and the
formation test are the caller's. -/
def abortBatch (p : Part) : Part :=
  if p.batchRunning then endBatch (p.unfinished.foldl restoreMember p) else p

/-! ## Readings of a member (R125 to R129) -/

/-- A member fails with an error kind (R129). -/
def failMember (m : Member) (kind : TuneErrorKind) (p : Part) : Part :=
  let restored := match m.saved with
    | some s => (p.lane m.lane).restore s
    | none => p.lane m.lane
  let failed := recompute (p.setLane m.lane { restored with tune := .tuneError kind })
  let told := raise (.tuneError m.lane kind) failed
  let held :=
    if told.tuning.batch.map (·.origin) = some .automatic then
      told.setLaneTuning m.lane { told.laneTuning m.lane with
        holdoff := some (holdoffTicks (told.laneTuning m.lane).settings.holdoff) }
    else told
  held.modifyMember m.lane fun _ => m.finish

/-- A member succeeds: TUNED, with the verify average as reference (R128). -/
def succeedMember (m : Member) (average : Nat) (p : Part) : Part :=
  (recompute (p.setLane m.lane { (p.lane m.lane).dropContact with tune := .tuned, reference := average })).modifyMember
    m.lane fun _ => m.finish

/-- The offset is computed from the scaled empty average at a gain code, and the member goes to VERIFY (R127). -/
def setOffset (m : Member) (gain average : Nat) (p : Part) : Part :=
  let offset : Int := ((average : Int) - ((p.laneTuning m.lane).settings.target : Int)) / 4
  if offset < 0 then failMember m .offsetMin p
  else
    (p.setLane m.lane { p.lane m.lane with calibration := ⟨gain, offset.toNat⟩ }).modifyMember m.lane
      fun _ => m.begin .verify

/-- A gain trial closes with its average (R126). -/
def closeGain (m : Member) (trial base passing average : Nat) (p : Part) : Part :=
  let limit := (p.laneTuning m.lane).settings.base
  let passed := decide (average ≤ limit)
  let newBase := if passed then base + trialStep trial else base
  let newPassing := if passed then average else passing
  let told := { m with lastAverage := some average }
  if trial < 4 then
    (p.setLane m.lane { p.lane m.lane with calibration := ⟨newBase + trialStep (trial + 1), 0⟩ }).modifyMember m.lane
      fun _ => told.begin (.gain (trial + 1) newBase newPassing)
  else if 1 < newBase then setOffset told newBase newPassing p
  else if limit < average / 2 || m.clamped then failMember told .gain p
  else setOffset told 1 (average / 2) p

/-- The trial or phase of a member closes at its eighth reading (R126 to R128). -/
def closePhase (m : Member) (average : Nat) (p : Part) : Part :=
  match m.phase with
  | .gain trial base passing => closeGain m trial base passing average p
  | .offset =>
    if m.clamped then failMember m .offsetMax p
    else setOffset m (p.lane m.lane).calibration.gain average p
  | .verify =>
    if (p.laneTuning m.lane).settings.inWindow average then succeedMember m average p else failMember m .verify p
  | .finished => p

/-- The member after one more reading (R125). -/
def Member.take (m : Member) (conditioned : Nat) (clamped : Bool) : Member :=
  { m with readings := m.readings + 1, sum := m.sum + conditioned, clamped := m.clamped || clamped }

/-- A conditioned reading of a TUNING lane is handed to lane tuning (R104, R125). -/
def handReading (n : LaneNo) (conditioned : Nat) (clamped : Bool) (p : Part) : Part :=
  match p.member? n with
  | none => p
  | some m =>
    if m.isFinished then p
    else
      let taken := m.take conditioned clamped
      if taken.readings < Config.trialReadings then p.modifyMember n fun _ => taken
      else completeBatch (closePhase taken (taken.sum / Config.trialReadings) p)

end Sys2Proof.Machine
end

