-- ==== Sys2Proof/Machine/Articles.lean ====
section
/-! DEFINITION. The article table (01_split_plans.md) as the operations the hide table and the ARTICLE commands ask of
it: the pin claim and release, the passage counters, the default mark. The table is kept in ascending code order,
which is the order of every view of it (R1, R11). -/

namespace Sys2Proof.Machine

/-- A record put in its place by code, in a table of ascending codes without that code. -/
def insertPlan (a : Plan) (table : List Plan) : List Plan :=
  match table with
  | [] => [a]
  | b :: rest => if a.code < b.code then a :: b :: rest else b :: insertPlan a rest

/-- The default mark is taken off every record (R5). -/
def unmarkAll (table : List Plan) : List Plan := table.map fun a => { a with mark := false }

/-- The decision of a pin claim: the real code, or the refusal (R15). -/
def Part.claim (p : Part) (code : Nat) : Except ResultCode Nat :=
  match (if code = 0 then p.defaultPlan? else p.plan? code) with
  | none => .error .notFound
  | some a =>
    match a.state with
    | .retiring => .error .retiring
    | .active => .ok a.code

/-- A record gains a pin (R15). -/
def Plan.pin (a : Plan) : Plan := { a with pins := a.pins + 1 }

/-- A record loses a pin (R16). -/
def Plan.unpin (a : Plan) : Plan := { a with pins := a.pins - 1 }

/-- The pin release: a RETIRING record that reaches 0 is removed, with ARTICLE_GONE (R16). -/
def releasePin (code : Nat) (p : Part) : Part :=
  match p.plan? code with
  | none => p
  | some a =>
    if a.state = .retiring ∧ a.unpin.pins = 0 then
      (p.setArticles (p.articles.filter fun b => !(b.code == code))).attend .articleGone
    else p.modifyPlan code Plan.unpin

/-- A record counts a hide cleared, whatever its state; the counter wraps (R17). -/
def Plan.countCleared (a : Plan) : Plan := { a with cleared := a.cleared + 1 }

/-- A record counts a hide aborted, whatever its state; the counter wraps (R18). -/
def Plan.countAborted (a : Plan) : Plan := { a with aborted := a.aborted + 1 }

/-- MACHINE RESET at the article table: RETIRING records are removed and every pin count becomes 0 (R21). -/
def resetArticles (table : List Plan) : List Plan :=
  (table.filter fun a => a.state == .active).map fun a => { a with pins := 0 }

end Sys2Proof.Machine
end

