-- ==== Sys2Proof/Machine/HideTable.lean ====
section
/-! DEFINITION. The hide table (02_the_hide_table.md): creation and tickets, binding, trails, the four marks, CLEARED
and ABORTED with their hand-ons, and attribution. -/

namespace Sys2Proof.Machine

/-! ## Tickets and creation (R23, R25) -/

/-- The ticket after one: 65535 passes to 1 (R23). -/
def nextTicketAfter (t : Nat) : Nat := if 65535 ≤ t then 1 else t + 1

/-- The first ticket from `t` on that no record holds (R23). `fuel` is the number of records, at most 8: among that
many tickets and one more, one is free. -/
def freeTicket (used : List Nat) (fuel t : Nat) : Nat :=
  match fuel with
  | 0 => t
  | k + 1 => if t ∈ used then freeTicket used k (nextTicketAfter t) else t

/-- The ticket the next record receives (R23). -/
def Part.ticket (p : Part) : Nat := freeTicket (p.hides.map (·.ticket)) p.hides.length p.nextTicket

/-- A record as it is created (R22, R25). -/
def newHide (ticket : Nat) (tag : Word) (article : Nat) (unannounced : Bool) : Hide where
  ticket := ticket
  tag := tag
  article := article
  state := .announced
  unannounced := unannounced
  overlength := false
  gapUnsettled := false
  lead := none
  trail := none
  snapshot := none
  coverage := none
  bottomEvents := 0
  gapExcursions := 0
  verdict := none
  abortCause := none
  approachReached := false
  waiting := false

/-- A record is appended at the tail with the next ticket, and its article gains a pin (R15, R23, R25, R29). -/
def createHide (tag : Word) (article : Nat) (unannounced : Bool) (p : Part) : Part :=
  { p.modifyPlan article Plan.pin with
    hides := p.hides ++ [newHide p.ticket tag article unannounced]
    nextTicket := nextTicketAfter p.ticket }

/-! ## The feed unit's answers to record changes (R24, R67, R68) -/

/-- STOPPING_AT_CLEAR ends when no record is ENTERING or SPLITTING (R67). -/
def stopAtClearTest (p : Part) : Part :=
  if p.feed.runState = .stoppingAtClear ∧ p.anyInPassage = false then p.setRunState .stopped else p

/-- STOPPING_BEFORE_NEXT ends at an approach-point crossing (R68). -/
def stopBeforeNext (p : Part) : Part :=
  if p.feed.runState = .stoppingBeforeNext then p.setRunState .stopped else p

/-! ## Marks (R32 to R35) -/

/-- A position one throat length ahead of an edge at the eye (Conventions, "The throat"). -/
def Part.knifeMark (p : Part) (edge : Pos) : Pos := ahead edge p.settings.throatLength

/-- The approach point of a lead: the knife line less the approach margin (R32). -/
def Part.approachMark (p : Part) (lead : Pos) : Pos :=
  p.knifeMark lead - BitVec.ofNat 32 p.settings.approachMargin

/-- A position that is present has been reached. -/
def Part.reachedAt (p : Part) (mark : Option Pos) : Bool := mark.any p.atOrPast

/-- An ENTERING record's approach point is reached and not yet crossed (R32). -/
def Part.approachDue (p : Part) (h : Hide) : Bool :=
  h.state == .entering && !h.approachReached && p.reachedAt (h.lead.map p.approachMark)

/-- An ENTERING record's lead is at the knife line and the crossing not yet taken (R33). -/
def Part.knifeDue (p : Part) (h : Hide) : Bool :=
  h.state == .entering && !h.waiting && p.reachedAt (h.lead.map p.knifeMark)

/-- The SPLITTING record's trail is at the knife line (R34). -/
def Part.trailDue (p : Part) (h : Hide) : Bool :=
  h.state == .splitting && p.reachedAt (h.trail.map p.knifeMark)

/-- The maximum-length mark of a record in passage without a trail is reached and not yet taken (R35). -/
def Part.maximumDue (p : Part) (h : Hide) : Bool :=
  h.inPassage && h.trail.isNone && !h.overlength &&
    p.reachedAt (h.lead.map fun lead => ahead lead p.settings.maximumHideLength)

/-- The approach-point crossing: the table keeps the fact, the gap axis tests its readiness and the feed unit ends
STOPPING_BEFORE_NEXT (R32). -/
def crossApproach (ticket : Nat) (p : Part) : Part :=
  stopBeforeNext (notReadyTest (p.modifyHide ticket fun h => { h with approachReached := true }))

/-- A record as it becomes SPLITTING (R33). -/
def Hide.split (h : Hide) (unsettled : Bool) : Hide :=
  { h with
    state := .splitting
    gapUnsettled := h.gapUnsettled || unsettled
    approachReached := false
    waiting := false }

/-- A record becomes SPLITTING, with the hand-ons of R24 (R33). -/
def becomeSplitting (h : Hide) (p : Part) : Part :=
  let unsettled := !p.gap.idleOn (h.snapshot.map (·.splitGap))
  let split := endExcursionRun (p.modifyHide h.ticket fun x => x.split unsettled)
  stopAtClearTest (raise (.hideSplitting h.ticket h.article) (clearPerHideTallies (recompute (gapHandOn split))))

/-- The knife-line crossing of a lead: the record becomes SPLITTING, or waits while another one is (R33). -/
def crossKnife (h : Hide) (p : Part) : Part :=
  if p.splitting?.isSome then p.modifyHide h.ticket fun x => { x with waiting := true }
  else becomeSplitting h p

/-- The oldest waiting record becomes SPLITTING in the step the other one leaves it (R33). -/
def promoteWaiting (p : Part) : Part :=
  if p.splitting?.isSome then p
  else
    match p.hides.find? fun h => h.state == .entering && h.waiting with
    | some h => becomeSplitting h p
    | none => p

/-- The verdict of a CLEARED record, from its snapshot reject limit and its bottom events (R34). -/
def Hide.verdictOf (h : Hide) : Verdict :=
  match (h.snapshot.map (·.rejectLimit)).getD 0 with
  | 0 => .none
  | limit + 1 => if limit + 1 ≤ h.bottomEvents then .reject else .pass

/-- A record as it becomes CLEARED (R34). -/
def Hide.clear (h : Hide) : Hide := { h with state := .cleared, verdict := some h.verdictOf }

/-- HIDE_CLEARED, then HIDE_REJECT if the verdict is REJECT (R24, R34). -/
def Hide.clearedEvents (h : Hide) : List Event :=
  .hideCleared h.ticket h.article ::
    match h.verdictOf with
    | .reject => [.hideReject h.ticket h.article]
    | _ => []

/-- The SPLITTING record becomes CLEARED, with the hand-ons in the order of R34 (log entry 32). -/
def clearRecord (h : Hide) (p : Part) : Part :=
  let cleared := endExcursionRun ((p.modifyHide h.ticket Hide.clear).modifyPlan h.article Plan.countCleared)
  let told := raiseAll h.clearedEvents ((comparePerHideTallies cleared).attend .hideDone)
  stopAtClearTest (recompute (formationTest (gapCleared (promoteWaiting told))))

/-- The maximum-length mark acts: flag, hold, attention cause and event (R35). -/
def crossMaximum (h : Hide) (p : Part) : Part :=
  raise (.overlength h.ticket h.article)
    (((p.modifyHide h.ticket fun x => { x with overlength := true }).putHold .overlength true).attend .overlength)

/-- Approach point, if due (R32). -/
def testApproach (ticket : Nat) (p : Part) : Part :=
  match p.hide? ticket with
  | some h => if p.approachDue h then crossApproach ticket p else p
  | none => p

/-- Knife line of the lead, if due (R33). -/
def testKnife (ticket : Nat) (p : Part) : Part :=
  match p.hide? ticket with
  | some h => if p.knifeDue h then crossKnife h p else p
  | none => p

/-- Knife line of the trail, if due (R34). -/
def testTrail (ticket : Nat) (p : Part) : Part :=
  match p.hide? ticket with
  | some h => if p.trailDue h then clearRecord h p else p
  | none => p

/-- Maximum length, if due (R35). -/
def testMaximum (ticket : Nat) (p : Part) : Part :=
  match p.hide? ticket with
  | some h => if p.maximumDue h then crossMaximum h p else p
  | none => p

/-- The marks of a record that are reached are crossed, in the order of R36. -/
def testMarks (ticket : Nat) (p : Part) : Part :=
  testMaximum ticket (testTrail ticket (testKnife ticket (testApproach ticket p)))

/-- The marks of every record are tested at a forward step, in table order (R62; log entry 7). -/
def testAllMarks (p : Part) : Part := (p.hides.map (·.ticket)).foldl (fun q t => testMarks t q) p

/-! ## Edges (R28 to R31) -/

/-- A record as it is bound to a lead (R28). -/
def Hide.bind (h : Hide) (lead : Pos) (trail : Option Pos) (fields : Option PlanFields) : Hide :=
  { h with state := .entering, lead := some lead, trail := trail, snapshot := fields }

/-- A record is bound to a lead, with a trail where the unbound edge carried one: snapshot, then the hand-ons of R24 (gap
axis, HIDE_ENTERING, feed unit), then the marks already reached (R28, R30, R36). That the event and its routes come
before these marks is the model's choice (log entry 43). -/
def bindHide (ticket : Nat) (lead : Pos) (trail : Option Pos) (p : Part) : Part :=
  match p.hide? ticket with
  | none => p
  | some h =>
    let fields := (p.plan? h.article).map (·.fields)
    let bound := p.modifyHide ticket fun x => x.bind lead trail fields
    testMarks ticket (stopAtClearTest (raise (.hideEntering ticket h.article) (gapHandOn bound)))

/-- The attention cause and the event UNBOUND_EDGE (R30). -/
def tellUnbound (lead : Pos) (p : Part) : Part := raise (.unboundEdge lead) (p.attend .unboundEdge)

/-- A leading edge that no record can take becomes the unbound edge (R30). -/
def holdUnbound (lead : Pos) (p : Part) : Part :=
  tellUnbound lead ((p.setUnbound (some ⟨lead, none⟩)).putHold .unboundEdge true)

/-- The default article an unannounced lead is adopted on: the policy is ADOPT, a default exists, and the table has
room (R29). -/
def Part.adoptable? (p : Part) : Option Nat :=
  if p.settings.unannouncedPolicy = .adopt ∧ p.hides.length < Config.hideCapacity then (p.claim 0).toOption else none

/-- A confirmed leading edge is bound, adopted, held unbound, or dropped while another waits (R28 to R30). -/
def confirmLead (lead : Pos) (p : Part) : Part :=
  match p.unbound with
  | some _ => tellUnbound lead p
  | none =>
    match p.hides.find? fun h => h.state == .announced with
    | some h => bindHide h.ticket lead none p
    | none =>
      match p.adoptable? with
      | some article => bindHide p.ticket lead none (createHide 0 article true p)
      | none => holdUnbound lead p

/-- A confirmed trailing edge goes to the oldest record in passage without a trail, or to the unbound edge without
one, or is dropped (R31). -/
def confirmTrail (trail : Pos) (p : Part) : Part :=
  match p.hides.find? fun h => h.inPassage && h.trail.isNone with
  | some h => testMarks h.ticket (p.modifyHide h.ticket fun x => { x with trail := some trail })
  | none =>
    match p.unbound with
    | some ⟨lead, none⟩ => p.setUnbound (some ⟨lead, some trail⟩)
    | some ⟨_, some _⟩ => p
    | none => p

/-! ## Aborts (R42, R43) -/

/-- A record as it becomes ABORTED (R42, R43). -/
def Hide.abort (h : Hide) (cause : AbortCause) : Hide :=
  { h with state := .aborted, abortCause := some cause, approachReached := false, waiting := false }

/-- A record becomes ABORTED: its article counts it, and where it was SPLITTING the excursion run ends and the PER_HIDE
tallies clear (R18, R42, R43, R91, R180; log entry 9). -/
def abortRecord (h : Hide) (cause : AbortCause) (p : Part) : Part :=
  let aborted := (p.modifyHide h.ticket fun x => x.abort cause).modifyPlan h.article Plan.countAborted
  if h.state = .splitting then clearPerHideTallies (endExcursionRun aborted) else aborted

/-- HIDE ABORT of an ANNOUNCED record: no hold is added (R42). -/
def abortAnnounced (h : Hide) (p : Part) : Part :=
  stopAtClearTest (raise (.hideAborted h.ticket h.article) (abortRecord h .host p))

/-- HIDE ABORT of an ENTERING or SPLITTING record: HIDE_ABORTED is added, and the hand-ons of R24 are made (R42; log
entry 31). -/
def abortInPassage (h : Hide) (p : Part) : Part :=
  let aborted := (abortRecord h .host p).putHold .hideAborted true
  stopAtClearTest (recompute (gapHandOn (promoteWaiting (raise (.hideAborted h.ticket h.article) aborted))))

/-- The STOP assertion aborts a record that is ENTERING or SPLITTING, with its event (R43). -/
def stopRecord (p : Part) (h : Hide) : Part := raise (.hideAborted h.ticket h.article) (abortRecord h .stop p)

/-- The STOP assertion at the hide table: the records in passage are aborted in table order and the unbound edge is
discarded (R43). -/
def stopHides (p : Part) : Part := ((p.hides.filter Hide.inPassage).foldl stopRecord p).setUnbound none

/-! ## Attribution (R37, R38) -/

/-- The coverage of a record widened by a lane (R37). -/
def Hide.cover (h : Hide) (n : Nat) : Hide :=
  match h.coverage with
  | none => { h with coverage := some (n, n) }
  | some (low, high) => { h with coverage := some (min low n, max high n) }

/-- A bottom event of a record, stopping at 65535 (R37). -/
def Hide.addBottom (h : Hide) : Hide := { h with bottomEvents := min (h.bottomEvents + 1) Config.eventCountMax }

/-- CONTACT_ON of a lane: attributed to the SPLITTING record, or a phantom over an unoccupied knife line (R37, R38). -/
def attributeContact (n : LaneNo) (p : Part) : Part :=
  match p.splitting? with
  | some h => p.modifyHide h.ticket fun x => x.cover n.val
  | none => if p.knifeOccupied then p else raise (.lanePhantom n) p

/-- BOTTOM_ON of a lane: attributed to the SPLITTING record, or to none (R37, R38). -/
def attributeBottom (p : Part) : Part :=
  match p.splitting? with
  | some h => p.modifyHide h.ticket Hide.addBottom
  | none => p

end Sys2Proof.Machine
end

