-- ==== Sys2Proof/Machine/Lanes.lean ====
section
/-! DEFINITION. Lane sensing (06_lane_sensing_and_contact.md): conditioning, rail faults and claims, the contact
machine, the reference filter, reseeding and drift, as the operations a reading, a forward step and the LANE commands
are made of. -/

namespace Sys2Proof.Machine

/-! ## Conditioning (R101) -/

/-- A raw reading times the gain code divided by 16, less four times the offset, before clamping (R101). -/
def Calibration.scale (c : Calibration) (raw : Nat) : Int := ((raw * c.gain / 16 : Nat) : Int) - 4 * (c.offset : Int)

/-- The conditioned reading, clamped to 0 to 4095 (R101). -/
def Calibration.condition (c : Calibration) (raw : Nat) : Nat := min (c.scale raw).toNat Config.conditionedMax

/-- The reading was clamped at 4095: its value before clamping lies above (R123; log entry 11). -/
def Calibration.clampsHigh (c : Calibration) (raw : Nat) : Bool :=
  decide ((Config.conditionedMax : Int) < c.scale raw)

/-- The lane with the raw and the conditioned value of a reading (R101). -/
def Lane.read (l : Lane) (raw : Nat) : Lane :=
  { l with lastRaw := raw, lastConditioned := l.calibration.condition raw }

/-! ## Faults and claims (R102, R103) -/

/-- A raw value at one end of its range (R102). -/
def atRail (raw : Nat) : Bool := raw == 0 || raw == 65535

/-- A lane becomes FAULTED: blind and EMPTY, with its rail counter 0 (R99, R102, R103). -/
def Lane.faultWith (l : Lane) (kind : LaneFaultKind) : Lane :=
  { l.dropContact with service := .faulted kind, railCount := 0 }

/-- A lane returns to service with its tune state kept (R103, R114). -/
def Lane.returnToService (l : Lane) : Lane := { l.dropContact with service := .inService, railCount := 0 }

/-- A lane leaves IN_SERVICE by a fault of its own: it is withdrawn from its batch, every lane is recomputed, LANE_FAULT
is raised with its attention cause, and a batch it was the last of completes (R102, R103, R130, R131). -/
def faultLane (n : LaneNo) (kind : LaneFaultKind) (p : Part) : Part :=
  let faulted := recompute (withdraw n (p.setLane n ((p.lane n).faultWith kind)))
  completeBatch ((raise (.laneFault n kind) faulted).attend .laneFault)

/-- A drive claim on a lane (R103). -/
def driveClaim (n : LaneNo) (p : Part) : Part :=
  match (p.lane n).service with
  | .inService => faultLane n .drive p
  | .parked => faultLane n .drive p
  | .faulted .sensor => faultLane n .drive p
  | .faulted .drive => p
  | .faulted .board => p

/-- A board claim on a lane of the board (R103). -/
def Lane.boardClaim (l : Lane) : Lane :=
  match l.service with
  | .faulted .board => l
  | _ => l.faultWith .board

/-- A board release of a lane of the board (R103). -/
def Lane.boardRelease (l : Lane) : Lane :=
  match l.service with
  | .faulted .board => l.returnToService
  | _ => l

/-- The lanes of a board changed by `f`. -/
def Part.modifyBoardLanes (p : Part) (b : BoardNo) (f : Lane → Lane) : Part :=
  p.setLanes (Vector.ofFn fun n : LaneNo => if boardOf n = b then f (p.lane n) else p.lane n)

/-- A board claim: the eight lanes become FAULTED(BOARD), their members are withdrawn, every lane is recomputed, and a
batch that ends so completes (R103, R130, R131; log entry 13). -/
def boardClaim (b : BoardNo) (p : Part) : Part :=
  completeBatch (recompute
    ((lanesOfBoard b).foldl (fun q n => withdraw n q) (p.modifyBoardLanes b Lane.boardClaim)))

/-! ## The contact machine (R105 to R107) -/

/-- A change made by the contact machine (R108). -/
inductive ContactChange where
  | contactOn
  | bottomOn
  | bottomOff
  | contactOff
  deriving DecidableEq, Repr

/-- The last conditioned reading less the reference (R104). -/
def Lane.delta (l : Lane) : Int := (l.lastConditioned : Int) - (l.reference : Int)

/-- The reading's delta is below the contact threshold less the hysteresis (R106, R107). -/
def Lane.belowContactExit (l : Lane) : Bool :=
  decide (l.delta < (l.settings.contactThreshold : Int) - (l.settings.hysteresis : Int))

/-- The reading's delta is at or above the contact threshold (R105). -/
def Lane.atContactThreshold (l : Lane) : Bool := decide ((l.settings.contactThreshold : Int) ≤ l.delta)

/-- The conditioned reading is at or above the bottom limit (R106). -/
def Lane.atBottomLimit (l : Lane) : Bool := decide (l.settings.bottomLimit ≤ l.lastConditioned)

/-- The conditioned reading is below the bottom limit less the hysteresis (R107). -/
def Lane.belowBottomExit (l : Lane) : Bool :=
  decide ((l.lastConditioned : Int) < (l.settings.bottomLimit : Int) - (l.settings.hysteresis : Int))

/-- The lane in another contact state with both counters 0; EMPTY also makes the contact distance 0 (R105 to R107). -/
def Lane.enterContact (l : Lane) (c : Contact) : Lane := { l with contact := c, enterCount := 0, exitCount := 0 }

/-- A counter after a reading that counts, or does not. -/
def counted (counts : Bool) (k : Nat) : Nat := if counts then k + 1 else 0

/-- A reading of an EMPTY lane (R105). -/
def Lane.senseEmpty (l : Lane) : Lane × Option ContactChange :=
  let enter := counted l.atContactThreshold l.enterCount
  if l.atContactThreshold && decide (l.settings.enterDebounce ≤ enter) then
    ({ l.enterContact .contact with distance := 0 }, some .contactOn)
  else ({ l with enterCount := enter }, none)

/-- A reading of a CONTACT lane (R106). -/
def Lane.senseContact (l : Lane) : Lane × Option ContactChange :=
  let enter := counted l.atBottomLimit l.enterCount
  let exit := counted l.belowContactExit l.exitCount
  if l.belowContactExit && decide (l.settings.exitDebounce ≤ exit) then (l.dropContact, some .contactOff)
  else if l.atBottomLimit && decide (l.settings.enterDebounce ≤ enter) then
    (l.enterContact .bottomed, some .bottomOn)
  else ({ l with enterCount := enter, exitCount := exit }, none)

/-- A reading of a BOTTOMED lane (R107). -/
def Lane.senseBottomed (l : Lane) : Lane × Option ContactChange :=
  let exit := counted l.belowBottomExit l.exitCount
  if l.belowBottomExit && decide (l.settings.exitDebounce ≤ exit) then
    if l.belowContactExit then (l.dropContact, some .contactOff) else (l.enterContact .contact, some .bottomOff)
  else ({ l with exitCount := exit }, none)

/-- The contact machine on a reading (R105 to R107). -/
def Lane.sense (l : Lane) : Lane × Option ContactChange :=
  match l.contact with
  | .empty => l.senseEmpty
  | .contact => l.senseContact
  | .bottomed => l.senseBottomed

/-- A change is handed on: hide table, pressure unit, reaction map (R108). -/
def handOnContact (n : LaneNo) (change : Option ContactChange) (p : Part) : Part :=
  match change with
  | none => p
  | some .contactOn => raise (.laneContactOn n) (recompute (attributeContact n p))
  | some .bottomOn => raise (.laneBottomOn n) (recompute (attributeBottom p))
  | some .bottomOff => recompute p
  | some .contactOff => recompute p

/-! ## The reference filter, drift and reseeding (R109 to R112) -/

/-- The step of the reference filter: the difference divided by 2 to the beta with the fraction dropped, at least 1
toward the reading (R109). -/
def Lane.filterStep (l : Lane) : Int :=
  let beta := if l.delta < 0 then l.settings.fastBeta else l.settings.referenceBeta
  let step := l.delta.tdiv (2 ^ beta)
  if step = 0 then l.delta.sign else step

/-- The reference after one step of the filter (R109). -/
def Lane.filter (l : Lane) : Lane :=
  { l with reference := min ((l.reference : Int) + l.filterStep).toNat Config.conditionedMax }

/-- The reference filter of a lane that was EMPTY when its reading arrived, with the drift check (R109, R112). -/
def filterReference (n : LaneNo) (p : Part) : Part :=
  if (p.lane n).atContactThreshold || p.halted n then p
  else
    let q := p.setLane n (p.lane n).filter
    if (q.laneTuning n).settings.inWindow (q.lane n).reference then q else driftRequest n q

/-- A lane reseeds (R111). -/
def reseed (n : LaneNo) (p : Part) : Part :=
  raise (.laneReseed n)
    (recompute (p.setLane n { (p.lane n).dropContact with reference := (p.lane n).lastConditioned }))

/-- A lane in contact has covered its contact limit, and the limit is not 0 (R111). -/
def Lane.reseedDue (l : Lane) : Bool :=
  l.inContact && !(l.settings.contactLimit == 0) && decide (l.settings.contactLimit ≤ l.distance)

/-- The reseed, where it is due (R111). -/
def reseedTest (n : LaneNo) (p : Part) : Part := if (p.lane n).reseedDue then reseed n p else p

/-- A forward step at one lane: a lane out of EMPTY counts it, stopping at 80000, and reseeds at its limit (R62,
R111). -/
def forwardLane (n : LaneNo) (p : Part) : Part :=
  if (p.lane n).inContact then
    reseedTest n (p.setLane n { p.lane n with
      distance := min ((p.lane n).distance + 1) Config.contactDistanceMax })
  else p

/-- A forward step at every lane, ascending (log entry 7). -/
def forwardLanes (p : Part) : Part := allLanes.foldl (fun q n => forwardLane n q) p

/-! ## A reading (R101) -/

/-- A seeding reading: the reference becomes the conditioned reading (R104). -/
def Lane.seed (l : Lane) : Lane :=
  { l with reference := l.lastConditioned, seedPending := false, enterCount := 0, exitCount := 0 }

/-- A reading of a seeing lane with seed pending clear: contact machine, hand-on, reference filter (R104 to R112). -/
def senseReading (n : LaneNo) (p : Part) : Part :=
  let l := p.lane n
  let sensed := handOnContact n l.sense.2 (p.setLane n l.sense.1)
  if l.contact = .empty then filterReference n sensed else sensed

/-- The rail counter after a reading of an IN_SERVICE lane (R102). -/
def Lane.railStep (l : Lane) (raw : Nat) : Lane := { l with railCount := counted (atRail raw) l.railCount }

/-- A reading after the rail check (R104). -/
def pastRailCheck (n : LaneNo) (raw : Nat) (p : Part) : Part :=
  let l := p.lane n
  if l.seeing then
    if l.seedPending then p.setLane n l.seed else senseReading n p
  else if l.tune = .tuning then handReading n l.lastConditioned (l.calibration.clampsHigh raw) p
  else p

/-- A reading of a lane arrives (R101): conditioning, rail check, and then as the lane is blind or seeing. -/
def takeReading (n : LaneNo) (raw : Nat) (p : Part) : Part :=
  let l := (p.lane n).read raw
  if l.service = .inService then
    let railed := l.railStep raw
    if railed.railCount = Config.railReadings then faultLane n .sensor (p.setLane n railed)
    else pastRailCheck n raw (p.setLane n railed)
  else pastRailCheck n raw (p.setLane n l)

/-- The first reading of a scan is L0's: the scan period in force becomes that of the scan under way (R100; log entry
30). -/
def startScan (n : LaneNo) (p : Part) : Part := if n.val = 0 then p.setScanPeriod p.settings.scanPeriod else p

end Sys2Proof.Machine
end

