-- ==== Sys2Proof/Machine/DriveBus.lean ====
section
/-! DEFINITION. The lane drive bus (09_lane_drive_bus.md): the arbiter, selection, the frames and echoes of a session,
its end, and board faults. -/

namespace Sys2Proof.Machine

/-! ## Pairs -/

/-- The even lane of pair k of board b (R154). -/
def evenLane (b : BoardNo) (k : Fin 4) : LaneNo := ⟨8 * b.val + 2 * k.val, by omega⟩

/-- The odd lane of pair k of board b (R154). -/
def oddLane (b : BoardNo) (k : Fin 4) : LaneNo := ⟨8 * b.val + 2 * k.val + 1, by omega⟩

/-- The pair's own number, 4b to 4b+3 (R154). -/
def pairNumber (b : BoardNo) (k : Fin 4) : Fin 16 := ⟨4 * b.val + k.val, by omega⟩

/-! ## The arbiter (R158) -/

/-- The board is FAULTED. -/
def BoardState.isFaulted (s : BoardState) : Bool :=
  match s with
  | .faulted _ => true
  | _ => false

/-- A board has work when it is not FAULTED and some lane of it is WAITING and driven (R158). -/
def Part.hasWork (p : Part) (b : BoardNo) : Bool :=
  !(p.bus.boards[b.val]).isFaulted && (lanesOfBoard b).any p.waitingDriven

/-- The boards in round-robin order after a pointer (R158). -/
def roundRobin (b : BoardNo) : List BoardNo := [b + 1, b + 2, b + 3, b]

/-- A board is selected: pointer, select line, select timer (R158). -/
def Bus.select (u : Bus) (b : BoardNo) (timeout : Nat) : Bus :=
  { u with pointer := b, master := .selecting b, selectTimer := some (selectTicks timeout) }

/-- The arbiter test, made while the master is IDLE (R158). -/
def arbiterTest (p : Part) : Part :=
  if p.bus.master = .idle then
    match (roundRobin p.bus.pointer).find? p.hasWork with
    | some b => p.setBus (p.bus.select b p.settings.selectTimeout)
    | none => p
  else p

/-- An operation of the part followed by the arbiter test where it has made a lane WAITING and driven; the test is made
once, after every hand-on of the step (R156, R157). -/
def thenArbiter (f : Part → Part) (p : Part) : Part :=
  if allLanes.any (fun n => (f p).waitingDriven n && !p.waitingDriven n) then arbiterTest (f p) else f p

/-! ## Board faults (R165) -/

/-- The part with another state for a board. -/
def Part.setBoard (p : Part) (b : BoardNo) (s : BoardState) : Part :=
  p.setBus { p.bus with boards := p.bus.boards.set b.val s }

/-- The master enters RELEASING: the select line is dropped and the release interval timed (R164). -/
def Bus.release (u : Bus) (interval : Nat) : Bus :=
  { u with
    master := .releasing
    releaseTimer := some (releaseTicks interval)
    selectTimer := none
    resetDrain := false
    dueNext := none
    dueAfter := none }

/-- The master of the part enters RELEASING (R164). -/
def releaseBus (p : Part) : Part := p.setBus (p.bus.release p.settings.releaseInterval)

/-- The drive records of a board changed by `f`. -/
def Part.modifyBoardDrives (p : Part) (b : BoardNo) (f : Drive → Drive) : Part :=
  let drives := Vector.ofFn fun n : LaneNo => if boardOf n = b then f (p.drive n) else p.drive n
  p.setBus { p.bus with drives := drives }

/-- A board becomes FAULTED, after the master's own changes: its state, the board claim, the event and the attention
cause (R165). -/
def faultBoard (b : BoardNo) (kind : BoardFaultKind) (p : Part) : Part :=
  (raise (.boardFault b kind) (boardClaim b (p.setBoard b (.faulted kind)))).attend .boardFault

/-! ## Selecting (R159) -/

/-- A session opens (R159). -/
def Bus.open (u : Bus) (b : BoardNo) (limit : Nat) : Bus :=
  { u with
    boards := u.boards.set b.val .ready
    master := .opened b
    selectTimer := none
    cursor := 0
    frameCount := 0
    sessionLimit := limit
    dueNext := none
    dueAfter := none }

/-- The selected board answers in a slot of SELECTING; in any other state no answer is asked for (R159). -/
def takeSelectAnswer (answer : BoardAnswer) (p : Part) : Part :=
  match p.bus.master, answer with
  | .selecting b, .ready => p.setBus (p.bus.open b p.settings.sessionFrameLimit)
  | .selecting b, .refuse => faultBoard b .refused (releaseBus p)
  | _, _ => p

/-- The select timer expires in SELECTING (R159). -/
def expireSelectTimer (p : Part) : Part :=
  match p.bus.master with
  | .selecting b => faultBoard b .timeout (releaseBus p)
  | _ => p

/-! ## Echoes (R161, R162) -/

/-- A lane is judged on its half of an echo: a match, a first mismatch, or the second one, which makes a drive claim
(R161, R162). -/
def judgeLane (n : LaneNo) (echoed : Nat) (p : Part) : Part :=
  match (p.drive n).state with
  | .inFlight v =>
    if echoed = v then
      p.setDrive n ⟨if p.wanted n = v then .settled else .waiting, some v, 0⟩
    else if (p.drive n).retry = 0 then p.setDrive n ⟨.waiting, none, 1⟩
    else driveClaim n (p.setDrive n ⟨.waiting, none, 0⟩)
  | _ => p

/-- A carried lane is judged; a partner marked keep is not (R161). -/
def judgeHalf (carried : Option Nat) (n : LaneNo) (echoed : Half) (p : Part) : Part :=
  match carried with
  | some _ => judgeLane n echoed.toNat p
  | none => p

/-- A valid echo is taken, the even lane before the odd one (R161; log entry 13). -/
def takeEcho (b : BoardNo) (f : BusFrame) (e : Echo) (p : Part) : Part :=
  judgeHalf f.odd (oddLane b f.pair) e.odd (judgeHalf f.even (evenLane b f.pair) e.even p)

/-- An echo is valid for a frame when it names the frame's pair (R161). -/
def echoAnswers (e : Echo) (b : BoardNo) (f : BusFrame) : Bool := e.pair == pairNumber b f.pair

/-- While the reset drain mark is set: the lane takes a matching value as its applied value, and otherwise its applied
value is absent; either way it is WAITING with retry count 0 (R170). -/
def drainHalf (carried : Option Nat) (n : LaneNo) (echoed : Option Half) (p : Part) : Part :=
  match carried with
  | none => p
  | some v => p.setDrive n ⟨.waiting, if echoed.map (·.toNat) = some v then some v else none, 0⟩

/-- An echo due is taken under the reset drain mark, valid or not, without faults (R170). -/
def drainEcho (b : BoardNo) (f : BusFrame) (received : Option Echo) (p : Part) : Part :=
  let valid := received.filter fun e => echoAnswers e b f
  drainHalf f.odd (oddLane b f.pair) (valid.map (·.odd))
    (drainHalf f.even (evenLane b f.pair) (valid.map (·.even)) p)

/-- A lane in flight becomes WAITING with its applied value unknown (R163). -/
def Drive.lose (d : Drive) : Drive :=
  match d.state with
  | .inFlight _ => ⟨.waiting, none, 0⟩
  | _ => d

/-- A board falls silent: its lanes in flight are lost, the session is aborted, and the board faults (R163, R165). -/
def silenceBoard (b : BoardNo) (p : Part) : Part :=
  faultBoard b .silent (releaseBus (p.modifyBoardDrives b Drive.lose))

/-! ## Frames (R160) -/

/-- The value a frame carries for a lane: its wanted pressure where it is WAITING and driven, else keep (R160). -/
def Part.carried (p : Part) (n : LaneNo) : Option Nat := if p.waitingDriven n then some (p.wanted n) else none

/-- Pair k of a board has a lane WAITING and driven (R160). -/
def Part.pairHasWork (p : Part) (b : BoardNo) (k : Fin 4) : Bool :=
  p.waitingDriven (evenLane b k) || p.waitingDriven (oddLane b k)

/-- The first pair with work from the cursor upward, wrapping (R160). -/
def Part.nextPair? (p : Part) (b : BoardNo) : Option (Fin 4) :=
  [p.bus.cursor, p.bus.cursor + 1, p.bus.cursor + 2, p.bus.cursor + 3].find? fun k => p.pairHasWork b k

/-- The frame of a pair: PAIR, or SINGLE with the partner marked keep (R160). -/
def Part.frameOf (p : Part) (b : BoardNo) (k : Fin 4) : BusFrame :=
  ⟨k, p.carried (evenLane b k), p.carried (oddLane b k)⟩

/-- A carried lane becomes IN_FLIGHT with its carried value (R160). -/
def launch (n : LaneNo) (carried : Option Nat) (p : Part) : Part :=
  match carried with
  | some v => p.setDrive n { p.drive n with state := .inFlight v }
  | none => p

/-- The slot ends with the frame issued in it, an idle frame for none: the echoes due move up by one slot (R161). -/
def Bus.issue (u : Bus) (frame : Option BusFrame) : Bus := { u with dueNext := u.dueAfter, dueAfter := frame }

/-- No echo remains due. -/
def Bus.nothingDue (u : Bus) : Bool := u.dueNext.isNone && u.dueAfter.isNone

/-- The master leaves DRAINING when no echo remains due (R164, R170). -/
def drainTest (p : Part) : Part :=
  match p.bus.master with
  | .draining _ => if p.bus.nothingDue then releaseBus p else p
  | _ => p

/-- The frame part of a slot of an open session (R160). -/
def issueFrame (b : BoardNo) (p : Part) : Part :=
  match p.nextPair? b with
  | none => drainTest (p.setBus { p.bus.issue none with master := .draining b })
  | some k =>
    let f := p.frameOf b k
    let launched := launch (oddLane b k) f.odd (launch (evenLane b k) f.even p)
    launched.setBus { launched.bus.issue (some f) with
      frameCount := launched.bus.frameCount + 1
      cursor := k + 1
      master := if launched.bus.sessionLimit ≤ launched.bus.frameCount + 1 then .draining b else .opened b }

/-- The frame part of a slot of a draining session: an idle frame (R164). -/
def issueIdle (p : Part) : Part := drainTest (p.setBus (p.bus.issue none))

/-- The frame part of a slot. -/
def frameDue (b : BoardNo) (p : Part) : Part :=
  match p.bus.master with
  | .opened _ => issueFrame b p
  | _ => issueIdle p

/-- One slot of a session of board b: first the echo due in it, then its frame (R160 to R164, R170). -/
def sessionSlot (b : BoardNo) (received : Option Echo) (p : Part) : Part :=
  match p.bus.dueNext with
  | none => frameDue b p
  | some f =>
    if p.bus.resetDrain then issueIdle (drainEcho b f received p)
    else
      match received.filter fun e => echoAnswers e b f with
      | some e => frameDue b (takeEcho b f e p)
      | none => silenceBoard b p

/-- One slot of the link: it acts in OPEN and DRAINING (R160, R164). -/
def takeSlot (received : Option Echo) (p : Part) : Part :=
  match p.bus.master with
  | .opened b => sessionSlot b received p
  | .draining b => sessionSlot b received p
  | _ => p

/-- An echo arrives in the slot it is due in, ahead of the slot's frame part; one that answers no frame due is left to
the slot (R161; log entry 14). -/
def sessionEcho (b : BoardNo) (e : Echo) (p : Part) : Part :=
  match p.bus.dueNext with
  | none => p
  | some f =>
    if echoAnswers e b f then
      let taken := if p.bus.resetDrain then drainEcho b f (some e) p else takeEcho b f e p
      drainTest (taken.setBus { taken.bus with dueNext := none })
    else p

/-- The arrival of an echo (R161). -/
def takeEchoArrival (e : Echo) (p : Part) : Part :=
  match p.bus.master with
  | .opened b => sessionEcho b e p
  | .draining b => sessionEcho b e p
  | _ => p

/-- The release interval ends: the master is IDLE and the arbiter test is made (R164). -/
def expireRelease (p : Part) : Part :=
  if p.bus.master = .releasing then arbiterTest (p.setBus { p.bus with master := .idle, releaseTimer := none }) else p

/-! ## Recovery and reset (R157, R166, R170) -/

/-- A lane that is driven again: WAITING, its applied value absent, retry count 0 (R157, R166). -/
def Drive.fresh : Drive := ⟨.waiting, none, 0⟩

/-- BOARD RECOVER of a faulted board (R166). -/
def recoverBoard (b : BoardNo) (p : Part) : Part :=
  let released := recompute ((p.setBoard b .unknown).modifyBoardLanes b Lane.boardRelease)
  arbiterTest (released.modifyBoardDrives b fun _ => Drive.fresh)

/-- MACHINE RESET at a drive record: a driven SETTLED or WAITING lane waits, its applied value kept (R170). -/
def Drive.machineReset (d : Drive) (driven : Bool) : Drive :=
  match d.state with
  | .inFlight _ => d
  | _ => if driven then { d with state := .waiting, retry := 0 } else d

/-- MACHINE RESET at a board (R170). -/
def BoardState.machineReset (s : BoardState) : BoardState :=
  match s with
  | .faulted k => .faulted k
  | _ => .unknown

/-- MACHINE RESET at the master: a selection is dropped, a session is drained (R170; log entry 37). -/
def resetMaster (p : Part) : Part :=
  match p.bus.master with
  | .idle => p
  | .releasing => p
  | .selecting _ => releaseBus p
  | .opened b => drainTest (p.setBus { p.bus with master := .draining b, resetDrain := true })
  | .draining b => drainTest (p.setBus { p.bus with master := .draining b, resetDrain := true })

/-- MACHINE RESET at the bus (R170). -/
def resetBus (p : Part) : Part :=
  resetMaster (p.setBus { p.bus with
    boards := mapAll BoardState.machineReset p.bus.boards
    drives := Vector.ofFn fun n : LaneNo => (p.drive n).machineReset (p.lane n).driven })

end Sys2Proof.Machine
end

