-- ==== Sys2Proof/Machine/EntryEye.lean ====
section
/-! DEFINITION. The entry eye unit (03_entry_eye_and_edge_capture.md): transitions, the three distance tests, seating,
the discard instruction and forced edges. -/

namespace Sys2Proof.Machine

/-- The part with another eye state. -/
def Part.setEyeState (p : Part) (e : EyeState) : Part := p.setEye { p.eye with state := e }

/-- The eye is seated: CLEAR over a light eye, DISCARD without a light start over a dark one (R46, R59, R60). -/
def seatEye (p : Part) : Part := p.setEyeState (if p.eyeDark then .discard none else .clear)

/-- The eye state after a transition to dark (`true`) or to light at a position (R49 to R53). -/
def EyeState.transition (e : EyeState) (dark : Bool) (position : Pos) : EyeState :=
  match e with
  | .clear => if dark then .leadPending position else .clear
  | .leadPending c => if dark then .leadPending c else .clear
  | .body => if dark then .body else .tailPending position
  | .tailPending t => if dark then .body else .tailPending t
  | .discard _ => if dark then .discard none else .discard (some position)

/-- One eye transition: the input changes its level (R46). -/
def takeEyeTransition (p : Part) : Part :=
  let q := p.setEye { p.eye with inputHigh := !p.eye.inputHigh }
  q.setEyeState (q.eye.state.transition q.eyeDark q.feed.position)

/-- A distance from a captured position has been travelled (R48). -/
def Part.travelled (p : Part) (capture : Pos) (distance : Nat) : Bool := p.atOrPast (ahead capture distance)

/-- LEAD_PENDING with the lead debounce travelled: the lead is confirmed at its capture (R50). -/
def leadDebounceTest (p : Part) : Part :=
  match p.eye.state with
  | .leadPending c =>
    if p.travelled c p.settings.leadDebounce then confirmLead c (p.setEyeState .body) else p
  | _ => p

/-- TAIL_PENDING with the gap filter travelled: the trail is confirmed at the tentative trail (R52). -/
def gapFilterTest (p : Part) : Part :=
  match p.eye.state with
  | .tailPending t =>
    if p.travelled t p.settings.gapFilter then confirmTrail t (p.setEyeState .clear) else p
  | _ => p

/-- DISCARD with the gap filter travelled in light: the eye goes to CLEAR and nothing is told (R53). -/
def discardTest (p : Part) : Part :=
  match p.eye.state with
  | .discard (some l) => if p.travelled l p.settings.gapFilter then p.setEyeState .clear else p
  | _ => p

/-- The distance test the eye state calls for (R48). -/
def eyeTest (p : Part) : Part :=
  match p.eye.state with
  | .clear => p
  | .leadPending _ => leadDebounceTest p
  | .body => p
  | .tailPending _ => gapFilterTest p
  | .discard _ => discardTest p

/-- The discard instruction of the hide table; light already travelled counts, so a filter already travelled ends in
CLEAR in the same step (R54). In BODY the light start is absent even over a light eye, where R47 has it present: the
model's choice (log entry 42). -/
def discardInstruction (p : Part) : Part :=
  match p.eye.state with
  | .body => p.setEyeState (.discard none)
  | .tailPending t => discardTest (p.setEyeState (.discard (some t)))
  | _ => p

/-- The unbound edge is discarded by the host's clear of its cause; without a trail the eye is sent to DISCARD (R30,
R54). -/
def discardUnbound (p : Part) : Part :=
  match p.unbound with
  | none => p
  | some ⟨_, none⟩ => discardInstruction (p.setUnbound none)
  | some ⟨_, some _⟩ => p.setUnbound none

end Sys2Proof.Machine
end

