-- ==== Sys2Proof/Machine/Frames.lean ====
section
/-! DEFINITION. The frames of the host port (11_command_port_and_attention.md): taking a command frame, FETCH, malformed
and disregarded frames, and the step in which frames begin to be accepted. A frame is one step, taken at its
chip-select rise; its status byte is that of the state before the step (R185, R187; log entry 4). -/

namespace Sys2Proof.Machine

/-- What a command answers: a result code and a reply (R187). -/
structure Answer where
  code : ResultCode
  reply : List Byte
  deriving DecidableEq, Repr

/-- Result OK with a reply. -/
def answerOk (reply : List Byte) : Answer := ⟨.ok, reply⟩

/-- A refusal: its code and no reply (R187). -/
def refusal (code : ResultCode) : Answer := ⟨code, []⟩

/-- The bytes shifted out in a frame (R185; log entry 5). -/
def Part.shift (p : Part) (bytes : List Byte) : Part := p.setPort { p.port with shiftedOut := bytes }

/-- The result slot takes a result (R187). -/
def Part.store (p : Part) (header : Byte) (a : Answer) : Part :=
  p.setPort { p.port with slot := ⟨header, a.code, a.reply⟩ }

/-- A frame that begins before frames are accepted is disregarded, and its status byte reads as zero (R185, R199). -/
def earlyFrame (p : Part) : Part := p.shift [0]

/-- The step ends with the answer in the slot; what was shifted out is the status byte of the state before and zeros
during the operand bytes (R185, R187). -/
def answerFrame (header : Byte) (status : Byte) (a : Answer) (p : Part) : Part :=
  (p.store header a).shift (status :: List.replicate ((operandLength header).getD 0) 0)

/-- A command frame is taken: the command's effects, with everything its rule hands to other blocks, and its result
(R185 to R187). -/
def command (header : Byte) (body : Part → Part × Answer) (p : Part) : Part :=
  match p.port.acceptIn with
  | some _ => earlyFrame p
  | none => answerFrame header p.statusByte (body p).2 (body p).1

/-- The bytes a FETCH shifts out after its status byte: the result code, the header of the command that produced it,
the reply length, the reply, and zeros (R188, R198). -/
def ResultSlot.fetchBytes (r : ResultSlot) (clocked : Nat) : List Byte :=
  let copy := r.code.byte :: r.header :: BitVec.ofNat 8 r.reply.length :: r.reply
  copy.take clocked ++ List.replicate (clocked - copy.length) 0

/-- FETCH returns the stored result and does not change it (R188). -/
def fetch (clocked : Nat) (p : Part) : Part :=
  match p.port.acceptIn with
  | some _ => earlyFrame p
  | none => p.shift (p.statusByte :: p.port.slot.fetchBytes clocked)

/-- LINK FETCH (R188). -/
def execLinkFetch (clocked : Nat) (s : State) : Host.Outcome State Fault Refusal := .next (s.run (fetch clocked))

/-- A malformed frame takes no command and stores MALFORMED with the header as received (R186; log entry 34). -/
def malformed (header : Byte) (p : Part) : Part :=
  match p.port.acceptIn with
  | some _ => earlyFrame p
  | none => (p.store header (refusal .malformed)).shift [p.statusByte]

/-- MALFORMED_FRAME (R186). -/
def execMalformedFrame (header : Byte) (_clocks : Nat) (s : State) : Host.Outcome State Fault Refusal :=
  .next (s.run (malformed header))

/-- The status byte that a frame carries: zero before frames are accepted (R185, R189, R199). -/
def Part.carriedStatus (p : Part) : Byte :=
  match p.port.acceptIn with
  | some _ => 0
  | none => p.statusByte

/-- The first bits of a byte as it is shifted out, most significant bit first (R185). -/
def leadingBits (clocks : Nat) (x : Byte) : List Bool := (List.range clocks).map x.getMsbD

/-- A frame of fewer than eight clocks shifts out the first bits of the status byte and no whole byte (R185, R189; log
entry 5). -/
def shortFrame (clocks : Nat) (p : Part) : Part :=
  p.setPort { p.port with shiftedOut := [], shortBits := leadingBits clocks p.carriedStatus }

/-- A disregarded frame takes no command and leaves the slot; one of fewer than eight clocks is too short for a command,
and a longer one began before frames are accepted (R185, R186; log entry 22). -/
def disregard (clocks : Nat) (p : Part) : Part := if clocks < 8 then shortFrame clocks p else earlyFrame p

/-- FRAME_DISREGARDED (R185, R186). -/
def execFrameDisregarded (clocks : Nat) (s : State) : Host.Outcome State Fault Refusal :=
  .next (s.run (disregard clocks))

/-- Frames are accepted from here on (R185). -/
def acceptFrames (p : Part) : Part := p.setPort { p.port with acceptIn := none }

/-- FRAMES_ACCEPTED (R185, R196). -/
def execFramesAccepted (s : State) : Host.Outcome State Fault Refusal := .next (s.run acceptFrames)

end Sys2Proof.Machine
end

