-- ==== Sys2Proof/Machine/ArticleCommands.lean ====
section
/-! DEFINITION. The ARTICLE commands (01_split_plans.md, R6 to R14). -/

namespace Sys2Proof.Machine

/-- The records with the written one's mark as requested: a mark requested leaves every other record (R5, R9). -/
def markedTable (mark : Bool) (table : List Plan) : List Plan := if mark then unmarkAll table else table

/-- A record as ARTICLE WRITE creates it (R7). -/
def newPlan (code : Nat) (fields : PlanFields) (mark : Bool) : Plan := ⟨code, fields, .active, mark, 0, 0, 0⟩

/-- A new record joins the table (R7). -/
def createPlan (a : Plan) (p : Part) : Part := p.setArticles (insertPlan a (markedTable a.mark p.articles))

/-- A record's plan fields and mark are replaced; state, pins and counters are kept (R8). -/
def replacePlan (code : Nat) (fields : PlanFields) (mark : Bool) (p : Part) : Part :=
  (p.setArticles (markedTable mark p.articles)).modifyPlan code fun a => { a with fields := fields, mark := mark }

/-- The record of a code as a reply; nothing where it is absent. -/
def Part.planReply (p : Part) (code : Nat) : List Byte :=
  match p.plan? code with
  | some a => a.bytes
  | none => []

/-- ARTICLE WRITE, decided in the order of R6. -/
def articleWrite (code : Half) (plan : PlanOperands) (mark : Byte) (p : Part) : Part × Answer :=
  if code.toNat = 0 ∨ code.toNat = 65535 then (p, refusal .range)
  else
    match planOperand plan, yesNo mark with
    | some fields, some marked =>
      match p.plan? code.toNat with
      | some a =>
        match a.state with
        | .retiring => (p, refusal .retiring)
        | .active =>
          let q := replacePlan code.toNat fields marked p
          (q, answerOk (q.planReply code.toNat ++ u8 0))
      | none =>
        if Config.articleCapacity ≤ p.articles.length then (p, refusal .full)
        else
          let q := createPlan (newPlan code.toNat fields marked) p
          (q, answerOk (q.planReply code.toNat ++ u8 1))
    | _, _ => (p, refusal .range)

/-- ARTICLE WRITE (R6). -/
def execArticleWrite (code : Half) (plan : PlanOperands) (mark : Byte) (s : State) :
    Host.Outcome State Fault Refusal :=
  .next (s.run (command Header.articleWrite (articleWrite code plan mark)))

/-- A record as a read returns it, or NOT_FOUND (R10, R11). -/
def planAnswer (a : Option Plan) : Answer :=
  match a with
  | some a => answerOk a.bytes
  | none => refusal .notFound

/-- ARTICLE READ: code 0 stands for the default article (R10). -/
def articleRead (code : Half) (p : Part) : Part × Answer :=
  (p, planAnswer (if code.toNat = 0 then p.defaultPlan? else p.plan? code.toNat))

/-- ARTICLE READ (R10). -/
def execArticleRead (code : Half) (s : State) : Host.Outcome State Fault Refusal :=
  .next (s.run (command Header.articleRead (articleRead code)))

/-- ARTICLE FIND NEXT: the smallest code greater than the one given (R11). -/
def articleFindNext (code : Half) (p : Part) : Part × Answer :=
  (p, planAnswer (p.articles.find? fun a => decide (code.toNat < a.code)))

/-- ARTICLE FIND NEXT (R11). -/
def execArticleFindNext (code : Half) (s : State) : Host.Outcome State Fault Refusal :=
  .next (s.run (command Header.articleFindNext (articleFindNext code)))

/-- The reply of ARTICLE RETIRE: the code and the pin count (R12). -/
def retireReply (code pins : Nat) : List Byte := u16 code ++ u8 pins

/-- A pinned record becomes RETIRING and loses the mark (R14). -/
def Plan.retire (a : Plan) : Plan := { a with state := .retiring, mark := false }

/-- ARTICLE RETIRE, decided in the order of R12. -/
def articleRetire (code : Half) (p : Part) : Part × Answer :=
  if code.toNat = 0 ∨ code.toNat = 65535 then (p, refusal .range)
  else
    match p.plan? code.toNat with
    | none => (p, refusal .notFound)
    | some a =>
      match a.state with
      | .retiring => (p, ⟨.pending, retireReply a.code a.pins⟩)
      | .active =>
        if a.pins = 0 then
          (p.setArticles (p.articles.filter fun b => !(b.code == code.toNat)), answerOk (retireReply a.code 0))
        else (p.modifyPlan code.toNat Plan.retire, ⟨.pending, retireReply a.code a.pins⟩)

/-- ARTICLE RETIRE (R12). -/
def execArticleRetire (code : Half) (s : State) : Host.Outcome State Fault Refusal :=
  .next (s.run (command Header.articleRetire (articleRetire code)))

end Sys2Proof.Machine
end

