-- ==== Sys2Proof/Machine/BusCommands.lean ====
section
/-! DEFINITION. The BOARD commands and the events of the drive bus (09_lane_drive_bus.md). -/

namespace Sys2Proof.Machine

/-- A command on one board: a board number outside 0 to 3 is refused RANGE (R166, R167). -/
def onBoard (board : Byte) (body : BoardNo → Part → Part × Answer) (p : Part) : Part × Answer :=
  match boardOperand board with
  | some b => body b p
  | none => (p, refusal .range)

/-- BOARD RECOVER (R166). -/
def boardRecover (b : BoardNo) (p : Part) : Part × Answer :=
  if (p.bus.boards[b.val]).isFaulted then (recoverBoard b p, answerOk []) else (p, refusal .state)

/-- BOARD RECOVER (R166). -/
def execBoardRecover (board : Byte) (s : State) : Host.Outcome State Fault Refusal :=
  .next (s.run (command Header.boardRecover (onBoard board boardRecover)))

/-- BOARD READ (R167). -/
def readBoard (b : BoardNo) (p : Part) : Part × Answer := (p, answerOk (p.boardBytes b))

/-- BOARD READ (R167). -/
def execBoardRead (board : Byte) (s : State) : Host.Outcome State Fault Refusal :=
  .next (s.run (command Header.boardRead (onBoard board readBoard)))

/-- ARBITER_TEST (R158). -/
def execArbiterTest (s : State) : Host.Outcome State Fault Refusal := .next (s.run arbiterTest)

/-- SELECT_ANSWER (R159). -/
def execSelectAnswer (answer : BoardAnswer) (s : State) : Host.Outcome State Fault Refusal :=
  .next (s.run (takeSelectAnswer answer))

/-- SELECT_TIMER_EXPIRY (R159). -/
def execSelectTimerExpiry (s : State) : Host.Outcome State Fault Refusal := .next (s.run expireSelectTimer)

/-- BUS_SLOT (R160). -/
def execBusSlot (received : Option Echo) (s : State) : Host.Outcome State Fault Refusal :=
  .next (s.run (takeSlot received))

/-- ECHO_ARRIVAL (R161). -/
def execEchoArrival (echo : Echo) (s : State) : Host.Outcome State Fault Refusal :=
  .next (s.run (takeEchoArrival echo))

/-- RELEASE_INTERVAL_EXPIRY (R164). -/
def execReleaseIntervalExpiry (s : State) : Host.Outcome State Fault Refusal := .next (s.run expireRelease)

end Sys2Proof.Machine
end

