-- ==== Sys2Proof/Machine/FeedCommands.lean ====
section
/-! DEFINITION. The FEED commands and the commands of the entry eye (04_feed_position_run_states_and_holds.md, R65 to
R76; 03_entry_eye_and_edge_capture.md, R55 to R57). -/

namespace Sys2Proof.Machine

/-- A FEED command that is taken, with the run state and the hold cause set after it as its reply (R65). -/
def feedTaken (p : Part) : Part × Answer := (p, answerOk p.feedReply)

/-- FEED RUN: refused STATE while the STOP line is asserted (R65). -/
def feedRun (p : Part) : Part × Answer :=
  if p.feed.stopLine then (p, refusal .state) else feedTaken (p.setRunState .running)

/-- FEED RUN (R65). -/
def execFeedRun (s : State) : Host.Outcome State Fault Refusal := .next (s.run (command Header.feedRun feedRun))

/-- FEED STOP (R66). -/
def feedStop (p : Part) : Part × Answer := feedTaken (p.setRunState .stopped)

/-- FEED STOP (R66). -/
def execFeedStop (s : State) : Host.Outcome State Fault Refusal := .next (s.run (command Header.feedStop feedStop))

/-- FEED STOP AT CLEAR (R67). -/
def feedStopAtClear (p : Part) : Part × Answer :=
  feedTaken (p.setRunState (p.feed.runState.stopAtClear p.anyInPassage))

/-- FEED STOP AT CLEAR (R67). -/
def execFeedStopAtClear (s : State) : Host.Outcome State Fault Refusal :=
  .next (s.run (command Header.feedStopAtClear feedStopAtClear))

/-- FEED STOP BEFORE NEXT on a run state (R68). -/
def RunState.stopBeforeNext (r : RunState) : RunState :=
  match r with
  | .stopped => .stopped
  | .running => .stoppingBeforeNext
  | .stoppingAtClear => .stoppingBeforeNext
  | .stoppingBeforeNext => .stoppingBeforeNext

/-- FEED STOP BEFORE NEXT (R68). -/
def feedStopBeforeNext (p : Part) : Part × Answer := feedTaken (p.setRunState p.feed.runState.stopBeforeNext)

/-- FEED STOP BEFORE NEXT (R68). -/
def execFeedStopBeforeNext (s : State) : Host.Outcome State Fault Refusal :=
  .next (s.run (command Header.feedStopBeforeNext feedStopBeforeNext))

/-- FEED HOLD (R70). -/
def feedHold (p : Part) : Part × Answer := feedTaken (p.putHold .hostHold true)

/-- FEED HOLD (R70). -/
def execFeedHold (s : State) : Host.Outcome State Fault Refusal := .next (s.run (command Header.feedHold feedHold))

/-- The set names a cause the host may not clear now (R71, case 2). -/
def HoldSet.notClearable (named : HoldSet) (stopLine : Bool) : Bool :=
  named.stopLine || named.gapNotReady || named.gapFault || named.tuning || (named.stopRecovery && stopLine)

/-- The named causes leave the set; a removed UNBOUND_EDGE is handed to the hide table, and a removed HIDE_ABORTED or
STOP_RECOVERY to the gap axis and lane tuning (R71, R72). -/
def clearHolds (named : HoldSet) (p : Part) : Part :=
  let cleared := p.setHolds (p.feed.holds.minus named)
  let unbound := if named.unboundEdge && p.feed.holds.unboundEdge then discardUnbound cleared else cleared
  if (named.hideAborted && p.feed.holds.hideAborted) || (named.stopRecovery && p.feed.holds.stopRecovery) then
    formationTest (gapHandOn unbound)
  else unbound

/-- FEED CLEAR HOLD, decided in the order of R71. -/
def feedClearHold (causes : Half) (p : Part) : Part × Answer :=
  match holdSetOperand causes with
  | none => (p, refusal .range)
  | some named =>
    if named.notClearable p.feed.stopLine then (p, refusal .state) else feedTaken (clearHolds named p)

/-- FEED CLEAR HOLD (R71). -/
def execFeedClearHold (causes : Half) (s : State) : Host.Outcome State Fault Refusal :=
  .next (s.run (thenArbiter (command Header.feedClearHold (feedClearHold causes))))

/-- FEED READ (R76). -/
def feedRead (p : Part) : Part × Answer := (p, answerOk p.feedBytes)

/-- FEED READ (R76). -/
def execFeedRead (s : State) : Host.Outcome State Fault Refusal := .next (s.run (command Header.feedRead feedRead))

/-- The reply of EYE FORCE: the eye state after the command, and the position given (R55, R56). -/
def eyeForceReply (after : EyeState) (position : Pos) : List Byte := u8 after.code ++ bytes4 position

/-- EYE FORCE with the operand LEAD: taken in CLEAR (R55). -/
def forceLead (p : Part) : Part × Answer :=
  match p.eye.state with
  | .clear =>
    (confirmLead p.feed.position (p.setEyeState .body), answerOk (eyeForceReply .body p.feed.position))
  | _ => (p, refusal .state)

/-- EYE FORCE with the operand TAIL: taken in BODY and TAIL_PENDING (R56). -/
def forceTail (p : Part) : Part × Answer :=
  match p.eye.state with
  | .body => (confirmTrail p.feed.position (p.setEyeState .clear), answerOk (eyeForceReply .clear p.feed.position))
  | .tailPending _ =>
    (confirmTrail p.feed.position (p.setEyeState .clear), answerOk (eyeForceReply .clear p.feed.position))
  | _ => (p, refusal .state)

/-- EYE FORCE by its operand byte: 1 LEAD, 2 TAIL, any other refused RANGE before any other test (R197). -/
def eyeForce (operand : Byte) (p : Part) : Part × Answer :=
  match operand.toNat with
  | 1 => forceLead p
  | 2 => forceTail p
  | _ => (p, refusal .range)

/-- EYE FORCE with the operand LEAD (R55). -/
def execEyeForceLead (operand : Byte) (s : State) : Host.Outcome State Fault Refusal :=
  .next (s.run (thenArbiter (command Header.eyeForce (eyeForce operand))))

/-- EYE FORCE with the operand TAIL (R56). -/
def execEyeForceTail (operand : Byte) (s : State) : Host.Outcome State Fault Refusal :=
  .next (s.run (thenArbiter (command Header.eyeForce (eyeForce operand))))

/-- EYE READ (R57). -/
def eyeRead (p : Part) : Part × Answer := (p, answerOk p.eyeBytes)

/-- EYE READ (R57). -/
def execEyeRead (s : State) : Host.Outcome State Fault Refusal := .next (s.run (command Header.eyeRead eyeRead))

end Sys2Proof.Machine
end

