-- ==== Sys2Proof/Machine/FeedEvents.lean ====
section
/-! DEFINITION. The machine events of the feed, the eye and the hide marks: encoder steps, the STOP line, eye
transitions, distances travelled and mark crossings (02, 03, 04). -/

namespace Sys2Proof.Machine

/-! ## The encoder pair (R61) -/

/-- The levels one step forward: channel A leads channel B (log entry 41). -/
def Encoder.forward (e : Encoder) : Encoder := ⟨!e.b, e.a⟩

/-- The levels one step backward. -/
def Encoder.backward (e : Encoder) : Encoder := ⟨e.b, !e.a⟩

/-- The feed unit at a forward step: the position advances by 1, wrapping, and the backward run is 0 (R61, R63). -/
def advance (p : Part) : Part :=
  p.setFeed { p.feed with position := p.feed.position + 1, backwardRun := 0 }

/-- A forward step, handed to the eye, the hide table and lane sensing (R62; log entry 7). -/
def forwardStep (p : Part) : Part := forwardLanes (testAllMarks (eyeTest (advance p)))

/-- A backward step; the twenty-first of a run adds REVERSE and returns the run to 0 (R63). -/
def backwardStep (p : Part) : Part :=
  if p.feed.backwardRun + 1 = Config.reverseSteps then
    (p.setFeed { p.feed with backwardRun := 0 }).putHold .reverse true
  else p.setFeed { p.feed with backwardRun := p.feed.backwardRun + 1 }

/-- The encoder pair takes new levels, decoded as quadrature: the change of one channel is one step, forward or
backward; a change of both at once, or of neither, is none (R61). -/
def takeEncoder (levels : Encoder) (p : Part) : Part :=
  if levels = p.encoder.forward then forwardStep (p.setEncoder levels)
  else if levels = p.encoder.backward then backwardStep (p.setEncoder levels)
  else p.setEncoder levels

/-- FORWARD_STEP: the change of one channel that is a step forward (R61). -/
def execForwardStep (s : State) : Host.Outcome State Fault Refusal :=
  .next (s.run (thenArbiter fun p => takeEncoder p.encoder.forward p))

/-- BACKWARD_STEP: the change of one channel that is a step backward (R61, R63). -/
def execBackwardStep (s : State) : Host.Outcome State Fault Refusal :=
  .next (s.run fun p => takeEncoder p.encoder.backward p)

/-! ## The STOP line -/

/-- The feed unit's part of a STOP assertion: the level, STOPPED, STOP_LINE and STOP_RECOVERY (R75). -/
def stopFeed (p : Part) : Part :=
  p.setFeed { p.feed with
    stopLine := true
    runState := .stopped
    holds := (p.feed.holds.put .stopLine true).put .stopRecovery true }

/-- A STOP assertion, block by block: feed, attention, hide table, eye, gap axis, lane tuning, pressure unit, and the
readiness test (R43, R59, R75, R93, R133, R148, R190; log entry 28). Lanes are recomputed once, with the level taken, and
no value of the aborts alone is handed on, as R148 is read (log entry 45). -/
def assertStop (p : Part) : Part :=
  let blocks := abortBatch (stopGap (seatEye (stopHides ((stopFeed p).attend .stop))))
  notReadyTest (takeStopLevel true blocks)

/-- The STOP line becomes asserted; an assertion of a line that is asserted is no change (R75; log entry 26). -/
def takeStopAssertion (p : Part) : Part := if p.feed.stopLine then p else assertStop p

/-- STOP_ASSERTION (R75). -/
def execStopAssertion (s : State) : Host.Outcome State Fault Refusal := .next (s.run (thenArbiter takeStopAssertion))

/-- A STOP release: STOP_LINE is removed and the pressure unit takes the level; STOP_RECOVERY stays (R75, R148). -/
def releaseStop (p : Part) : Part :=
  takeStopLevel false
    (p.setFeed { p.feed with stopLine := false, holds := p.feed.holds.put .stopLine false })

/-- The STOP line becomes released; a release of a line that is released is no change (R75; log entry 26). -/
def takeStopRelease (p : Part) : Part := if p.feed.stopLine then releaseStop p else p

/-- STOP_RELEASE (R75). -/
def execStopRelease (s : State) : Host.Outcome State Fault Refusal := .next (s.run (thenArbiter takeStopRelease))

/-- EYE_TRANSITION (R46). -/
def execEyeTransition (s : State) : Host.Outcome State Fault Refusal := .next (s.run takeEyeTransition)

/-- LEAD_DEBOUNCE_TRAVELLED (R50; log entry 1). -/
def execLeadDebounceTravelled (s : State) : Host.Outcome State Fault Refusal :=
  .next (s.run (thenArbiter leadDebounceTest))

/-- GAP_FILTER_TRAVELLED (R52; log entry 1). -/
def execGapFilterTravelled (s : State) : Host.Outcome State Fault Refusal :=
  .next (s.run (thenArbiter gapFilterTest))

/-- DISCARD_LIGHT_TRAVELLED (R53; log entry 1). -/
def execDiscardLightTravelled (s : State) : Host.Outcome State Fault Refusal := .next (s.run discardTest)

/-- APPROACH_POINT_CROSSING (R32; log entry 1). -/
def execApproachPointCrossing (ticket : Half) (s : State) : Host.Outcome State Fault Refusal :=
  .next (s.run (testApproach ticket.toNat))

/-- KNIFE_LINE_CROSSING (R33; log entry 1). -/
def execKnifeLineCrossing (ticket : Half) (s : State) : Host.Outcome State Fault Refusal :=
  .next (s.run (thenArbiter (testKnife ticket.toNat)))

/-- TRAIL_MARK_CROSSING (R34; log entry 1). -/
def execTrailMarkCrossing (ticket : Half) (s : State) : Host.Outcome State Fault Refusal :=
  .next (s.run (thenArbiter (testTrail ticket.toNat)))

/-- MAXIMUM_LENGTH_CROSSING (R35; log entry 1). -/
def execMaximumLengthCrossing (ticket : Half) (s : State) : Host.Outcome State Fault Refusal :=
  .next (s.run (testMaximum ticket.toNat))

end Sys2Proof.Machine
end

