-- ==== Sys2Proof/Machine/GapCommands.lean ====
section
/-! DEFINITION. The GAP commands and the events of the gap axis (05_knife_gap_axis.md). -/

namespace Sys2Proof.Machine

/-- GAP SET (R82). -/
def gapSet (gap : Half) (p : Part) : Part × Answer :=
  if !inRange 50 800 gap.toNat then (p, refusal .range)
  else if p.oldestEntering?.isSome then (p, refusal .busy)
  else
    (notReadyTest (startTest
        (p.setGap { p.gap with staged := some ⟨gap.toNat, p.settings.defaultGapTolerance⟩ })), answerOk [])

/-- GAP SET (R82). -/
def execGapSet (gap : Half) (s : State) : Host.Outcome State Fault Refusal :=
  .next (s.run (command Header.gapSet (gapSet gap)))

/-- GAP APPLY, decided in the order of R84. -/
def gapApply (p : Part) : Part × Answer :=
  match p.settings.gapMethod with
  | .atClear => (p, refusal .state)
  | .host =>
    match p.gap.staged with
    | none => (p, refusal .state)
    | some g =>
      match p.gap.state with
      | .fault => (p, refusal .state)
      | .moving => (p, refusal .busy)
      | _ =>
        if p.knifeOccupied then (p.setGap { p.gap with applyPending := true }, ⟨.pending, []⟩)
        else (startMove g p, answerOk [])

/-- GAP APPLY (R84). -/
def execGapApply (s : State) : Host.Outcome State Fault Refusal := .next (s.run (command Header.gapApply gapApply))

/-- GAP RECOVER, decided in the order of R88: the kept target's move restarts and GAP_FAULT is removed. -/
def gapRecover (p : Part) : Part × Answer :=
  match p.gap.state, p.gap.target with
  | .fault, some g =>
    if p.knifeOccupied then (p, refusal .busy) else ((startMove g p).putHold .gapFault false, answerOk [])
  | _, _ => (p, refusal .state)

/-- GAP RECOVER (R88). -/
def execGapRecover (s : State) : Host.Outcome State Fault Refusal :=
  .next (s.run (command Header.gapRecover gapRecover))

/-- GAP READ (R94). -/
def gapRead (p : Part) : Part × Answer := (p, answerOk p.gapBytes)

/-- GAP READ (R94). -/
def execGapRead (s : State) : Host.Outcome State Fault Refusal := .next (s.run (command Header.gapRead gapRead))

/-- GAUGE_PAIR: a pair of gauge readings arrives (R80). -/
def execGaugePair (left right : Half) (s : State) : Host.Outcome State Fault Refusal :=
  .next (s.run (takeGaugePair left.toNat right.toNat))

/-- The pair that completes the move under way; any other pair is no move completion (R86; log entry 27). -/
def completeMoveWith (left right : Nat) (p : Part) : Part :=
  if p.completesMove left right then takeGaugePair left right p else p

/-- MOVE_COMPLETION (R86). -/
def execMoveCompletion (left right : Half) (s : State) : Host.Outcome State Fault Refusal :=
  .next (s.run (completeMoveWith left.toNat right.toNat))

/-- MOVE_TIMER_EXPIRY (R87). -/
def execMoveTimerExpiry (s : State) : Host.Outcome State Fault Refusal := .next (s.run expireMoveTimer)

end Sys2Proof.Machine
end

