-- ==== Sys2Proof/Machine/HideCommands.lean ====
section
/-! DEFINITION. The HIDE commands (02_the_hide_table.md, R25 to R27 and R39 to R42). -/

namespace Sys2Proof.Machine

/-- A waiting unbound edge is bound to a record just created (R25, R30). -/
def bindUnbound (ticket : Nat) (p : Part) : Part :=
  match p.unbound with
  | none => p
  | some edge => bindHide ticket edge.lead edge.trail ((p.setUnbound none).putHold .unboundEdge false)

/-- The reply of HIDE ANNOUNCE: ticket, real code, and the state ANNOUNCED or ENTERING (R25; log entry 38). -/
def announceReply (ticket article : Nat) (bound : Bool) : List Byte :=
  u16 ticket ++ u16 article ++ u8 (if bound then HideState.entering.code else HideState.announced.code)

/-- HIDE ANNOUNCE, decided in the order of R25. -/
def hideAnnounce (tag : Word) (code : Half) (p : Part) : Part × Answer :=
  if code.toNat = 65535 then (p, refusal .range)
  else if Config.hideCapacity ≤ p.hides.length then (p, refusal .full)
  else
    match p.claim code.toNat with
    | .error refused => (p, refusal refused)
    | .ok article =>
      (bindUnbound p.ticket (createHide tag article false p),
        answerOk (announceReply p.ticket article p.unbound.isSome))

/-- HIDE ANNOUNCE (R25). -/
def execHideAnnounce (tag : Word) (code : Half) (s : State) : Host.Outcome State Fault Refusal :=
  .next (s.run (thenArbiter (command Header.hideAnnounce (hideAnnounce tag code))))

/-- HIDE AMEND, decided in the order of R26: the claim first, then the release (R16). -/
def hideAmend (ticket : Half) (tag : Word) (code : Half) (p : Part) : Part × Answer :=
  if code.toNat = 65535 then (p, refusal .range)
  else
    match p.hide? ticket.toNat with
    | none => (p, refusal .notFound)
    | some h =>
      if h.state = .announced then
        match p.claim code.toNat with
        | .error refused => (p, refusal refused)
        | .ok article =>
          ((releasePin h.article (p.modifyPlan article Plan.pin)).modifyHide ticket.toNat
              fun x => { x with tag := tag, article := article },
            answerOk (u16 ticket.toNat ++ u16 article))
      else (p, refusal .state)

/-- HIDE AMEND (R26). -/
def execHideAmend (ticket : Half) (tag : Word) (code : Half) (s : State) : Host.Outcome State Fault Refusal :=
  .next (s.run (command Header.hideAmend (hideAmend ticket tag code)))

/-- A record as a read returns it, or NOT_FOUND (R39, R40). -/
def hideAnswer (h : Option Hide) : Answer :=
  match h with
  | some h => answerOk h.bytes
  | none => refusal .notFound

/-- HIDE READ (R39). -/
def hideRead (ticket : Half) (p : Part) : Part × Answer := (p, hideAnswer (p.hide? ticket.toNat))

/-- HIDE READ (R39). -/
def execHideRead (ticket : Half) (s : State) : Host.Outcome State Fault Refusal :=
  .next (s.run (command Header.hideRead (hideRead ticket)))

/-- HIDE FIND: the oldest record in table order with the tag (R40). -/
def hideFind (tag : Word) (p : Part) : Part × Answer := (p, hideAnswer (p.hides.find? fun h => h.tag == tag))

/-- HIDE FIND (R40). -/
def execHideFind (tag : Word) (s : State) : Host.Outcome State Fault Refusal :=
  .next (s.run (command Header.hideFind (hideFind tag)))

/-- HIDE LIST (R41). -/
def hideList (p : Part) : Part × Answer := (p, answerOk (hideListBytes p.hides))

/-- HIDE LIST (R41). -/
def execHideList (s : State) : Host.Outcome State Fault Refusal :=
  .next (s.run (command Header.hideList hideList))

/-- HIDE ABORT (R42). -/
def hideAbort (ticket : Half) (p : Part) : Part × Answer :=
  match p.hide? ticket.toNat with
  | none => (p, refusal .notFound)
  | some h =>
    match h.state with
    | .announced => (abortAnnounced h p, answerOk [])
    | .entering => (abortInPassage h p, answerOk [])
    | .splitting => (abortInPassage h p, answerOk [])
    | .cleared => (p, refusal .state)
    | .aborted => (p, refusal .state)

/-- HIDE ABORT (R42). -/
def execHideAbort (ticket : Half) (s : State) : Host.Outcome State Fault Refusal :=
  .next (s.run (thenArbiter (command Header.hideAbort (hideAbort ticket))))

/-- A record leaves the table and its pin is released (R16, R27). -/
def removeHide (h : Hide) (p : Part) : Part :=
  releasePin h.article (p.setHides (p.hides.filter fun x => !(x.ticket == h.ticket)))

/-- HIDE RETIRE (R27). -/
def hideRetire (ticket : Half) (p : Part) : Part × Answer :=
  match p.hide? ticket.toNat with
  | none => (p, refusal .notFound)
  | some h =>
    if h.inPassage then (p, refusal .busy)
    else (removeHide h p, answerOk (u16 h.ticket ++ u8 h.state.code))

/-- HIDE RETIRE (R27). -/
def execHideRetire (ticket : Half) (s : State) : Host.Outcome State Fault Refusal :=
  .next (s.run (command Header.hideRetire (hideRetire ticket)))

end Sys2Proof.Machine
end

