-- ==== Sys2Proof/Machine/LaneCommands.lean ====
section
/-! DEFINITION. The LANE commands, a lane reading and a reseed (06_lane_sensing_and_contact.md; R149). -/

namespace Sys2Proof.Machine

/-- A command on one lane: a lane number outside 0 to 31 is refused RANGE before anything else (06, "Host
commands"). -/
def onLane (lane : Byte) (body : LaneNo → Part → Part × Answer) (p : Part) : Part × Answer :=
  match laneOperand lane with
  | some n => body n p
  | none => (p, refusal .range)

/-- A lane's record is replaced and every lane recomputed (R99, R144). -/
def changeLane (n : LaneNo) (l : Lane) (p : Part) : Part := recompute (p.setLane n l)

/-- LANE PARK of a lane that is not FAULTED and not TUNING; a PARKED lane stays as it is (R113). -/
def parkLane (n : LaneNo) (p : Part) : Part × Answer :=
  match (p.lane n).service with
  | .faulted _ => (p, refusal .state)
  | .parked => if (p.lane n).tune = .tuning then (p, refusal .busy) else (p, answerOk [])
  | .inService =>
    if (p.lane n).tune = .tuning then (p, refusal .busy)
    else (changeLane n { (p.lane n).dropContact with service := .parked, railCount := 0 } p, answerOk [])

/-- LANE PARK (R113). -/
def execLanePark (lane : Byte) (s : State) : Host.Outcome State Fault Refusal :=
  .next (s.run (thenArbiter (command Header.lanePark (onLane lane parkLane))))

/-- LANE UNPARK (R114). -/
def unparkLane (n : LaneNo) (p : Part) : Part × Answer :=
  match (p.lane n).service with
  | .parked => (changeLane n { (p.lane n).dropContact with service := .inService } p, answerOk [])
  | _ => (p, refusal .state)

/-- LANE UNPARK (R114). -/
def execLaneUnpark (lane : Byte) (s : State) : Host.Outcome State Fault Refusal :=
  .next (s.run (thenArbiter (command Header.laneUnpark (onLane lane unparkLane))))

/-- A lane recovered from a fault of its sensor or its valve: UNTUNED, calibration and reference kept (R115). -/
def Lane.recover (l : Lane) : Lane := { l.returnToService with tune := .untuned }

/-- LANE RECOVER; a lane recovered from FAULTED(DRIVE) is driven again (R115, R157). -/
def recoverLane (n : LaneNo) (p : Part) : Part × Answer :=
  match (p.lane n).service with
  | .faulted .sensor => (changeLane n (p.lane n).recover p, answerOk [])
  | .faulted .drive => ((changeLane n (p.lane n).recover p).setDrive n Drive.fresh, answerOk [])
  | .faulted .board => (p, refusal .state)
  | .parked => (p, refusal .state)
  | .inService => (p, refusal .state)

/-- LANE RECOVER (R115). -/
def execLaneRecover (lane : Byte) (s : State) : Host.Outcome State Fault Refusal :=
  .next (s.run (thenArbiter (command Header.laneRecover (onLane lane recoverLane))))

/-- LANE READ (R116). -/
def readLane (n : LaneNo) (p : Part) : Part × Answer := (p, answerOk (p.laneBytes n))

/-- LANE READ (R116). -/
def execLaneRead (lane : Byte) (s : State) : Host.Outcome State Fault Refusal :=
  .next (s.run (command Header.laneRead (onLane lane readLane)))

/-- A taken write with a calibration: TUNED, EMPTY, seed pending (R117). -/
def Lane.calibrate (l : Lane) (settings : LaneSettings) (c : Calibration) : Lane :=
  { l.dropContact with settings := settings, calibration := c, tune := .tuned, seedPending := true }

/-- A taken LANE WRITE: with a calibration the holdoff is disarmed and every lane recomputed, without one a contact
limit already covered reseeds the lane (R117, R136, R144). That a limit written over 0 does so too is the model's choice
(log entry 50). -/
def writeLane (n : LaneNo) (settings : LaneSettings) (calibration : Option Calibration) (p : Part) : Part :=
  match calibration with
  | some c =>
    (changeLane n ((p.lane n).calibrate settings c) p).setLaneTuning n { p.laneTuning n with holdoff := none }
  | none => reseedTest n (p.setLane n { p.lane n with settings := settings })

/-- LANE WRITE, decided in the order of R117. -/
def laneWrite (settings : LaneSettingsOperands) (calibration : CalibrationOperands) (n : LaneNo) (p : Part) :
    Part × Answer :=
  match laneSettingsOperand settings, calibrationOperand calibration with
  | some t, some c =>
    if (p.lane n).tune = .tuning then (p, refusal .busy) else (writeLane n t c p, answerOk [])
  | _, _ => (p, refusal .range)

/-- LANE WRITE (R117). -/
def execLaneWrite (lane : Byte) (settings : LaneSettingsOperands) (calibration : CalibrationOperands) (s : State) :
    Host.Outcome State Fault Refusal :=
  .next (s.run (thenArbiter (command Header.laneWrite (onLane lane (laneWrite settings calibration)))))

/-- LANE PRESSURE (R149). -/
def readPressure (n : LaneNo) (p : Part) : Part × Answer := (p, answerOk (p.pressureBytes n))

/-- LANE PRESSURE (R149). -/
def execLanePressure (lane : Byte) (s : State) : Host.Outcome State Fault Refusal :=
  .next (s.run (command Header.lanePressure (onLane lane readPressure)))

/-- LANE_READING: a reading arrives (R101). -/
def execLaneReading (lane : LaneNo) (raw : Half) (s : State) : Host.Outcome State Fault Refusal :=
  .next (s.run (thenArbiter fun p => takeReading lane raw.toNat (startScan lane p)))

/-- LANE_RESEED: a lane in contact that has covered its contact limit reseeds (R111; log entry 1). -/
def execLaneReseed (lane : LaneNo) (s : State) : Host.Outcome State Fault Refusal :=
  .next (s.run (thenArbiter (reseedTest lane)))

end Sys2Proof.Machine
end

