-- ==== Sys2Proof/Machine/MachineCommands.lean ====
section
/-! DEFINITION. The MACHINE commands (11_command_port_and_attention.md, R191 to R195), and the resets with what each
block does at them (R21, R45, R60, R77, R96, R120, R133, R138, R152, R170, R184, R195, R196). -/

namespace Sys2Proof.Machine

/-! ## Attention (R191, R192) -/

/-- MACHINE READ ATTENTION: the pending set is returned and emptied in one step (R191). -/
def readAttention (p : Part) : Part × Answer :=
  (p.setPort { p.port with attention := AttentionSet.empty }, answerOk p.port.attention.bytes)

/-- MACHINE READ ATTENTION (R191). -/
def execMachineReadAttention (s : State) : Host.Outcome State Fault Refusal :=
  .next (s.run (command Header.machineReadAttention readAttention))

/-- MACHINE WRITE ATTENTION MASK (R192). -/
def writeAttentionMask (causes : Half) (p : Part) : Part × Answer :=
  match attentionSetOperand causes with
  | some mask => (p.setPort { p.port with attentionMask := mask }, answerOk [])
  | none => (p, refusal .range)

/-- MACHINE WRITE ATTENTION MASK (R192). -/
def execMachineWriteAttentionMask (causes : Half) (s : State) : Host.Outcome State Fault Refusal :=
  .next (s.run (command Header.machineWriteAttentionMask (writeAttentionMask causes)))

/-- MACHINE READ ATTENTION MASK (R192). -/
def readAttentionMask (p : Part) : Part × Answer := (p, answerOk p.port.attentionMask.bytes)

/-- MACHINE READ ATTENTION MASK (R192). -/
def execMachineReadAttentionMask (s : State) : Host.Outcome State Fault Refusal :=
  .next (s.run (command Header.machineReadAttentionMask readAttentionMask))

/-! ## Settings (R193, R194) -/

/-- MACHINE READ SETTINGS (R193). -/
def readSettings (p : Part) : Part × Answer := (p, answerOk p.settings.bytes)

/-- MACHINE READ SETTINGS (R193). -/
def execMachineReadSettings (s : State) : Host.Outcome State Fault Refusal :=
  .next (s.run (command Header.machineReadSettings readSettings))

/-- A settings write at the eye: a change of polarity re-seats it, a change of a distance tests anew what is pending
(R46, R58). -/
def handSettingsToEye (before : Settings) (p : Part) : Part :=
  if p.settings.eyePolarity = before.eyePolarity then
    if p.settings.leadDebounce = before.leadDebounce ∧ p.settings.gapFilter = before.gapFilter then p else eyeTest p
  else seatEye p

/-- A settings write at the gap axis: a change to AT_CLEAR makes the start test (R95). -/
def handSettingsToGap (before : Settings) (p : Part) : Part :=
  if p.settings.gapMethod = before.gapMethod then p else startTest p

/-- A settings write at the pressure unit: a change of the idle or park pressure recomputes every lane (R150). -/
def handSettingsToPressure (before : Settings) (p : Part) : Part :=
  if p.settings.idlePressure = before.idlePressure ∧ p.settings.parkPressure = before.parkPressure then p
  else recompute p

/-- All seventeen settings are replaced, and each that changes is handed to the block that uses it (R194; log entry
8). -/
def replaceSettings (t : Settings) (p : Part) : Part :=
  handSettingsToPressure p.settings (handSettingsToGap p.settings (handSettingsToEye p.settings (p.setSettings t)))

/-- The part is in a condition that refuses a settings write BUSY (R194, case 2). -/
def Part.settingsBusy (p : Part) : Bool := !(p.feed.runState == .stopped) || p.anyInPassage || p.knifeOccupied

/-- MACHINE WRITE SETTINGS, decided in the order of R194. -/
def writeSettings (settings : SettingsOperands) (p : Part) : Part × Answer :=
  match settingsOperand settings with
  | none => (p, refusal .range)
  | some t => if p.settingsBusy then (p, refusal .busy) else (replaceSettings t p, answerOk t.bytes)

/-- MACHINE WRITE SETTINGS (R194). -/
def execMachineWriteSettings (settings : SettingsOperands) (s : State) : Host.Outcome State Fault Refusal :=
  .next (s.run (thenArbiter (command Header.machineWriteSettings (writeSettings settings))))

/-! ## MACHINE RESET (R195) -/

/-- The feed unit at MACHINE RESET: STOPPED, backward run 0, the hold set empty; a STOP line that stands asserted is
taken as an assertion (R77). -/
def Feed.machineReset (f : Feed) : Feed :=
  { f with
    backwardRun := 0
    runState := .stopped
    holds := { HoldSet.empty with stopLine := f.stopLine, stopRecovery := f.stopLine } }

/-- A lane at MACHINE RESET: EMPTY, its counters, contact distance and rail counter 0 (R120). -/
def Lane.machineReset (l : Lane) : Lane := { l.dropContact with railCount := 0 }

/-- Lane tuning and lane sensing at MACHINE RESET: a running batch is aborted and restored, requests and holdoffs go,
every lane is EMPTY (R120, R133, R138). -/
def resetLanes (p : Part) : Part :=
  let aborted := abortBatch p
  { aborted with
    lanes := mapAll Lane.machineReset aborted.lanes
    tuning := { aborted.tuning with lanes := mapAll LaneTuning.withdrawRequest aborted.tuning.lanes } }

/-- The tables, the feed, the axis, the lines and the port at MACHINE RESET (R21, R45, R77, R96, R184, R195). -/
def resetTables (p : Part) : Part :=
  { p with
    articles := resetArticles p.articles
    hides := []
    nextTicket := 1
    unbound := none
    feed := p.feed.machineReset
    gap := p.gap.machineReset
    lines := mapAll Line.clear p.lines
    port := { p.port with attention := AttentionSet.restartedAlone } }

/-- MACHINE RESET: every block's soft reset; then the pressure unit's recompute, the gap axis's start test, and the
arbiter where lanes wait (R60, R96, R152, R156, R170; log entry 15). -/
def machineReset (p : Part) : Part × Answer :=
  let cleared := resetBus (seatEye (resetTables (resetLanes p)))
  (arbiterTest (startTest (takeStopLevel cleared.feed.stopLine cleared)), answerOk [])

/-- MACHINE RESET (R195). -/
def execMachineReset (s : State) : Host.Outcome State Fault Refusal :=
  .next (s.run (command Header.machineReset machineReset))

/-! ## Power-on and the reset pin (R196) -/

/-- Every block takes its power-on values; the model's own free-value counter goes on (R196; log entry 3), and the
levels on the encoder pair stay as they are (log entry 41). -/
def fullReset (eyeHigh stopAsserted : Bool) (p : Part) : Part :=
  ((Part.powerOn eyeHigh stopAsserted).setEncoder p.encoder).setFreeCount p.freeCount

/-- POWER_ON (R196). -/
def execPowerOn (eyeHigh stopAsserted : Bool) (s : State) : Host.Outcome State Fault Refusal :=
  .next (s.run (fullReset eyeHigh stopAsserted))

/-- RESET_PIN (R196). -/
def execResetPin (eyeHigh stopAsserted : Bool) (s : State) : Host.Outcome State Fault Refusal :=
  .next (s.run (fullReset eyeHigh stopAsserted))

end Sys2Proof.Machine
end

