-- ==== Sys2Proof/Machine/ReactionCommands.lean ====
section
/-! DEFINITION. The ROUTE, LINE and TALLY commands and the pulse timers (10_reactions_output_lines_and_tallies.md). -/

namespace Sys2Proof.Machine

/-- ROUTE WRITE: a taken write replaces the whole route (R171). -/
def routeWrite (index : Byte) (route : RouteOperands) (p : Part) : Part × Answer :=
  match routeOperand index, routeFieldsOperand route with
  | some i, some r => (p.setRoutes (p.routes.set i.val r), answerOk [])
  | _, _ => (p, refusal .range)

/-- ROUTE WRITE (R171). -/
def execRouteWrite (index : Byte) (route : RouteOperands) (s : State) : Host.Outcome State Fault Refusal :=
  .next (s.run (command Header.routeWrite (routeWrite index route)))

/-- ROUTE READ (R183). -/
def routeRead (index : Byte) (p : Part) : Part × Answer :=
  match routeOperand index with
  | some i => (p, answerOk (p.routeBytes i))
  | none => (p, refusal .range)

/-- ROUTE READ (R183). -/
def execRouteRead (index : Byte) (s : State) : Host.Outcome State Fault Refusal :=
  .next (s.run (command Header.routeRead (routeRead index)))

/-- LINE WRITE: the latched flag and the pulse timer are kept (R178). -/
def lineWrite (line mode drive level : Byte) (p : Part) : Part × Answer :=
  match fourOperand line, lineModeOperand mode, lineDriveOperand drive, yesNo level with
  | some i, some m, some d, some active =>
    (p.setLines (p.lines.set i.val { p.line i with mode := m, drive := d, directActive := active }), answerOk [])
  | _, _, _, _ => (p, refusal .range)

/-- LINE WRITE (R178). -/
def execLineWrite (line mode drive level : Byte) (s : State) : Host.Outcome State Fault Refusal :=
  .next (s.run (command Header.lineWrite (lineWrite line mode drive level)))

/-- LINE CLEAR: a set with a bit outside S0 to S3 is refused RANGE before any other test (R178, R197). -/
def lineClear (lines : Byte) (p : Part) : Part × Answer :=
  match lineSetOperand lines with
  | some set => (p.setLines (changeLines set Line.clear p.lines), answerOk [])
  | none => (p, refusal .range)

/-- LINE CLEAR (R178). -/
def execLineClear (lines : Byte) (s : State) : Host.Outcome State Fault Refusal :=
  .next (s.run (command Header.lineClear (lineClear lines)))

/-- LINE READ (R178). -/
def lineRead (line : Byte) (p : Part) : Part × Answer :=
  match fourOperand line with
  | some i => (p, answerOk (p.lineBytes i))
  | none => (p, refusal .range)

/-- LINE READ (R178). -/
def execLineRead (line : Byte) (s : State) : Host.Outcome State Fault Refusal :=
  .next (s.run (command Header.lineRead (lineRead line)))

/-- A tally after a taken TALLY WRITE: the count is kept (R182). -/
def Tally.write (t : Tally) (threshold : Word) (scope : TallyScope) (flags : Byte) : Tally :=
  { t with
    threshold := threshold
    scope := scope
    invert := flags.getLsbD 0
    frozen := flags.getLsbD 1
    freezeOnStop := flags.getLsbD 2 }

/-- TALLY WRITE, decided in the order of R182; unassigned flag bits are disregarded (R197). -/
def tallyWrite (tally : Byte) (threshold : Word) (scope flags : Byte) (p : Part) : Part × Answer :=
  match fourOperand tally, tallyScopeOperand scope with
  | some i, some sc =>
    if sc == .running && flags.getLsbD 0 then (p, refusal .range)
    else (p.setTallies (p.tallies.set i.val ((p.tallies[i.val]).write threshold sc flags)), answerOk [])
  | _, _ => (p, refusal .range)

/-- TALLY WRITE (R182). -/
def execTallyWrite (tally : Byte) (threshold : Word) (scope flags : Byte) (s : State) :
    Host.Outcome State Fault Refusal :=
  .next (s.run (command Header.tallyWrite (tallyWrite tally threshold scope flags)))

/-- TALLY RESET: the count becomes 0, frozen or not (R182). -/
def tallyReset (tally : Byte) (p : Part) : Part × Answer :=
  match fourOperand tally with
  | some i => (p.setTallies (p.tallies.set i.val { p.tallies[i.val] with count := 0 }), answerOk [])
  | none => (p, refusal .range)

/-- TALLY RESET (R182). -/
def execTallyReset (tally : Byte) (s : State) : Host.Outcome State Fault Refusal :=
  .next (s.run (command Header.tallyReset (tallyReset tally)))

/-- TALLY READ (R182). -/
def tallyRead (tally : Byte) (p : Part) : Part × Answer :=
  match fourOperand tally with
  | some i => (p, answerOk (p.tallyBytes i))
  | none => (p, refusal .range)

/-- TALLY READ (R182). -/
def execTallyRead (tally : Byte) (s : State) : Host.Outcome State Fault Refusal :=
  .next (s.run (command Header.tallyRead (tallyRead tally)))

/-- The pulse timer of a line expires: it stops (R175). -/
def expirePulse (i : Fin 4) (p : Part) : Part := p.setLines (p.lines.set i.val { p.line i with pulse := none })

/-- PULSE_TIMER_EXPIRY (R175). -/
def execPulseTimerExpiry (line : Fin 4) (s : State) : Host.Outcome State Fault Refusal :=
  .next (s.run (expirePulse line))

end Sys2Proof.Machine
end

