-- ==== Sys2Proof/Machine/TuneCommands.lean ====
section
/-! DEFINITION. The TUNE commands and the events of lane tuning (07_lane_tuning.md). -/

namespace Sys2Proof.Machine

/-- The lanes of a mask that a batch takes: mode not OFF, IN_SERVICE (R124, case 4). -/
def Part.batchLanes (p : Part) (mask : Word) : List LaneNo :=
  (maskLanes mask).filter fun n =>
    !((p.laneTuning n).settings.mode == .off) && (p.lane n).service == .inService

/-- TUNE START, decided in the order of R124. -/
def tuneStart (mask : Word) (p : Part) : Part × Answer :=
  if p.batchRunning then (p, refusal .busy)
  else if p.knifeOccupied then (p, refusal .busy)
  else if p.oldestApproached?.isSome then (p, refusal .busy)
  else
    let lanes := p.batchLanes mask
    if lanes.isEmpty then (p, refusal .state)
    else (startBatch .host lanes p, answerOk (bytes4 (laneMask lanes)))

/-- TUNE START (R124). -/
def execTuneStart (mask : Word) (s : State) : Host.Outcome State Fault Refusal :=
  .next (s.run (thenArbiter (command Header.tuneStart (tuneStart mask))))

/-- TUNE ABORT: the reply carries the lanes restored (R132). -/
def tuneAbort (p : Part) : Part × Answer :=
  if p.batchRunning then
    (formationTest (recompute (abortBatch p)), answerOk (bytes4 (laneMask (p.unfinished.map (·.lane)))))
  else (p, refusal .state)

/-- TUNE ABORT (R132). -/
def execTuneAbort (s : State) : Host.Outcome State Fault Refusal :=
  .next (s.run (thenArbiter (command Header.tuneAbort tuneAbort)))

/-- The tuning record of a lane after a taken TUNE WRITE: mode OFF or automatic retune off removes its request and
disarms its holdoff (R122). -/
def LaneTuning.write (t : LaneTuning) (settings : TuneSettings) : LaneTuning :=
  let written := { t with settings := settings }
  if settings.mode == .off || !settings.automatic then written.withdrawRequest else written

/-- TUNE WRITE, decided in the order of R122. -/
def tuneWrite (settings : TuneOperands) (n : LaneNo) (p : Part) : Part × Answer :=
  match tuneSettingsOperand settings with
  | none => (p, refusal .range)
  | some t =>
    if (p.lane n).tune = .tuning then (p, refusal .busy)
    else (p.setLaneTuning n ((p.laneTuning n).write t), answerOk [])

/-- TUNE WRITE (R122). -/
def execTuneWrite (lane : Byte) (settings : TuneOperands) (s : State) : Host.Outcome State Fault Refusal :=
  .next (s.run (command Header.tuneWrite (onLane lane (tuneWrite settings))))

/-- TUNE READ (R137). -/
def readTune (n : LaneNo) (p : Part) : Part × Answer := (p, answerOk (p.tuneBytes n))

/-- TUNE READ (R137). -/
def execTuneRead (lane : Byte) (s : State) : Host.Outcome State Fault Refusal :=
  .next (s.run (command Header.tuneRead (onLane lane readTune)))

/-- BATCH_COMPLETION: a running batch whose members are all FINISHED completes (R131; log entry 1). -/
def execBatchCompletion (s : State) : Host.Outcome State Fault Refusal :=
  .next (s.run (thenArbiter completeBatch))

/-- FORMATION_TEST (R135). -/
def execFormationTest (s : State) : Host.Outcome State Fault Refusal := .next (s.run (thenArbiter formationTest))

/-- HOLDOFF_TIMER_EXPIRY (R136). -/
def execHoldoffTimerExpiry (lane : LaneNo) (s : State) : Host.Outcome State Fault Refusal :=
  .next (s.run (thenArbiter (expireHoldoff lane)))

end Sys2Proof.Machine
end

