-- ==== Sys2Proof/Machine/Dispatch.lean ====
section
/-! DEFINITION. One arm for each command of spec/opcode_table.json: its effect on everything but the queue. -/

namespace Sys2Proof.Machine

def exec (i : Instr) (s : State) : Host.Outcome State Fault Refusal :=
  match i with
  | .articleWrite code plan mark => Sys2Proof.Machine.execArticleWrite code plan mark s
  | .articleRead code => Sys2Proof.Machine.execArticleRead code s
  | .articleFindNext code => Sys2Proof.Machine.execArticleFindNext code s
  | .articleRetire code => Sys2Proof.Machine.execArticleRetire code s
  | .hideAnnounce tag code => Sys2Proof.Machine.execHideAnnounce tag code s
  | .hideAmend ticket tag code => Sys2Proof.Machine.execHideAmend ticket tag code s
  | .hideRead ticket => Sys2Proof.Machine.execHideRead ticket s
  | .hideFind tag => Sys2Proof.Machine.execHideFind tag s
  | .hideList => Sys2Proof.Machine.execHideList s
  | .hideAbort ticket => Sys2Proof.Machine.execHideAbort ticket s
  | .hideRetire ticket => Sys2Proof.Machine.execHideRetire ticket s
  | .feedRun => Sys2Proof.Machine.execFeedRun s
  | .feedStop => Sys2Proof.Machine.execFeedStop s
  | .feedStopAtClear => Sys2Proof.Machine.execFeedStopAtClear s
  | .feedStopBeforeNext => Sys2Proof.Machine.execFeedStopBeforeNext s
  | .feedHold => Sys2Proof.Machine.execFeedHold s
  | .feedClearHold causes => Sys2Proof.Machine.execFeedClearHold causes s
  | .feedRead => Sys2Proof.Machine.execFeedRead s
  | .eyeForceLead operand => Sys2Proof.Machine.execEyeForceLead operand s
  | .eyeForceTail operand => Sys2Proof.Machine.execEyeForceTail operand s
  | .eyeRead => Sys2Proof.Machine.execEyeRead s
  | .gapSet gap => Sys2Proof.Machine.execGapSet gap s
  | .gapApply => Sys2Proof.Machine.execGapApply s
  | .gapRecover => Sys2Proof.Machine.execGapRecover s
  | .gapRead => Sys2Proof.Machine.execGapRead s
  | .lanePark lane => Sys2Proof.Machine.execLanePark lane s
  | .laneUnpark lane => Sys2Proof.Machine.execLaneUnpark lane s
  | .laneRecover lane => Sys2Proof.Machine.execLaneRecover lane s
  | .laneRead lane => Sys2Proof.Machine.execLaneRead lane s
  | .laneWrite lane settings calibration => Sys2Proof.Machine.execLaneWrite lane settings calibration s
  | .lanePressure lane => Sys2Proof.Machine.execLanePressure lane s
  | .tuneStart mask => Sys2Proof.Machine.execTuneStart mask s
  | .tuneAbort => Sys2Proof.Machine.execTuneAbort s
  | .tuneWrite lane settings => Sys2Proof.Machine.execTuneWrite lane settings s
  | .tuneRead lane => Sys2Proof.Machine.execTuneRead lane s
  | .boardRecover board => Sys2Proof.Machine.execBoardRecover board s
  | .boardRead board => Sys2Proof.Machine.execBoardRead board s
  | .routeWrite index route => Sys2Proof.Machine.execRouteWrite index route s
  | .routeRead index => Sys2Proof.Machine.execRouteRead index s
  | .lineWrite line mode drive level => Sys2Proof.Machine.execLineWrite line mode drive level s
  | .lineClear lines => Sys2Proof.Machine.execLineClear lines s
  | .lineRead line => Sys2Proof.Machine.execLineRead line s
  | .tallyWrite tally threshold scope flags => Sys2Proof.Machine.execTallyWrite tally threshold scope flags s
  | .tallyReset tally => Sys2Proof.Machine.execTallyReset tally s
  | .tallyRead tally => Sys2Proof.Machine.execTallyRead tally s
  | .machineReset => Sys2Proof.Machine.execMachineReset s
  | .machineReadAttention => Sys2Proof.Machine.execMachineReadAttention s
  | .machineWriteAttentionMask causes => Sys2Proof.Machine.execMachineWriteAttentionMask causes s
  | .machineReadAttentionMask => Sys2Proof.Machine.execMachineReadAttentionMask s
  | .machineReadSettings => Sys2Proof.Machine.execMachineReadSettings s
  | .machineWriteSettings settings => Sys2Proof.Machine.execMachineWriteSettings settings s
  | .linkFetch clocked => Sys2Proof.Machine.execLinkFetch clocked s
  | .malformedFrame header clocks => Sys2Proof.Machine.execMalformedFrame header clocks s
  | .frameDisregarded clocks => Sys2Proof.Machine.execFrameDisregarded clocks s
  | .powerOn eyeHigh stopAsserted => Sys2Proof.Machine.execPowerOn eyeHigh stopAsserted s
  | .resetPin eyeHigh stopAsserted => Sys2Proof.Machine.execResetPin eyeHigh stopAsserted s
  | .forwardStep => Sys2Proof.Machine.execForwardStep s
  | .backwardStep => Sys2Proof.Machine.execBackwardStep s
  | .stopAssertion => Sys2Proof.Machine.execStopAssertion s
  | .stopRelease => Sys2Proof.Machine.execStopRelease s
  | .eyeTransition => Sys2Proof.Machine.execEyeTransition s
  | .leadDebounceTravelled => Sys2Proof.Machine.execLeadDebounceTravelled s
  | .gapFilterTravelled => Sys2Proof.Machine.execGapFilterTravelled s
  | .discardLightTravelled => Sys2Proof.Machine.execDiscardLightTravelled s
  | .approachPointCrossing ticket => Sys2Proof.Machine.execApproachPointCrossing ticket s
  | .knifeLineCrossing ticket => Sys2Proof.Machine.execKnifeLineCrossing ticket s
  | .trailMarkCrossing ticket => Sys2Proof.Machine.execTrailMarkCrossing ticket s
  | .maximumLengthCrossing ticket => Sys2Proof.Machine.execMaximumLengthCrossing ticket s
  | .gaugePair left right => Sys2Proof.Machine.execGaugePair left right s
  | .moveCompletion left right => Sys2Proof.Machine.execMoveCompletion left right s
  | .moveTimerExpiry => Sys2Proof.Machine.execMoveTimerExpiry s
  | .laneReading lane raw => Sys2Proof.Machine.execLaneReading lane raw s
  | .laneReseed lane => Sys2Proof.Machine.execLaneReseed lane s
  | .batchCompletion => Sys2Proof.Machine.execBatchCompletion s
  | .formationTest => Sys2Proof.Machine.execFormationTest s
  | .holdoffTimerExpiry lane => Sys2Proof.Machine.execHoldoffTimerExpiry lane s
  | .arbiterTest => Sys2Proof.Machine.execArbiterTest s
  | .selectAnswer answer => Sys2Proof.Machine.execSelectAnswer answer s
  | .selectTimerExpiry => Sys2Proof.Machine.execSelectTimerExpiry s
  | .busSlot received => Sys2Proof.Machine.execBusSlot received s
  | .echoArrival echo => Sys2Proof.Machine.execEchoArrival echo s
  | .releaseIntervalExpiry => Sys2Proof.Machine.execReleaseIntervalExpiry s
  | .pulseTimerExpiry line => Sys2Proof.Machine.execPulseTimerExpiry line s
  | .framesAccepted => Sys2Proof.Machine.execFramesAccepted s

end Sys2Proof.Machine
end

