-- ==== Sys2Proof/Machine/Time.lean ====
section
/-! DEFINITION. Time, where no command waits: a tick of 10 us in which every armed timer counts down, or the expiry of
one timer that has run out (log entries 2 and 3). -/

namespace Sys2Proof.Machine

/-- The timers of the part. -/
inductive Timer where
  | move
  | select
  | release
  | acceptance
  | pulse (line : Fin 4)
  | holdoff (lane : LaneNo)
  deriving DecidableEq, Repr

/-- Every timer of the part. -/
def allTimers : List Timer :=
  [.move, .select, .release, .acceptance] ++ (List.finRange 4).map .pulse ++ allLanes.map .holdoff

/-- The ticks remaining of a timer that is armed. -/
def Part.remaining (p : Part) (t : Timer) : Option Nat :=
  match t with
  | .move => p.gap.moveTimer
  | .select => p.bus.selectTimer
  | .release => p.bus.releaseTimer
  | .acceptance => p.port.acceptIn
  | .pulse i => (p.line i).pulse
  | .holdoff n => (p.laneTuning n).holdoff

/-- The timers that have run out. -/
def Part.dueTimers (p : Part) : List Timer := allTimers.filter fun t => p.remaining t == some 0

/-- The expiry of a timer. -/
def expireTimer (t : Timer) (p : Part) : Part :=
  match t with
  | .move => expireMoveTimer p
  | .select => expireSelectTimer p
  | .release => expireRelease p
  | .acceptance => acceptFrames p
  | .pulse i => expirePulse i p
  | .holdoff n => thenArbiter (expireHoldoff n) p

/-- An armed timer has one tick less to run. -/
def countDown (timer : Option Nat) : Option Nat := timer.map (· - 1)

/-- A tick passes: every armed timer counts down. -/
def passTick (p : Part) : Part :=
  { p with
    gap := { p.gap with moveTimer := countDown p.gap.moveTimer }
    bus := { p.bus with
      selectTimer := countDown p.bus.selectTimer
      releaseTimer := countDown p.bus.releaseTimer }
    lines := mapAll (fun l => { l with pulse := countDown l.pulse }) p.lines
    tuning := { p.tuning with lanes := mapAll (fun t => { t with holdoff := countDown t.holdoff }) p.tuning.lanes }
    port := { p.port with acceptIn := countDown p.port.acceptIn } }

/-- The part with nothing commanded: one due timer expires, which one of several being a free choice, or a tick
passes. -/
def idle (p : Part) : Part :=
  match p.dueTimers with
  | [] => passTick p
  | [t] => expireTimer t p
  | t :: rest =>
    let choice := Config.timerChoice p.freeCount % (rest.length + 1)
    expireTimer ((t :: rest).getD choice t) (p.setFreeCount (p.freeCount + 1))

end Sys2Proof.Machine
end

