-- ==== Sys2Proof/Machine/Step.lean ====
section
/-! DEFINITION. The step: the command at the front of the queue is taken, or, with none waiting, the part idles. -/

namespace Sys2Proof.Machine

/-- One step. An empty queue idles, and time passes there (log entry 2). -/
def step (s : State) : Host.Outcome State Fault Refusal :=
  match s.pending with
  | [] => .next (s.run idle)
  | c :: rest => exec c { s with pending := rest }

/-- The machine with the command a word spells put at the front of its queue; no word spells one (log entry 23). -/
def State.withFetchWord (s : State) (nbits w : Nat) : State :=
  match decodeTableWord nbits w with
  | some c => { s with pending := c :: s.pending }
  | none => s

end Sys2Proof.Machine
end

