-- ==== Sys2Proof/WellFormed.lean ====
section
/-! DEFINITION. What it takes for a command to be one that its sender can send. Host commands are well-formed for
every value of their operand bytes: an operand out of range is refused by the part, in the result slot. -/

namespace Sys2Proof

/-- A knife gauge reading lies in 0 to 1000, in units of 0.01 mm (R80). -/
def gaugeInRange (reading : Half) : Bool := decide (reading.toNat ≤ 1000)

/-- R186: a frame is malformed when its header names no class and verb of the part, or the clocks after the header
are not eight times the operand length; a FETCH frame never is. -/
def isMalformed (header : Byte) (clocks : Nat) : Bool :=
  !(header == Header.fetch) && !((operandLength header).map (8 * ·) == some clocks)

/-- The check: the two rows of EYE FORCE are told apart by the operand (12, "EYE FORCE operand"), a malformed frame
is one that R186 calls so, a ticket is never 0 (R23), and gauge readings lie in their range (R80). -/
def Instr.wellFormed (c : Instr) : Bool :=
  match c with
  | .eyeForceLead operand => !(operand == 2)
  | .eyeForceTail operand => operand == 2
  | .malformedFrame header clocks => isMalformed header clocks
  | .approachPointCrossing ticket => !(ticket == 0)
  | .knifeLineCrossing ticket => !(ticket == 0)
  | .trailMarkCrossing ticket => !(ticket == 0)
  | .maximumLengthCrossing ticket => !(ticket == 0)
  | .gaugePair left right => gaugeInRange left && gaugeInRange right
  | .moveCompletion left right => gaugeInRange left && gaugeInRange right
  | .articleWrite _ _ _ => true
  | .articleRead _ => true
  | .articleFindNext _ => true
  | .articleRetire _ => true
  | .hideAnnounce _ _ => true
  | .hideAmend _ _ _ => true
  | .hideRead _ => true
  | .hideFind _ => true
  | .hideList => true
  | .hideAbort _ => true
  | .hideRetire _ => true
  | .feedRun => true
  | .feedStop => true
  | .feedStopAtClear => true
  | .feedStopBeforeNext => true
  | .feedHold => true
  | .feedClearHold _ => true
  | .feedRead => true
  | .eyeRead => true
  | .gapSet _ => true
  | .gapApply => true
  | .gapRecover => true
  | .gapRead => true
  | .lanePark _ => true
  | .laneUnpark _ => true
  | .laneRecover _ => true
  | .laneRead _ => true
  | .laneWrite _ _ _ => true
  | .lanePressure _ => true
  | .tuneStart _ => true
  | .tuneAbort => true
  | .tuneWrite _ _ => true
  | .tuneRead _ => true
  | .boardRecover _ => true
  | .boardRead _ => true
  | .routeWrite _ _ => true
  | .routeRead _ => true
  | .lineWrite _ _ _ _ => true
  | .lineClear _ => true
  | .lineRead _ => true
  | .tallyWrite _ _ _ _ => true
  | .tallyReset _ => true
  | .tallyRead _ => true
  | .machineReset => true
  | .machineReadAttention => true
  | .machineWriteAttentionMask _ => true
  | .machineReadAttentionMask => true
  | .machineReadSettings => true
  | .machineWriteSettings _ => true
  | .linkFetch _ => true
  | .frameDisregarded _ => true
  | .powerOn _ _ => true
  | .resetPin _ _ => true
  | .forwardStep => true
  | .backwardStep => true
  | .stopAssertion => true
  | .stopRelease => true
  | .eyeTransition => true
  | .leadDebounceTravelled => true
  | .gapFilterTravelled => true
  | .discardLightTravelled => true
  | .moveTimerExpiry => true
  | .laneReading _ _ => true
  | .laneReseed _ => true
  | .batchCompletion => true
  | .formationTest => true
  | .holdoffTimerExpiry _ => true
  | .arbiterTest => true
  | .selectAnswer _ => true
  | .selectTimerExpiry => true
  | .busSlot _ => true
  | .echoArrival _ => true
  | .releaseIntervalExpiry => true
  | .pulseTimerExpiry _ => true
  | .framesAccepted => true

end Sys2Proof
end

