-- ==== Sys2Proof/Safety.lean ====
section
/-! DEFINITION. What the statements speak of: the state a command frame leaves behind, and the invariants of the part
(what each step keeps). Nothing here is used by the model. -/

namespace Sys2Proof.Machine

/-! ## What a step leaves behind -/

/-- The machine with another part, its queue as it was. -/
def State.withPart (s : State) (p : Part) : State := { s with toPart := p }

/-- The machine after a command frame whose effects left the part as `p`: its result stands in the slot, and the
status byte of the state before and zeros during the operand bytes have been shifted out (R185, R187). -/
def State.answers (s : State) (header : Byte) (code : ResultCode) (reply : List Byte) (p : Part) : State :=
  s.withPart { p with
    port := { p.port with
      slot := ⟨header, code, reply⟩
      shiftedOut := s.statusByte :: List.replicate ((operandLength header).getD 0) 0 } }

/-- The machine after a refused command frame: nothing but the port has changed (R187). -/
def State.refuses (s : State) (header : Byte) (code : ResultCode) : State := s.answers header code [] s.toPart

/-- The machine after an operation that left the part as `p`, and the arbiter test where a lane has come to wait
(R156). -/
def State.thenWakes (s : State) (p : Part) : State := s.withPart (thenArbiter (fun _ => p) s.toPart)

/-- `q` differs from `p` at most in what the routes of the reaction map act on: the run state, ROUTE_HOLD, the attention
cause ROUTE, the line records and the tallies (R174, R175, R179). -/
def onlyRoutes (p q : Part) : Prop :=
  q = { p with
    feed := { p.feed with
      runState := q.feed.runState
      holds := { p.feed.holds with routeHold := q.feed.holds.routeHold } }
    port := { p.port with attention := { p.port.attention with route := q.port.attention.route } }
    lines := q.lines
    tallies := q.tallies }

/-! ## Invariants -/

/-- R153: SETTLED means that the applied value is present and equals the wanted pressure. -/
def settledMeansApplied (p : Part) : Prop :=
  ∀ n : LaneNo, (p.drive n).state = .settled → (p.drive n).applied = some (p.wanted n)

/-- R78, R86: the move timer is armed in MOVING only, the move target is present in MOVING and FAULT only, an IDLE axis
has its active gap, and the settle count is 0 to 2, and 0 while no move is under way. -/
def gapRecordFits (p : Part) : Prop :=
  (p.gap.moveTimer.isSome = true ↔ p.gap.state = .moving) ∧
    (p.gap.target.isSome = true ↔ p.gap.state = .moving ∨ p.gap.state = .fault) ∧
    (p.gap.state = .idle → p.gap.active.isSome = true) ∧
    p.gap.settle ≤ 2 ∧ (p.gap.state ≠ .moving → p.gap.settle = 0)

/-- R97, R99, R102, R104, R105, R107: what a lane record never shows. A blind lane is EMPTY; a lane with seed pending is
EMPTY; EMPTY has exit counter and contact distance 0 and, on a blind lane, enter counter 0; BOTTOMED has enter counter
0; the rail counter is 0 to 3, and 0 out of service. -/
def laneRecordFits (l : Lane) : Prop :=
  (l.seeing = false → l.contact = .empty ∧ l.enterCount = 0) ∧
    (l.seedPending = true → l.contact = .empty) ∧
    (l.contact = .empty → l.exitCount = 0 ∧ l.distance = 0) ∧
    (l.contact = .bottomed → l.enterCount = 0) ∧
    l.railCount ≤ 3 ∧ (l.service ≠ .inService → l.railCount = 0)

/-- Every lane record fits. -/
def laneRecordsFit (p : Part) : Prop := ∀ n : LaneNo, laneRecordFits (p.lane n)

/-- R63, R69, R75, R87, R88, R123, R148: STOP_LINE stands exactly while the STOP line is asserted, which is the level
the pressure unit has taken, and STOP_RECOVERY and STOPPED with it; GAP_FAULT exactly while the axis is FAULT; TUNING
exactly while a batch runs; and the backward run is 0 to 20. -/
def holdsMirrorTheirBlocks (p : Part) : Prop :=
  p.feed.holds.stopLine = p.feed.stopLine ∧ p.pressure.stopLevel = p.feed.stopLine ∧
    (p.feed.stopLine = true → p.feed.holds.stopRecovery = true ∧ p.feed.runState = .stopped) ∧
    (p.feed.holds.gapFault = true ↔ p.gap.state = .fault) ∧
    p.feed.holds.tuning = p.batchRunning ∧ p.feed.backwardRun ≤ 20

/-- R155, R158, R159, R164, R170: the select timer is armed in SELECTING only and the release timer in RELEASING only,
an echo is due and the reset drain mark set only while a session is OPEN or DRAINING, the board served is the pointer's,
and every retry count is 0 or 1. -/
def busRecordFits (p : Part) : Prop :=
  (p.bus.selectTimer.isSome = true ↔ p.bus.master = .selecting p.bus.pointer) ∧
    (p.bus.releaseTimer.isSome = true ↔ p.bus.master = .releasing) ∧
    (p.bus.dueNext.isSome = true ∨ p.bus.dueAfter.isSome = true →
      p.bus.master = .opened p.bus.pointer ∨ p.bus.master = .draining p.bus.pointer) ∧
    (p.bus.resetDrain = true → p.bus.master = .draining p.bus.pointer) ∧
    (∀ b : BoardNo, p.bus.master.board = some b → b = p.bus.pointer) ∧
    ∀ n : LaneNo, (p.drive n).retry ≤ 1

/-- The number of hide records that name a code (R15). -/
def Part.naming (p : Part) (code : Nat) : Nat := (p.hides.filter fun h => h.article == code).length

/-- R1, R3, R4, R14, R15, R22, R23, R33: the article codes ascend and no two records share one, there are at most 64,
and each is 1 to 65534; one record at most carries the default mark; a record's pin count is the number of hide records
naming it; a RETIRING record is pinned and not marked; there are at most 8 hide records, no two of one ticket, each
naming a plan of the table; and at most one of them is SPLITTING. -/
def tablesAgree (p : Part) : Prop :=
  p.articles.Pairwise (fun a b => a.code < b.code) ∧ p.articles.length ≤ 64 ∧
    (∀ a ∈ p.articles, 1 ≤ a.code ∧ a.code ≤ 65534 ∧ a.pins = p.naming a.code ∧
      (a.state = .retiring → 1 ≤ a.pins ∧ a.mark = false)) ∧
    (p.articles.filter (·.mark)).length ≤ 1 ∧
    p.hides.length ≤ 8 ∧ (p.hides.map (·.ticket)).Nodup ∧
    (∀ h ∈ p.hides, (p.plan? h.article).isSome = true) ∧
    (p.hides.filter fun h => h.state == .splitting).length ≤ 1

/-- R145: every lane's wanted pressure is the value its case gives for the state of the lanes, the hide table and the
STOP line. -/
def wantedIsDecided (p : Part) : Prop := p.pressure.wanted = p.pressures

/-- R89: GAP_NOT_READY stands exactly while the not-ready condition holds. -/
def notReadyIsHeld (p : Part) : Prop := p.feed.holds.gapNotReady = p.notReady

end Sys2Proof.Machine
end

