-- ==== Sys2Proof/Certificates/Slice0/Obligations.lean ====
section
/-! DEFINITION. The statements for the provers, from the numbered rules of spec/. A command frame of the host is stated
for a part that accepts frames (`port.acceptIn = none`); what happens before that is `EarlyFramesAreDisregarded`. In
`State.answers` the result slot and the bytes shifted out are R185's and R187's; that the part remembers the bytes
shifted out is the model's own record (log entry 5). -/

open Sys2Proof Sys2Proof.Machine

/-! ## The queue, the step and the command port -/

/-- A step takes the command at the front of the queue: it is exec of that command on the state with the queue's
rest. -/
def Obligations.StepTakesFrontCommand : Prop :=
  ∀ (c : Instr) (rest : List Instr) (s : State),
    step { s with pending := c :: rest } = exec c { s with pending := rest }

/-- Every command answers a next state, and leaves the queue as it is (R187: a command is taken whole). -/
def Obligations.EveryCommandAnswersNext : Prop :=
  ∀ (c : Instr) (s : State), ∃ p : Part, exec c s = .next (s.withPart p)

/-- With no command waiting, time passes (the model's choice, log entries 2 and 3): with no timer run out, every armed
timer has one tick less to run and nothing else changes; otherwise one timer that has run out expires, which is the step
its own row makes. A timer has run out when it is armed with no tick left. -/
def Obligations.IdleStepPassesTime : Prop :=
  (∀ s : State, s.pending = [] →
    (s.dueTimers = [] → step s = .next (s.withPart { s.toPart with
      gap := { s.gap with moveTimer := s.gap.moveTimer.map (· - 1) }
      bus := { s.bus with
        selectTimer := s.bus.selectTimer.map (· - 1)
        releaseTimer := s.bus.releaseTimer.map (· - 1) }
      lines := s.lines.map fun l => { l with pulse := l.pulse.map (· - 1) }
      tuning := { s.tuning with lanes := s.tuning.lanes.map fun t => { t with holdoff := t.holdoff.map (· - 1) } }
      port := { s.port with acceptIn := s.port.acceptIn.map (· - 1) } })) ∧
    (∀ t : Timer, s.dueTimers = [t] → step s = .next (s.withPart (expireTimer t s.toPart))) ∧
    (2 ≤ s.dueTimers.length → ∃ t ∈ s.dueTimers,
      step s = .next (s.withPart (expireTimer t { s.toPart with freeCount := s.freeCount + 1 })))) ∧
  (∀ s : State, exec .moveTimerExpiry s = .next (s.withPart (expireTimer .move s.toPart)) ∧
    exec .selectTimerExpiry s = .next (s.withPart (expireTimer .select s.toPart)) ∧
    exec .releaseIntervalExpiry s = .next (s.withPart (expireTimer .release s.toPart)) ∧
    exec .framesAccepted s = .next (s.withPart (expireTimer .acceptance s.toPart)) ∧
    (∀ i : Fin 4, exec (.pulseTimerExpiry i) s = .next (s.withPart (expireTimer (.pulse i) s.toPart))) ∧
    ∀ n : LaneNo, exec (.holdoffTimerExpiry n) s = .next (s.withPart (expireTimer (.holdoff n) s.toPart))) ∧
  ∀ p : Part, (Timer.move ∈ p.dueTimers ↔ p.gap.moveTimer = some 0) ∧
    (Timer.select ∈ p.dueTimers ↔ p.bus.selectTimer = some 0) ∧
    (Timer.release ∈ p.dueTimers ↔ p.bus.releaseTimer = some 0) ∧
    (Timer.acceptance ∈ p.dueTimers ↔ p.port.acceptIn = some 0) ∧
    (∀ i : Fin 4, Timer.pulse i ∈ p.dueTimers ↔ (p.line i).pulse = some 0) ∧
    ∀ n : LaneNo, Timer.holdoff n ∈ p.dueTimers ↔ (p.laneTuning n).holdoff = some 0

/-- R185, R186, R189: a frame that begins before frames are accepted is disregarded as a whole, and its status byte reads
as zero: every command frame, FETCH, a malformed frame and a long disregarded one. A disregarded frame changes nothing but
the record of what was shifted out (log entry 5): one of fewer than eight clocks carries as many bits of its status byte,
most significant first, as it has clocks; one of eight clocks or more began before acceptance (log entry 22). Once frames
are accepted nothing else has changed. -/
def Obligations.EarlyFramesAreDisregarded : Prop :=
  (∀ (c : Instr) (s : State), s.port.acceptIn.isSome = true →
     (encodeFrame c).isSome = true ∨ (∃ n, c = .linkFetch n) ∨ (∃ h n, c = .malformedFrame h n) ∨
       (∃ n, 8 ≤ n ∧ c = .frameDisregarded n) →
     exec c s = .next (s.withPart { s.toPart with port := { s.port with shiftedOut := [0] } })) ∧
  (∀ (clocks : Nat) (s : State), 8 ≤ clocks → exec (.frameDisregarded clocks) s = .next (s.withPart { s.toPart with
    port := { s.port with shiftedOut := [0] } })) ∧
  (∀ (clocks : Nat) (s : State) (status : Byte), clocks < 8 →
    status = (if s.port.acceptIn = none then s.statusByte else 0) →
    ∃ bits : List Bool, bits.length = clocks ∧ (∀ i : Nat, i < clocks → bits[i]? = some (status.getLsbD (7 - i))) ∧
      exec (.frameDisregarded clocks) s = .next (s.withPart { s.toPart with
        port := { s.port with shiftedOut := [], shortBits := bits } })) ∧
  ∀ s : State, exec .framesAccepted s = .next (s.withPart { s.toPart with port := { s.port with acceptIn := none } })

/-- R186, R189: what a frame is, from its whole bytes and the clocks after them, in the order of the rule, and what a
frame that is no command leaves: a short one the bits of the status byte it shifted out, most significant first (the record
is the model's: log entry 5). What a malformed frame shifts out is the model's choice (log entry 34). -/
def Obligations.FramesAreDecoded : Prop :=
  (∀ (clocks : Nat) (s : State), clocks < 8 →
    ∃ bits : List Bool, bits.length = clocks ∧
      (s.port.acceptIn = none → ∀ i : Nat, i < clocks → bits[i]? = some (s.statusByte.getLsbD (7 - i))) ∧
      exec (decodeFrame [] clocks) s = .next (s.withPart { s.toPart with
        port := { s.port with shiftedOut := [], shortBits := bits } })) ∧
  (∀ (operand : List Byte) (clocks : Nat),
    decodeFrame (Header.fetch :: operand) clocks = .linkFetch operand.length) ∧
  (∀ (header : Byte) (operand : List Byte) (clocks : Nat) (s : State), s.port.acceptIn = none →
    header ≠ Header.fetch → ¬(operandLength header = some operand.length ∧ clocks = 0) →
    exec (decodeFrame (header :: operand) clocks) s = .next (s.withPart { s.toPart with
      port := { s.port with slot := ⟨header, .malformed, []⟩, shiftedOut := [s.statusByte] } })) ∧
  (∀ (header : Byte) (operand : List Byte), header ≠ Header.fetch → operandLength header = some operand.length →
    encodeFrame (decodeFrame (header :: operand) 0) = some (header :: operand))

/-- A host command's frame decodes to that command, with every operand byte at every value (R186, 12). -/
def Obligations.DecodeOfEncodeIsCommand : Prop :=
  ∀ (c : Instr) (frame : List Byte), c.wellFormed = true → encodeFrame c = some frame → decodeFrame frame 0 = c

/-- R188, R189, R198, R199: FETCH shifts out the status byte, then the result code, the header, the reply length and the
reply, and zeros beyond the reply, as many bytes as are clocked; it changes nothing else. The status byte has 1 in bit 0
and its seven items in bits 1 to 7; it is that of the state before the step (the model's choice, log entry 4). -/
def Obligations.FetchReturnsStoredResult : Prop :=
  (∀ (clocked : Nat) (s : State), s.port.acceptIn = none →
    ∃ bytes : List Byte, bytes.length = clocked ∧
      exec (.linkFetch clocked) s = .next (s.withPart { s.toPart with
        port := { s.port with shiftedOut := s.statusByte :: bytes } }) ∧
      (0 < clocked → bytes[0]? = some s.port.slot.code.byte) ∧
      (1 < clocked → bytes[1]? = some s.port.slot.header) ∧
      (2 < clocked → bytes[2]? = some (BitVec.ofNat 8 s.port.slot.reply.length)) ∧
      (∀ i : Nat, i + 3 < clocked → bytes[i + 3]? = some (s.port.slot.reply.getD i 0))) ∧
  ([ResultCode.ok, .pending, .notFound, .full, .busy, .range, .state, .retiring, .malformed, .none].map
    ResultCode.byte = [0x00, 0x01, 0x02, 0x03, 0x04, 0x05, 0x06, 0x07, 0x08, 0xFF]) ∧
  ∀ p : Part, p.statusByte.getLsbD 0 = true ∧
    (p.statusByte.getLsbD 1 = true ↔ p.port.slot.code = .none) ∧
    (p.statusByte.getLsbD 2 = true ↔ ∃ b : Batch, p.tuning.batch = some b ∧ b.running = true) ∧
    (p.statusByte.getLsbD 3 = true ↔ (∃ h ∈ p.hides, h.state = .splitting) ∨ p.feed.holds.hideAborted = true ∨
      p.feed.holds.stopRecovery = true) ∧
    p.statusByte.getLsbD 4 = p.feed.stopLine ∧
    (p.statusByte.getLsbD 5 = true ↔ ∃ c : HoldCause, p.feed.holds.has c = true) ∧
    (p.statusByte.getLsbD 6 = true ↔ p.feed.runState ≠ .stopped ∧ ∀ c : HoldCause, p.feed.holds.has c = false) ∧
    (p.statusByte.getLsbD 7 = true ↔
      ∃ c : Attention, p.port.attention.has c = true ∧ p.port.attentionMask.has c = true)

/-- R191, R192: MACHINE READ ATTENTION returns the pending set and empties it; the ATTN line is then inactive. The ATTN
line is active exactly while the pending set and the enable mask share a cause, and its pin is then low; while inactive it
is released, at the board's level (a free value, log entry 48). The mask is replaced by a write of causes, refused RANGE
for a value that is none of the eleven, and read without a change. -/
def Obligations.AttentionIsReadAndMasked : Prop :=
  (∀ s : State, s.port.acceptIn = none →
     ∃ t : State, exec .machineReadAttention s = .next t ∧
       t = s.answers Header.machineReadAttention .ok s.port.attention.bytes { s.toPart with
         port := { s.port with attention := AttentionSet.empty } } ∧
       (∀ c : Attention, t.port.attention.has c = false) ∧ t.attnActive = false) ∧
  (∀ p : Part, (p.attnActive = true ↔
    ∃ c : Attention, p.port.attention.has c = true ∧ p.port.attentionMask.has c = true) ∧
    (p.attnActive = true → p.attnPinHigh = false) ∧
    (p.attnActive = false → p.attnPinHigh = Config.releasedAttnHigh)) ∧
  (∀ (causes : Half) (s : State), s.port.acceptIn = none → causes.toNat < 2 ^ 11 →
    ∃ mask : AttentionSet, mask.bytes = bytes2 causes ∧
      exec (.machineWriteAttentionMask causes) s =
        .next (s.answers Header.machineWriteAttentionMask .ok [] { s.toPart with
          port := { s.port with attentionMask := mask } })) ∧
  (∀ (causes : Half) (s : State), s.port.acceptIn = none → 2 ^ 11 ≤ causes.toNat →
    exec (.machineWriteAttentionMask causes) s = .next (s.refuses Header.machineWriteAttentionMask .range)) ∧
  ∀ s : State, s.port.acceptIn = none →
    exec .machineReadAttentionMask s =
      .next (s.answers Header.machineReadAttentionMask .ok s.port.attentionMask.bytes s.toPart)

/-- R46, R58, R95, R150, R194: a settings write out of range is refused RANGE, one while the feed is not STOPPED, a record
is in passage or the knife line is occupied is refused BUSY, and any other replaces all seventeen settings. Each that
changes is handed on, to the eye, then the gap axis, then the pressure unit (the order: log entry 8): a changed polarity
re-seats the eye; a changed lead debounce or gap filter under the same polarity tests anew what is pending, and a distance
already travelled confirms the lead or the trail at its capture or ends the discard; a change to AT_CLEAR makes the start
test; a changed idle or park pressure recomputes every lane. -/
def Obligations.WriteSettingsDecides : Prop :=
  ∀ (o : SettingsOperands) (s : State), s.port.acceptIn = none →
    (settingsOperand o = none → exec (.machineWriteSettings o) s = .next (s.refuses Header.machineWriteSettings .range)) ∧
    ∀ t : Settings, settingsOperand o = some t →
      ((s.feed.runState ≠ .stopped ∨ (∃ h ∈ s.hides, h.state = .entering ∨ h.state = .splitting) ∨
          s.feed.holds.hideAborted = true ∨ s.feed.holds.stopRecovery = true) →
        exec (.machineWriteSettings o) s = .next (s.refuses Header.machineWriteSettings .busy)) ∧
      (s.feed.runState = .stopped → (∀ h ∈ s.hides, h.state ≠ .entering ∧ h.state ≠ .splitting) →
        s.feed.holds.hideAborted = false → s.feed.holds.stopRecovery = false →
        (∀ (dark : Bool) (written toEye toGap : Part),
          dark = ((t.eyePolarity == .darkLow) != s.eye.inputHigh) →
          written = { s.toPart with settings := t } →
          toEye = (if t.eyePolarity ≠ s.settings.eyePolarity then
              { written with eye := ⟨s.eye.inputHigh, if dark = true then .discard none else .clear⟩ }
            else if t.leadDebounce = s.settings.leadDebounce ∧ t.gapFilter = s.settings.gapFilter then written
            else match s.eye.state with
              | .leadPending c => if reached (c + BitVec.ofNat 32 t.leadDebounce) s.feed.position = true
                  then confirmLead c { written with eye := ⟨s.eye.inputHigh, .body⟩ } else written
              | .tailPending c => if reached (c + BitVec.ofNat 32 t.gapFilter) s.feed.position = true
                  then confirmTrail c { written with eye := ⟨s.eye.inputHigh, .clear⟩ } else written
              | .discard (some c) => if reached (c + BitVec.ofNat 32 t.gapFilter) s.feed.position = true
                  then { written with eye := ⟨s.eye.inputHigh, .clear⟩ } else written
              | _ => written) →
          toGap = (if s.settings.gapMethod = .host ∧ t.gapMethod = .atClear then startTest toEye else toEye) →
          exec (.machineWriteSettings o) s = .next (s.thenWakes (s.answers Header.machineWriteSettings .ok
            (settingsBytes o)
            (if t.idlePressure = s.settings.idlePressure ∧ t.parkPressure = s.settings.parkPressure then toGap
              else recompute toGap)).toPart)) ∧
        ∃ u : State, exec (.machineWriteSettings o) s = .next u ∧ u.settings = t ∧
          u.port.slot = ⟨Header.machineWriteSettings, .ok, settingsBytes o⟩ ∧
          u.feed.position = s.feed.position ∧ u.lanes = s.lanes ∧ u.tuning = s.tuning ∧ u.routes = s.routes ∧
          u.eye.inputHigh = s.eye.inputHigh ∧ u.port.attentionMask = s.port.attentionMask ∧
          (t = s.settings → u = s.answers Header.machineWriteSettings .ok (settingsBytes o) s.toPart))

/-- R98, R117, R193, R194: the seventeen settings a MACHINE WRITE SETTINGS may carry, the nine lane settings and the
optional calibration of a LANE WRITE, each in its range, and the gap filter at most the throat length less 500; each
setting is the number its operand carries, or the value its code names. -/
def Obligations.SettingsHaveTheirRanges : Prop :=
  (∀ o : SettingsOperands, (settingsOperand o).isSome = true ↔
     (3000 ≤ o.throatLength.toNat ∧ o.throatLength.toNat ≤ 20000 ∧ 10000 ≤ o.maximumHideLength.toNat ∧
       o.maximumHideLength.toNat ≤ 60000 ∧ 200 ≤ o.gapFilter.toNat ∧ o.gapFilter.toNat ≤ 3000 ∧
       20 ≤ o.leadDebounce.toNat ∧ o.leadDebounce.toNat ≤ 500 ∧ 200 ≤ o.approachMargin.toNat ∧
       o.approachMargin.toNat ≤ 5000 ∧ o.eyePolarity.toNat ≤ 1 ∧ o.unannouncedPolicy.toNat ≤ 1 ∧
       50 ≤ o.idleFeedSpeed.toNat ∧ o.idleFeedSpeed.toNat ≤ 400 ∧ o.idlePressure.toNat ≤ 600 ∧
       o.parkPressure.toNat ≤ 600 ∧ 2 ≤ o.scanPeriod.toNat ∧ o.scanPeriod.toNat ≤ 20 ∧ o.gapMethod.toNat ≤ 1 ∧
       2 ≤ o.defaultGapTolerance.toNat ∧ o.defaultGapTolerance.toNat ≤ 50 ∧ 5 ≤ o.gapMoveTimeout.toNat ∧
       o.gapMoveTimeout.toNat ≤ 200 ∧ 1 ≤ o.selectTimeout.toNat ∧ 4 ≤ o.sessionFrameLimit.toNat ∧
       o.sessionFrameLimit.toNat ≤ 16 ∧ 1 ≤ o.releaseInterval.toNat ∧
       o.gapFilter.toNat + 500 ≤ o.throatLength.toNat)) ∧
  (∀ (o : SettingsOperands) (t : Settings), settingsOperand o = some t → t =
    { throatLength := o.throatLength.toNat
      maximumHideLength := o.maximumHideLength.toNat
      gapFilter := o.gapFilter.toNat
      leadDebounce := o.leadDebounce.toNat
      approachMargin := o.approachMargin.toNat
      eyePolarity := if o.eyePolarity = 0 then .darkHigh else .darkLow
      unannouncedPolicy := if o.unannouncedPolicy = 0 then .refuse else .adopt
      idleFeedSpeed := o.idleFeedSpeed.toNat
      idlePressure := o.idlePressure.toNat
      parkPressure := o.parkPressure.toNat
      scanPeriod := o.scanPeriod.toNat
      gapMethod := if o.gapMethod = 0 then .atClear else .host
      defaultGapTolerance := o.defaultGapTolerance.toNat
      gapMoveTimeout := o.gapMoveTimeout.toNat
      selectTimeout := o.selectTimeout.toNat
      sessionFrameLimit := o.sessionFrameLimit.toNat
      releaseInterval := o.releaseInterval.toNat }) ∧
  (∀ o : LaneSettingsOperands, (laneSettingsOperand o).isSome = true ↔
    (8 ≤ o.contactThreshold.toNat ∧ o.contactThreshold.toNat ≤ 1024 ∧ 1 ≤ o.enterDebounce.toNat ∧
      o.enterDebounce.toNat ≤ 15 ∧ 1 ≤ o.exitDebounce.toNat ∧ o.exitDebounce.toNat ≤ 15 ∧
      256 ≤ o.bottomLimit.toNat ∧ o.bottomLimit.toNat ≤ 4095 ∧
      (o.contactLimit.toNat = 0 ∨ 5000 ≤ o.contactLimit.toNat ∧ o.contactLimit.toNat ≤ 80000) ∧
      2 ≤ o.referenceBeta.toNat ∧ o.referenceBeta.toNat ≤ 12 ∧ 1 ≤ o.fastBeta.toNat ∧ o.fastBeta.toNat ≤ 8 ∧
      o.haltEnable.toNat ≤ 1)) ∧
  (∀ (o : LaneSettingsOperands) (t : LaneSettings), laneSettingsOperand o = some t → t =
    { contactThreshold := o.contactThreshold.toNat
      hysteresis := o.hysteresis.toNat
      enterDebounce := o.enterDebounce.toNat
      exitDebounce := o.exitDebounce.toNat
      bottomLimit := o.bottomLimit.toNat
      contactLimit := o.contactLimit.toNat
      referenceBeta := o.referenceBeta.toNat
      fastBeta := o.fastBeta.toNat
      haltEnable := o.haltEnable = 1 }) ∧
  ∀ o : CalibrationOperands,
    (o.present.toNat = 0 → calibrationOperand o = some none) ∧
    (o.present.toNat = 1 → 1 ≤ o.gain.toNat → o.gain.toNat ≤ 16 → o.offset.toNat ≤ 1023 →
      calibrationOperand o = some (some ⟨o.gain.toNat, o.offset.toNat⟩)) ∧
    (2 ≤ o.present.toNat → calibrationOperand o = none) ∧
    (o.present.toNat = 1 → (o.gain.toNat = 0 ∨ 16 < o.gain.toNat ∨ 1023 < o.offset.toNat) →
      calibrationOperand o = none)

/-! ## Resets -/

/-- R19, R44, R60, R77, R96, R119, R138, R151, R169, R184, R196: what POWER_ON and RESET_PIN leave, alike. The hide and
article tables are empty, with no unbound edge and next ticket 1; every lane waits to be driven, and the arbiter test made
as the reset completes has selected B0, with the select timer armed and no echo due (R158, R169); frames are accepted 2 ms
later; ATTN is active with its pin low. The pair cursor, frame count and session limit (log entry 36), the count of jack
orders (log entry 20), the empty record of bytes shifted out (log entry 5), the ticks of 10 us (log entry 2), the
free-value counter, which goes on (log entry 3), and the levels on the encoder pair, which stay (log entry 41), are the
model's; State.reset is the value at power-on with a light eye, a released STOP line (log entry 6) and both encoder
channels low. -/
def Obligations.FullResetGivesPowerOnValues : Prop :=
  ∀ (c : Instr) (eyeHigh stopAsserted : Bool) (s : State),
    c = .powerOn eyeHigh stopAsserted ∨ c = .resetPin eyeHigh stopAsserted →
    ∃ t : State, exec c s = .next t ∧ t.hides = [] ∧ t.unbound = none ∧ t.nextTicket = 1 ∧ t.articles = [] ∧
      t.eye = ⟨eyeHigh, if eyeHigh = true then .discard none else .clear⟩ ∧ t.encoder = s.encoder ∧
      t.feed.position = 0 ∧ t.feed.backwardRun = 0 ∧ t.feed.runState = .stopped ∧ t.feed.stopLine = stopAsserted ∧
      (∀ h : HoldCause, t.feed.holds.has h = (stopAsserted && (decide (h = .stopLine) || decide (h = .stopRecovery)))) ∧
      t.gap.state = .stale ∧ t.gap.active = none ∧ t.gap.staged = none ∧ t.gap.target = none ∧ t.gap.lastPair = none ∧
      t.gap.settle = 0 ∧ t.gap.moveTimer = none ∧ t.gap.excursionRun = false ∧ t.gap.applyPending = false ∧
      t.gap.jackOrder = .halt ∧ t.gap.jackOrders = 1 ∧
      (∀ n : LaneNo, t.lane n =
        { service := .inService, tune := .untuned, contact := .empty, lastRaw := 0, lastConditioned := 0, reference := 0
          seedPending := false, enterCount := 0, exitCount := 0, distance := 0, railCount := 0, calibration := ⟨16, 0⟩
          settings := ⟨64, 16, 3, 3, 3600, 0, 8, 4, true⟩ }) ∧ t.scanPeriod = 5 ∧
      t.tuning.batch = none ∧ (∀ n : LaneNo, t.laneTuning n = ⟨⟨.full, 2048, 512, 10, false, 30⟩, false, none⟩) ∧
      (∀ n : LaneNo, t.wanted n = 40) ∧ t.pressure.stopLevel = stopAsserted ∧
      t.bus.master = .selecting 0 ∧ (∀ b : BoardNo, t.bus.boards[b.val] = .unknown) ∧
      (∀ n : LaneNo, t.drive n = ⟨.waiting, none, 0⟩) ∧ t.bus.resetDrain = false ∧ t.bus.pointer = 0 ∧
      t.bus.cursor = 0 ∧ t.bus.frameCount = 0 ∧ t.bus.sessionLimit = 0 ∧ t.bus.selectTimer = some 200 ∧
      t.bus.releaseTimer = none ∧ t.bus.dueNext = none ∧ t.bus.dueAfter = none ∧
      (∀ i : Fin 16, t.routes[i.val] = ⟨false, .event .laneContactOn, .lanes 0, .attend⟩) ∧
      (∀ i : Fin 4, t.line i = ⟨.routed, .pushPull, false, false, none⟩) ∧
      (∀ i : Fin 4, t.tallies[i.val] = ⟨0, 0, .running, false, false, false⟩) ∧
      t.port.slot = ⟨0, .none, []⟩ ∧ (∀ a : Attention, t.port.attention.has a = decide (a = .restarted)) ∧
      (∀ a : Attention, t.port.attentionMask.has a = true) ∧ t.attnActive = true ∧ t.attnPinHigh = false ∧
      t.port.acceptIn = some 200 ∧ t.port.shiftedOut = [] ∧
      t.settings = ⟨8500, 40000, 600, 50, 1500, .darkHigh, .refuse, 100, 80, 40, 5, .atClear, 5, 80, 20, 8, 4⟩ ∧
      t.freeCount = s.freeCount ∧
      (eyeHigh = false → stopAsserted = false → s.freeCount = 0 → s.encoder = ⟨false, false⟩ → s.pending = [] →
        t = State.reset)

/-- R21, R45, R60, R77, R96, R120, R133, R138, R152, R170, R184, R195: what MACHINE RESET keeps and clears. The hide table
is emptied and the next ticket is 1; the article table keeps its ACTIVE records, unpinned; settings, routes, tallies, tune
settings, lane calibrations, the attention mask and the feed position are kept; RESTARTED alone is pending. The axis is
STALE with no target and a halt order where it was MOVING, and then, under AT_CLEAR over an unoccupied knife line, moves
to a staged gap (jackOrders: log entry 20). A running batch ends, its unfinished members take their saved values back, and
the record of the last batch, its origin and members, is kept. Driven
lanes not in flight wait, their applied values kept; a selection is released, a session drained, and an IDLE master makes
the arbiter test once (log entry 15); with no echo due the drain ends at once (log entry 37). -/
def Obligations.MachineResetKeepsAndClears : Prop :=
  ∀ s : State, s.port.acceptIn = none →
    ∃ t : State, exec .machineReset s = .next t ∧
      t.hides = [] ∧ t.nextTicket = 1 ∧ t.unbound = none ∧
      t.articles = (s.articles.filter fun a => a.state == .active).map (fun a => { a with pins := 0 }) ∧
      t.eye = ⟨s.eye.inputHigh, if s.eyeDark = true then .discard none else .clear⟩ ∧ t.encoder = s.encoder ∧
      t.feed = ⟨s.feed.position, 0, .stopped,
        { HoldSet.empty with stopLine := s.feed.stopLine, stopRecovery := s.feed.stopLine }, s.feed.stopLine⟩ ∧
      t.gap.active = s.gap.active ∧ t.gap.staged = s.gap.staged ∧ t.gap.lastPair = s.gap.lastPair ∧
      t.gap.excursionRun = false ∧ t.gap.applyPending = false ∧ t.gap.settle = 0 ∧
      (∀ g : GapTol, s.settings.gapMethod = .atClear → s.feed.stopLine = false → s.gap.staged = some g →
        t.gap.state = .moving ∧ t.gap.target = some g ∧ t.gap.moveTimer = some (s.settings.gapMoveTimeout * 10000) ∧
        t.gap.jackOrder = .target g.gap ∧
        t.gap.jackOrders = s.gap.jackOrders + (if s.gap.state = .moving then 2 else 1)) ∧
      (¬(s.settings.gapMethod = .atClear ∧ s.feed.stopLine = false ∧ s.gap.staged.isSome = true) →
        t.gap.state = .stale ∧ t.gap.target = none ∧ t.gap.moveTimer = none ∧
        t.gap.jackOrder = (if s.gap.state = .moving then .halt else s.gap.jackOrder) ∧
        t.gap.jackOrders = s.gap.jackOrders + (if s.gap.state = .moving then 1 else 0)) ∧
      (∀ n : LaneNo, (t.lane n).contact = .empty ∧ (t.lane n).enterCount = 0 ∧ (t.lane n).exitCount = 0 ∧
        (t.lane n).distance = 0 ∧ (t.lane n).railCount = 0 ∧ (t.lane n).service = (s.lane n).service ∧
        (t.lane n).settings = (s.lane n).settings ∧ (t.lane n).lastRaw = (s.lane n).lastRaw ∧
        (t.lane n).lastConditioned = (s.lane n).lastConditioned ∧
        (t.laneTuning n) = ⟨(s.laneTuning n).settings, false, none⟩) ∧
      t.batchRunning = false ∧ (s.tuning.batch = none → t.tuning.batch = none) ∧
      (∀ b : Batch, s.tuning.batch = some b → (b.running = false → t.tuning.batch = some b) ∧
        (b.running = true → ∃ ended : Batch, t.tuning.batch = some ended ∧ ended.running = false ∧
          ended.origin = b.origin ∧ ended.members.map (·.lane) = b.members.map (·.lane) ∧
          ∀ m ∈ ended.members, m.phase = .finished)) ∧
      (∀ n : LaneNo, (∀ (b : Batch) (m : Member), s.tuning.batch = some b → b.running = true → m ∈ b.members →
          m.lane = n → m.phase = .finished) →
        (t.lane n).tune = (s.lane n).tune ∧ (t.lane n).calibration = (s.lane n).calibration ∧
        (t.lane n).reference = (s.lane n).reference ∧ (t.lane n).seedPending = (s.lane n).seedPending) ∧
      (∀ (b : Batch) (m : Member) (v : Saved), s.tuning.batch = some b → b.running = true →
        (b.members.map (·.lane)).Nodup → m ∈ b.members → m.phase ≠ .finished → m.saved = some v →
        (t.lane m.lane).tune = v.tune ∧ (t.lane m.lane).calibration = v.calibration ∧
        (t.lane m.lane).reference = v.reference ∧ (t.lane m.lane).seedPending = v.seedPending) ∧
      t.pressure.stopLevel = s.feed.stopLine ∧
      (∀ n : LaneNo, t.wanted n =
        if s.feed.stopLine = false ∧ (t.lane n).service = .inService ∧ (t.lane n).tune = .tuned
          then s.settings.idlePressure else s.settings.parkPressure) ∧
      (∀ b : BoardNo, t.bus.boards[b.val] = match s.bus.boards[b.val] with
        | .faulted k => .faulted k
        | _ => .unknown) ∧
      (∀ n : LaneNo, ((∃ v, (s.drive n).state = .inFlight v) → t.drive n = s.drive n) ∧
        ((∀ v, (s.drive n).state ≠ .inFlight v) →
          ((s.lane n).service ≠ .faulted .drive → (s.lane n).service ≠ .faulted .board →
            t.drive n = ⟨.waiting, (s.drive n).applied, 0⟩) ∧
          (((s.lane n).service = .faulted .drive ∨ (s.lane n).service = .faulted .board) →
            (t.drive n).applied = (s.drive n).applied ∧ (t.drive n).retry = (s.drive n).retry))) ∧
      (s.bus.master ≠ .idle → t.bus.pointer = s.bus.pointer) ∧
      (s.bus.master = .releasing → t.bus.master = .releasing ∧ t.bus.releaseTimer = s.bus.releaseTimer) ∧
      (∀ b : BoardNo, s.bus.master = .selecting b → t.bus.master = .releasing ∧ t.bus.selectTimer = none ∧
        t.bus.releaseTimer = some s.settings.releaseInterval) ∧
      (∀ b : BoardNo, (s.bus.master = .opened b ∨ s.bus.master = .draining b) →
        (s.bus.dueNext.isSome = true ∨ s.bus.dueAfter.isSome = true → t.bus.master = .draining b ∧
          t.bus.resetDrain = true ∧ t.bus.dueNext = s.bus.dueNext ∧ t.bus.dueAfter = s.bus.dueAfter) ∧
        (s.bus.dueNext = none → s.bus.dueAfter = none → t.bus.master = .releasing ∧ t.bus.resetDrain = false ∧
          t.bus.releaseTimer = some s.settings.releaseInterval)) ∧
      (∀ work : BoardNo → Bool,
        (∀ b : BoardNo, work b = true ↔ (∀ k, t.bus.boards[b.val] ≠ .faulted k) ∧ ∃ n : LaneNo, n.val / 8 = b.val ∧
          (t.drive n).state = .waiting ∧ (s.lane n).service ≠ .faulted .drive ∧
          (s.lane n).service ≠ .faulted .board) →
        s.bus.master = .idle →
        ((∀ b : BoardNo, work b = false) → t.bus.master = .idle ∧ t.bus.pointer = s.bus.pointer) ∧
        ∀ b : BoardNo, [s.bus.pointer + 1, s.bus.pointer + 2, s.bus.pointer + 3, s.bus.pointer].find? work = some b →
          t.bus.master = .selecting b ∧ t.bus.pointer = b ∧
          t.bus.selectTimer = some (s.settings.selectTimeout * 10)) ∧
      t.routes = s.routes ∧ t.tallies = s.tallies ∧
      (∀ i : Fin 4, t.line i = { s.line i with latched := false, pulse := none }) ∧
      t.settings = s.settings ∧ t.scanPeriod = s.scanPeriod ∧ t.port.attentionMask = s.port.attentionMask ∧
      (∀ a : Attention, t.port.attention.has a = decide (a = .restarted)) ∧
      t.port.slot = ⟨Header.machineReset, .ok, []⟩

/-! ## Articles -/

/-- R2: the nine plan fields, each checked against its own range alone, and each the number its operand carries. -/
def Obligations.PlanFieldsHaveTheirRanges : Prop :=
  ∀ o : PlanOperands,
    ((planOperand o).isSome = true ↔
      (50 ≤ o.splitGap.toNat ∧ o.splitGap.toNat ≤ 800 ∧ 2 ≤ o.gapTolerance.toNat ∧ o.gapTolerance.toNat ≤ 50 ∧
        50 ≤ o.feedSpeed.toNat ∧ o.feedSpeed.toNat ≤ 400 ∧ o.basePressure.toNat ≤ 600 ∧ o.edgeRelief.toNat ≤ 300 ∧
        o.bottomRelief.toNat ≤ 300 ∧ o.bridgeBoost.toNat ≤ 200 ∧ 1 ≤ o.edgeBand.toNat ∧ o.edgeBand.toNat ≤ 3 ∧
        o.rejectLimit.toNat ≤ 1023)) ∧
    ∀ f : PlanFields, planOperand o = some f → f =
      { splitGap := o.splitGap.toNat
        gapTolerance := o.gapTolerance.toNat
        feedSpeed := o.feedSpeed.toNat
        basePressure := o.basePressure.toNat
        edgeRelief := o.edgeRelief.toNat
        bottomRelief := o.bottomRelief.toNat
        bridgeBoost := o.bridgeBoost.toNat
        edgeBand := o.edgeBand.toNat
        rejectLimit := o.rejectLimit.toNat }

/-- R5 to R9: ARTICLE WRITE in the order of R6. A refused write changes nothing; a write to an ACTIVE code replaces the
plan fields and the mark and keeps state, pins and counters; a write to a new code creates an ACTIVE record with pins
and counters 0; a requested mark leaves every other record. -/
def Obligations.ArticleWriteDecides : Prop :=
  ∀ (code : Half) (plan : PlanOperands) (mark : Byte) (s : State), s.port.acceptIn = none →
    ((code = 0 ∨ code = 65535 ∨ planOperand plan = none ∨ yesNo mark = none) →
      exec (.articleWrite code plan mark) s = .next (s.refuses Header.articleWrite .range)) ∧
    ∀ (fields : PlanFields) (marked : Bool), code ≠ 0 → code ≠ 65535 → planOperand plan = some fields →
      yesNo mark = some marked →
      (∀ a : Plan, s.plan? code.toNat = some a → a.state = .retiring →
        exec (.articleWrite code plan mark) s = .next (s.refuses Header.articleWrite .retiring)) ∧
      (∀ a : Plan, s.plan? code.toNat = some a → a.state = .active →
        ∃ p : Part, exec (.articleWrite code plan mark) s = .next (s.answers Header.articleWrite .ok
            ({ a with fields := fields, mark := marked }.bytes ++ [0]) p) ∧
          p = { s.toPart with articles := p.articles } ∧
          p.plan? code.toNat = some { a with fields := fields, mark := marked } ∧
          ∀ other : Nat, other ≠ code.toNat →
            p.plan? other = (s.plan? other).map fun b => { b with mark := b.mark && !marked }) ∧
      (s.plan? code.toNat = none → 64 ≤ s.articles.length →
        exec (.articleWrite code plan mark) s = .next (s.refuses Header.articleWrite .full)) ∧
      (s.plan? code.toNat = none → s.articles.length < 64 →
        ∃ p : Part, exec (.articleWrite code plan mark) s = .next (s.answers Header.articleWrite .ok
            ((⟨code.toNat, fields, .active, marked, 0, 0, 0⟩ : Plan).bytes ++ [1]) p) ∧
          p = { s.toPart with articles := p.articles } ∧
          p.plan? code.toNat = some ⟨code.toNat, fields, .active, marked, 0, 0, 0⟩ ∧
          ∀ other : Nat, other ≠ code.toNat →
            p.plan? other = (s.plan? other).map fun b => { b with mark := b.mark && !marked })

/-- R12 to R14: ARTICLE RETIRE in the order of R12. An unpinned ACTIVE record is removed with no ARTICLE_GONE; a pinned
one becomes RETIRING and loses the mark; the reply carries the code and the pins still standing. -/
def Obligations.ArticleRetireDecides : Prop :=
  ∀ (code : Half) (s : State), s.port.acceptIn = none →
    ((code = 0 ∨ code = 65535) → exec (.articleRetire code) s = .next (s.refuses Header.articleRetire .range)) ∧
    (code ≠ 0 → code ≠ 65535 →
      (s.plan? code.toNat = none → exec (.articleRetire code) s = .next (s.refuses Header.articleRetire .notFound)) ∧
      ∀ a : Plan, s.plan? code.toNat = some a →
        (a.state = .retiring → exec (.articleRetire code) s =
          .next (s.answers Header.articleRetire .pending (bytes2 code ++ u8 a.pins) s.toPart)) ∧
        (a.state = .active → a.pins = 0 →
          ∃ p : Part, exec (.articleRetire code) s =
              .next (s.answers Header.articleRetire .ok (bytes2 code ++ [0]) p) ∧
            p = { s.toPart with articles := p.articles } ∧ p.plan? code.toNat = none ∧
            ∀ other : Nat, other ≠ code.toNat → p.plan? other = s.plan? other) ∧
        (a.state = .active → a.pins ≠ 0 →
          ∃ p : Part, exec (.articleRetire code) s =
              .next (s.answers Header.articleRetire .pending (bytes2 code ++ u8 a.pins) p) ∧
            p = { s.toPart with articles := p.articles } ∧
            p.plan? code.toNat = some { a with state := .retiring, mark := false } ∧
            ∀ other : Nat, other ≠ code.toNat → p.plan? other = s.plan? other))

/-! ## Hides -/

/-- R15, R23, R25: HIDE ANNOUNCE in the order of R25. With no unbound edge the record is ANNOUNCED at the tail with the
next ticket, and its article, the default one for code 0, gains a pin; a refusal changes nothing. The ticket is the first
value from the next-ticket counter's on, counting up with 65535 passing to 1, that no record of the table holds: every
value passed over is a record's. It is 1 to 65535. -/
def Obligations.HideAnnounceDecides : Prop :=
  (∀ (tag : Word) (code : Half) (s : State), s.port.acceptIn = none →
     (code = 65535 → exec (.hideAnnounce tag code) s = .next (s.refuses Header.hideAnnounce .range)) ∧
     (code ≠ 65535 → 8 ≤ s.hides.length →
       exec (.hideAnnounce tag code) s = .next (s.refuses Header.hideAnnounce .full)) ∧
     (code ≠ 65535 → s.hides.length < 8 →
       ((if code = 0 then s.articles.find? (·.mark) else s.plan? code.toNat) = none →
         exec (.hideAnnounce tag code) s = .next (s.refuses Header.hideAnnounce .notFound)) ∧
       ∀ a : Plan, (if code = 0 then s.articles.find? (·.mark) else s.plan? code.toNat) = some a →
         (a.state = .retiring → exec (.hideAnnounce tag code) s = .next (s.refuses Header.hideAnnounce .retiring)) ∧
         (a.state = .active → s.unbound = none →
           exec (.hideAnnounce tag code) s = .next (s.answers Header.hideAnnounce .ok
             (u16 s.ticket ++ u16 a.code ++ [1]) { s.toPart with
               hides := s.hides ++ [newHide s.ticket tag a.code false]
               nextTicket := nextTicketAfter s.ticket
               articles := s.articles.map fun b => if b.code == a.code then { b with pins := b.pins + 1 } else b })))) ∧
  ∀ p : Part, 1 ≤ p.nextTicket → p.nextTicket ≤ 65535 → p.hides.length ≤ 8 →
    1 ≤ p.ticket ∧ p.ticket ≤ 65535 ∧ (∀ h ∈ p.hides, h.ticket ≠ p.ticket) ∧
    (∃ skipped : Nat, skipped ≤ p.hides.length ∧ p.ticket = nextTicketAfter^[skipped] p.nextTicket ∧
      ∀ j : Nat, j < skipped → ∃ h ∈ p.hides, h.ticket = nextTicketAfter^[j] p.nextTicket) ∧
    ((∀ h ∈ p.hides, h.ticket ≠ p.nextTicket) → p.ticket = p.nextTicket) ∧
    (1 ≤ nextTicketAfter p.ticket ∧ nextTicketAfter p.ticket ≤ 65535) ∧
    nextTicketAfter 65535 = 1 ∧ (∀ t : Nat, t < 65535 → nextTicketAfter t = t + 1) ∧
    ∀ (ticket article : Nat) (tag : Word) (unannounced : Bool), newHide ticket tag article unannounced =
      { ticket := ticket, tag := tag, article := article, state := .announced, unannounced := unannounced
        overlength := false, gapUnsettled := false, lead := none, trail := none, snapshot := none, coverage := none
        bottomEvents := 0, gapExcursions := 0, verdict := none, abortCause := none, approachReached := false
        waiting := false }

/-- R25, R30: with an unbound edge waiting, the announced record is bound to it: the edge is gone, UNBOUND_EDGE is
removed, and the record has the edge's lead, its trail if it carries one, and a snapshot of its article, with the hand-ons
of a binding (`bindHide`). The reply gives the state ENTERING, whatever marks the record crosses in the same step: the
model's reading of R25 (log entry 38). -/
def Obligations.HideAnnounceBindsUnboundEdge : Prop :=
  ∀ (tag : Word) (code : Half) (a : Plan) (edge : UnboundEdge) (s : State), s.port.acceptIn = none →
    code ≠ 65535 → s.hides.length < 8 → (∀ h ∈ s.hides, h.ticket ≠ s.ticket) →
    (if code = 0 then s.articles.find? (·.mark) else s.plan? code.toNat) = some a → a.state = .active →
    s.plan? a.code = some a → s.unbound = some edge →
    (∀ created : Part, created = { s.toPart with
        hides := s.hides ++ [newHide s.ticket tag a.code false]
        nextTicket := nextTicketAfter s.ticket
        articles := s.articles.map fun b => if b.code == a.code then { b with pins := b.pins + 1 } else b
        unbound := none
        feed := { s.feed with holds := { s.feed.holds with unboundEdge := false } } } →
      exec (.hideAnnounce tag code) s = .next (s.thenWakes (s.answers Header.hideAnnounce .ok
        (u16 s.ticket ++ u16 a.code ++ [2]) (bindHide s.ticket edge.lead edge.trail created)).toPart)) ∧
    ∃ t : State, exec (.hideAnnounce tag code) s = .next t ∧ t.unbound = none ∧
      t.feed.holds.unboundEdge = false ∧
      t.port.slot = ⟨Header.hideAnnounce, .ok, u16 s.ticket ++ u16 a.code ++ [2]⟩ ∧
      ∃ h : Hide, t.hide? s.ticket = some h ∧ h.tag = tag ∧ h.article = a.code ∧ h.lead = some edge.lead ∧
        h.trail = edge.trail ∧ h.snapshot = some a.fields ∧ h.state ≠ .announced

/-- R16, R26: HIDE AMEND in the order of R26. The new claim is made before the old release, which may remove a RETIRING
plan with ARTICLE_GONE; an amend to the same plan leaves its pins. -/
def Obligations.HideAmendDecides : Prop :=
  ∀ (ticket : Half) (tag : Word) (code : Half) (s : State), s.port.acceptIn = none →
    (code = 65535 → exec (.hideAmend ticket tag code) s = .next (s.refuses Header.hideAmend .range)) ∧
    (code ≠ 65535 → s.hide? ticket.toNat = none →
      exec (.hideAmend ticket tag code) s = .next (s.refuses Header.hideAmend .notFound)) ∧
    ∀ h : Hide, code ≠ 65535 → s.hide? ticket.toNat = some h →
      (h.state ≠ .announced → exec (.hideAmend ticket tag code) s = .next (s.refuses Header.hideAmend .state)) ∧
      (h.state = .announced →
        ((if code = 0 then s.articles.find? (·.mark) else s.plan? code.toNat) = none →
          exec (.hideAmend ticket tag code) s = .next (s.refuses Header.hideAmend .notFound)) ∧
        ∀ a : Plan, (if code = 0 then s.articles.find? (·.mark) else s.plan? code.toNat) = some a →
          (a.state = .retiring →
            exec (.hideAmend ticket tag code) s = .next (s.refuses Header.hideAmend .retiring)) ∧
          (a.state = .active → s.plan? a.code = some a → ∀ b : Plan, s.plan? h.article = some b →
            ∃ p : Part, exec (.hideAmend ticket tag code) s =
                .next (s.answers Header.hideAmend .ok (bytes2 ticket ++ u16 a.code) p) ∧
              p = { s.toPart with hides := p.hides, articles := p.articles, port := p.port } ∧
              p.hides = s.hides.map (fun x =>
                if x.ticket = ticket.toNat then { x with tag := tag, article := a.code } else x) ∧
              (∀ other : Nat, other ≠ a.code → other ≠ h.article → p.plan? other = s.plan? other) ∧
              (a.code = h.article → p.plan? a.code = some a ∧ p.port = s.port) ∧
              (a.code ≠ h.article → p.plan? a.code = some { a with pins := a.pins + 1 } ∧
                (b.state = .active ∨ b.pins - 1 ≠ 0 →
                  p.plan? h.article = some { b with pins := b.pins - 1 } ∧ p.port = s.port) ∧
                (b.state = .retiring → b.pins - 1 = 0 → p.plan? h.article = none ∧
                  p.port = { s.port with attention := { s.port.attention with articleGone := true } }))))

/-- R16, R27: HIDE RETIRE refuses a record in passage BUSY and an unknown ticket NOT_FOUND; otherwise the record leaves
the table and its pin is released, which may remove a RETIRING plan with ARTICLE_GONE. -/
def Obligations.HideRetireDecides : Prop :=
  ∀ (ticket : Half) (s : State), s.port.acceptIn = none →
    (s.hide? ticket.toNat = none →
      exec (.hideRetire ticket) s = .next (s.refuses Header.hideRetire .notFound)) ∧
    ∀ h : Hide, s.hide? ticket.toNat = some h →
      (h.state = .entering ∨ h.state = .splitting →
        exec (.hideRetire ticket) s = .next (s.refuses Header.hideRetire .busy)) ∧
      (h.state ≠ .entering → h.state ≠ .splitting → ∀ b : Plan, s.plan? h.article = some b →
        ∃ p : Part, exec (.hideRetire ticket) s =
            .next (s.answers Header.hideRetire .ok (bytes2 ticket ++ u8 h.state.code) p) ∧
          p = { s.toPart with hides := p.hides, articles := p.articles, port := p.port } ∧
          p.hides = s.hides.filter (fun x => x.ticket ≠ ticket.toNat) ∧
          (∀ other : Nat, other ≠ h.article → p.plan? other = s.plan? other) ∧
          (b.state = .active ∨ b.pins - 1 ≠ 0 →
            p.plan? h.article = some { b with pins := b.pins - 1 } ∧ p.port = s.port) ∧
          (b.state = .retiring → b.pins - 1 = 0 → p.plan? h.article = none ∧
            p.port = { s.port with attention := { s.port.attention with articleGone := true } }))

/-- R18, R24, R33, R42, R91, R180: HIDE ABORT of an ANNOUNCED record makes it ABORTED with cause HOST, counts it on its
article, raises HIDE_ABORTED and adds no hold. Of a record in passage it also adds the hold HIDE_ABORTED and, of the
SPLITTING one, ends the excursion run and clears the PER_HIDE tallies before the event (log entry 9); after the event the
oldest waiting record is promoted, the gap axis decides, every lane is recomputed and STOPPING_AT_CLEAR is tested, in the
order of log entry 31. A CLEARED or ABORTED record is refused STATE, an unknown ticket NOT_FOUND. -/
def Obligations.HideAbortDecides : Prop :=
  ∀ (ticket : Half) (s : State), s.port.acceptIn = none →
    (s.hide? ticket.toNat = none → exec (.hideAbort ticket) s = .next (s.refuses Header.hideAbort .notFound)) ∧
    ∀ h : Hide, s.hide? ticket.toNat = some h →
      (h.state = .cleared ∨ h.state = .aborted →
        exec (.hideAbort ticket) s = .next (s.refuses Header.hideAbort .state)) ∧
      (h.state = .announced → exec (.hideAbort ticket) s = .next (s.answers Header.hideAbort .ok []
        (stopAtClearTest (raise (.hideAborted h.ticket h.article) { s.toPart with
          hides := s.hides.map fun x => if x.ticket == h.ticket then { x with
            state := .aborted, abortCause := some .host, approachReached := false, waiting := false } else x
          articles := s.articles.map fun b =>
            if b.code == h.article then { b with aborted := b.aborted + 1 } else b })))) ∧
      (h.state = .entering ∨ h.state = .splitting → ∀ aborted : Part, aborted = { s.toPart with
          hides := s.hides.map fun x => if x.ticket == h.ticket then { x with
            state := .aborted, abortCause := some .host, approachReached := false, waiting := false } else x
          articles := s.articles.map fun b => if b.code == h.article then { b with aborted := b.aborted + 1 } else b
          gap := if h.state = .splitting then { s.gap with excursionRun := false } else s.gap
          tallies := if h.state = .splitting
            then s.tallies.map fun k => if k.scope = .perHide then { k with count := 0 } else k else s.tallies
          feed := { s.feed with holds := { s.feed.holds with hideAborted := true } } } →
        exec (.hideAbort ticket) s = .next (s.thenWakes (s.answers Header.hideAbort .ok [] (stopAtClearTest (recompute
          (gapHandOn (promoteWaiting (raise (.hideAborted h.ticket h.article) aborted)))))).toPart)) ∧
      (h.state = .entering ∨ h.state = .splitting → (s.hides.map (·.ticket)).Nodup →
        ∃ t : State, exec (.hideAbort ticket) s = .next t ∧
          t.port.slot = ⟨Header.hideAbort, .ok, []⟩ ∧ t.feed.holds.hideAborted = true ∧
          t.hide? ticket.toNat = some { h with
            state := .aborted, abortCause := some .host, approachReached := false, waiting := false } ∧
          t.articles = s.articles.map (fun b =>
            if b.code == h.article then { b with aborted := b.aborted + 1 } else b) ∧
          t.feed.position = s.feed.position ∧ t.eye = s.eye ∧ t.unbound = s.unbound ∧ t.lanes = s.lanes ∧
          t.tuning = s.tuning ∧ t.settings = s.settings ∧ t.routes = s.routes)

/-- R10, R11, R39 to R41: ARTICLE READ returns the record of a code, code 0 the default article; ARTICLE FIND NEXT the
record of the smallest code above the one given, code 0 being plain there; HIDE READ and HIDE FIND a record, HIDE FIND
the oldest in table order with the tag; an absent record gives NOT_FOUND; HIDE LIST the count with ticket and state of
each record. None changes a table. The bytes of an article record and of a hide record are those of chapter 12, in 27 and
41 bytes. -/
def Obligations.TableReadsFindTheirRecords : Prop :=
  (∀ (code : Half) (s : State), s.port.acceptIn = none →
     (∀ a : Plan, (if code = 0 then s.articles.find? (·.mark) else s.articles.find? (·.code == code.toNat)) = some a →
       exec (.articleRead code) s = .next (s.answers Header.articleRead .ok a.bytes s.toPart)) ∧
     ((if code = 0 then s.articles.find? (·.mark) else s.articles.find? (·.code == code.toNat)) = none →
       exec (.articleRead code) s = .next (s.refuses Header.articleRead .notFound)) ∧
     (s.articles.Pairwise (fun a b => a.code < b.code) →
       (∀ a ∈ s.articles, code.toNat < a.code → (∀ b ∈ s.articles, code.toNat < b.code → a.code ≤ b.code) →
         exec (.articleFindNext code) s = .next (s.answers Header.articleFindNext .ok a.bytes s.toPart)) ∧
       ((∀ b ∈ s.articles, b.code ≤ code.toNat) →
         exec (.articleFindNext code) s = .next (s.refuses Header.articleFindNext .notFound)))) ∧
  (∀ s : State, s.port.acceptIn = none →
    (∀ ticket : Half, s.hide? ticket.toNat = none →
      exec (.hideRead ticket) s = .next (s.refuses Header.hideRead .notFound)) ∧
    (∀ (ticket : Half) (h : Hide), s.hide? ticket.toNat = some h →
      exec (.hideRead ticket) s = .next (s.answers Header.hideRead .ok h.bytes s.toPart)) ∧
    (∀ tag : Word, (∀ h ∈ s.hides, h.tag ≠ tag) →
      exec (.hideFind tag) s = .next (s.refuses Header.hideFind .notFound)) ∧
    (∀ (tag : Word) (before after : List Hide) (h : Hide), s.hides = before ++ h :: after → h.tag = tag →
      (∀ x ∈ before, x.tag ≠ tag) →
      exec (.hideFind tag) s = .next (s.answers Header.hideFind .ok h.bytes s.toPart)) ∧
    exec .hideList s = .next (s.answers Header.hideList .ok
      (u8 s.hides.length ++ s.hides.flatMap fun h => u16 h.ticket ++ u8 h.state.code) s.toPart)) ∧
  (∀ f : PlanFields, f.bytes = u16 f.splitGap ++ u8 f.gapTolerance ++ u16 f.feedSpeed ++ u16 f.basePressure ++
    u16 f.edgeRelief ++ u16 f.bottomRelief ++ u8 f.bridgeBoost ++ u8 f.edgeBand ++ u16 f.rejectLimit) ∧
  (∀ a : Plan, a.bytes.length = 27 ∧ a.bytes = u16 a.code ++ [flagByte [a.state == .retiring, a.mark]] ++
    a.fields.bytes ++ u8 a.pins ++ bytes4 a.cleared ++ bytes4 a.aborted) ∧
  ∀ (h : Hide) (snapshot : List Byte) (low high last : Nat),
    snapshot = (match h.snapshot with
      | some f => f.bytes
      | none => List.replicate 15 0) →
    (match h.coverage with
      | some (a, z) => low = a ∧ high = z
      | none => low = 0 ∧ high = 0) →
    last = (match h.verdict, h.abortCause with
      | some v, _ => v.code
      | none, some c => c.code
      | none, none => 0) →
    h.bytes.length = 41 ∧
    h.bytes = u16 h.ticket ++ bytes4 h.tag ++ u16 h.article ++ u8 h.state.code ++
      [flagByte [h.unannounced, h.overlength, h.gapUnsettled],
       flagByte [h.lead.isSome, h.trail.isSome, h.snapshot.isSome, h.coverage.isSome, h.verdict.isSome,
         h.abortCause.isSome]] ++
      bytes4 (h.lead.getD 0) ++ bytes4 (h.trail.getD 0) ++ snapshot ++ u8 low ++ u8 high ++ u16 h.bottomEvents ++
      u16 h.gapExcursions ++ u8 last

/-! ## Feed and entry eye -/

/-- R65, R66, R70: FEED RUN is refused STATE while the STOP line is asserted, and otherwise makes the run state RUNNING
from every run state. FEED STOP makes it STOPPED at once, whether or not the STOP line is asserted, with the feed enable
inactive. FEED HOLD adds HOST_HOLD and leaves the run state. FEED RUN and FEED STOP leave the hold cause set. The replies
carry the run state and the hold cause set after the command. -/
def Obligations.FeedRunStopAndHoldAct : Prop :=
  (∀ s : State, s.port.acceptIn = none →
     (s.feed.stopLine = true → exec .feedRun s = .next (s.refuses Header.feedRun .state)) ∧
     (s.feed.stopLine = false → exec .feedRun s =
       .next (s.answers Header.feedRun .ok (u8 1 ++ s.feed.holds.bytes) { s.toPart with
         feed := { s.feed with runState := .running } }))) ∧
  (∀ s : State, s.port.acceptIn = none →
     ∃ t : State, exec .feedStop s = .next t ∧ t.feedEnable = false ∧
       t = s.answers Header.feedStop .ok (u8 0 ++ s.feed.holds.bytes) { s.toPart with
         feed := { s.feed with runState := .stopped } }) ∧
  ∀ s : State, s.port.acceptIn = none →
    exec .feedHold s = .next (s.answers Header.feedHold .ok
      (u8 s.feed.runState.code ++ { s.feed.holds with hostHold := true }.bytes) { s.toPart with
        feed := { s.feed with holds := { s.feed.holds with hostHold := true } } })

/-- R67, R68: the two pending stops, from each run state. FEED STOP AT CLEAR stops at once where no record is ENTERING
or SPLITTING. -/
def Obligations.PendingStopsFollowTheirTables : Prop :=
  ∀ s : State, s.port.acceptIn = none →
    (∀ r : RunState,
      ((s.feed.runState = .stopped → r = .stopped) ∧
        (s.feed.runState = .stoppingAtClear → r = .stoppingAtClear) ∧
        ((s.feed.runState = .running ∨ s.feed.runState = .stoppingBeforeNext) →
          ((∃ h ∈ s.hides, h.state = .entering ∨ h.state = .splitting) → r = .stoppingAtClear) ∧
          ((∀ h ∈ s.hides, h.state ≠ .entering ∧ h.state ≠ .splitting) → r = .stopped))) →
      exec .feedStopAtClear s = .next (s.answers Header.feedStopAtClear .ok (u8 r.code ++ s.feed.holds.bytes)
        { s.toPart with feed := { s.feed with runState := r } })) ∧
    (∀ r : RunState,
      ((s.feed.runState = .stopped → r = .stopped) ∧ (s.feed.runState ≠ .stopped → r = .stoppingBeforeNext)) →
      exec .feedStopBeforeNext s = .next (s.answers Header.feedStopBeforeNext .ok (u8 r.code ++ s.feed.holds.bytes)
        { s.toPart with feed := { s.feed with runState := r } }))

/-- R30, R54, R71, R72: FEED CLEAR HOLD in the order of R71; every value below 2 ^ 11 names a set of causes. A taken one
removes every named cause; only GAP_NOT_READY and TUNING, which no host may name, can be asked for by the blocks that the
change of occupancy reaches. A removed UNBOUND_EDGE discards the unbound edge, and without a trail sends the eye to
DISCARD (with the light start absent from BODY: log entry 42). A removed HIDE_ABORTED or STOP_RECOVERY is then handed to
the gap axis, which stages, applies or starts a move and tests its readiness, and to lane tuning, which makes its
formation test. -/
def Obligations.FeedClearHoldDecides : Prop :=
  ∀ (causes : Half) (s : State), s.port.acceptIn = none →
    (2 ^ 11 ≤ causes.toNat → exec (.feedClearHold causes) s = .next (s.refuses Header.feedClearHold .range)) ∧
    (causes.toNat < 2 ^ 11 → ∃ named : HoldSet, named.bytes = bytes2 causes) ∧
    ∀ named : HoldSet, causes.toNat < 2 ^ 11 → named.bytes = bytes2 causes →
      ((named.stopLine = true ∨ named.gapNotReady = true ∨ named.gapFault = true ∨ named.tuning = true ∨
          (named.stopRecovery = true ∧ s.feed.stopLine = true)) →
        exec (.feedClearHold causes) s = .next (s.refuses Header.feedClearHold .state)) ∧
      (named.stopLine = false → named.gapNotReady = false → named.gapFault = false → named.tuning = false →
        (named.stopRecovery = false ∨ s.feed.stopLine = false) →
        (∀ (rest : HoldSet) (cleared unbound after : Part),
          (∀ c : HoldCause, rest.has c = (s.feed.holds.has c && !named.has c)) →
          cleared = { s.toPart with feed := { s.feed with holds := rest } } →
          unbound = (if named.unboundEdge = true ∧ s.feed.holds.unboundEdge = true then { cleared with
              unbound := none
              eye := match s.unbound with
                | some ⟨_, none⟩ => { s.eye with state := match s.eye.state with
                  | .body => .discard none
                  | .tailPending at_ => if reached (at_ + BitVec.ofNat 32 s.settings.gapFilter) s.feed.position = true
                      then .clear else .discard (some at_)
                  | e => e }
                | _ => s.eye } else cleared) →
          after = (if (named.hideAborted = true ∧ s.feed.holds.hideAborted = true) ∨
              (named.stopRecovery = true ∧ s.feed.holds.stopRecovery = true)
            then formationTest (gapHandOn unbound) else unbound) →
          exec (.feedClearHold causes) s = .next (s.thenWakes (s.answers Header.feedClearHold .ok
            (u8 after.feed.runState.code ++ after.feed.holds.bytes) after).toPart)) ∧
        ∃ t : State, exec (.feedClearHold causes) s = .next t ∧
          (∀ c : HoldCause, c ≠ .gapNotReady → c ≠ .tuning →
            t.feed.holds.has c = (s.feed.holds.has c && !named.has c)) ∧
          t.feed.position = s.feed.position ∧ t.feed.runState = s.feed.runState ∧
          t.feed.stopLine = s.feed.stopLine ∧
          t.port.slot = ⟨Header.feedClearHold, .ok, u8 t.feed.runState.code ++ t.feed.holds.bytes⟩ ∧
          t.port.attention = s.port.attention ∧ t.articles = s.articles ∧ t.hides = s.hides ∧
          t.settings = s.settings ∧ t.routes = s.routes ∧ t.lines = s.lines ∧ t.tallies = s.tallies ∧
          (named.unboundEdge = false ∨ s.feed.holds.unboundEdge = false →
            t.unbound = s.unbound ∧ t.eye = s.eye) ∧
          (named.unboundEdge = true → s.feed.holds.unboundEdge = true → t.unbound = none ∧
            ((∀ edge : UnboundEdge, s.unbound = some edge → edge.trail.isSome = true) → t.eye = s.eye) ∧
            (∀ lead : Pos, s.unbound = some ⟨lead, none⟩ → t.eye.inputHigh = s.eye.inputHigh ∧
              t.eye.state = match s.eye.state with
                | .body => .discard none
                | .tailPending at_ => if reached (at_ + BitVec.ofNat 32 s.settings.gapFilter) s.feed.position = true
                    then .clear else .discard (some at_)
                | e => e)) ∧
          (named.hideAborted = false → named.stopRecovery = false →
            t.gap = s.gap ∧ t.lanes = s.lanes ∧ t.tuning = s.tuning ∧ t.bus = s.bus ∧
              t.feed.holds.gapNotReady = s.feed.holds.gapNotReady ∧ t.feed.holds.tuning = s.feed.holds.tuning))

/-- R73, R74, R176, R177: the feed enable is active while the run state is not STOPPED and the hold cause set is empty; the
speed reference is the SPLITTING record's snapshot speed, else the oldest ENTERING record's, else the idle feed speed,
driven at 2.5 V (250000 units of 10 uV) for 400. A level condition is true as its lanes, the feed or the axis stand; a
ROUTED line is active by its latch, its pulse or a FOLLOW route whose condition is true, a DIRECT one by its level; the pin
follows the activity through the drive, a released open-drain pin being at the board's level (log entry 16). -/
def Obligations.FeedOutputsFollowTheRecords : Prop :=
  ∀ p : Part,
    (p.feedEnable = true ↔ p.feed.runState ≠ .stopped ∧ ∀ c : HoldCause, p.feed.holds.has c = false) ∧
    (∀ (h : Hide) (f : PlanFields), p.hides.find? (fun x => x.state == .splitting) = some h → h.snapshot = some f →
      p.speedReference = f.feedSpeed) ∧
    (∀ (h : Hide) (f : PlanFields), (∀ x ∈ p.hides, x.state ≠ .splitting) →
      p.hides.find? (fun x => x.state == .entering) = some h → h.snapshot = some f →
      p.speedReference = f.feedSpeed) ∧
    ((∀ x ∈ p.hides, x.state ≠ .splitting ∧ x.state ≠ .entering) → p.speedReference = p.settings.idleFeedSpeed) ∧
    p.speedReferenceLevel * 400 = 250000 * p.speedReference ∧
    (∀ mask : BitVec 32,
      (p.levelHolds .anyContact (.lanes mask) = true ↔ ∃ n : LaneNo, mask.getLsbD n.val = true ∧
        (p.lane n).service = .inService ∧ (p.lane n).tune = .tuned ∧ (p.lane n).contact ≠ .empty) ∧
      (p.levelHolds .anyBottomed (.lanes mask) = true ↔ ∃ n : LaneNo, mask.getLsbD n.val = true ∧
        (p.lane n).service = .inService ∧ (p.lane n).tune = .tuned ∧ (p.lane n).contact = .bottomed) ∧
      (p.levelHolds .anyBlind (.lanes mask) = true ↔ ∃ n : LaneNo, mask.getLsbD n.val = true ∧
        ¬((p.lane n).service = .inService ∧ (p.lane n).tune = .tuned))) ∧
    p.levelHolds .feedEnabled .none = p.feedEnable ∧
    (p.levelHolds .feedHeld .none = true ↔ ∃ c : HoldCause, p.feed.holds.has c = true) ∧
    (p.levelHolds .gapMoving .none = true ↔ p.gap.state = .moving) ∧
    ∀ i : Fin 4,
      (p.lineFollowed i = true ↔ ∃ (k : Fin 16) (lines : BitVec 4) (l : Level), (p.routes[k.val]).enabled = true ∧
        (p.routes[k.val]).task = .follow lines ∧ lines.getLsbD i.val = true ∧ (p.routes[k.val]).source = .level l ∧
        p.levelHolds l (p.routes[k.val]).filter = true) ∧
      ((p.line i).mode = .direct → p.lineActive i = (p.line i).directActive) ∧
      ((p.line i).mode = .routed → (p.lineActive i = true ↔
        (p.line i).latched = true ∨ (p.line i).pulse.isSome = true ∨ p.lineFollowed i = true)) ∧
      ((p.line i).drive = .pushPull → p.linePinHigh i = p.lineActive i) ∧
      ((p.line i).drive = .openDrain →
        p.linePinHigh i = if p.lineActive i = true then false else Config.releasedPinHigh i)

/-- R36, R61 to R63: the encoder pair is decoded as quadrature. FORWARD_STEP and BACKWARD_STEP are the two changes of one
channel, each undone by the other (which is forward: log entry 41); a change of both channels at once, or of neither, is no
step and changes the levels alone. A forward step advances the feed position by 1, wrapping, returns the backward run to 0
and is handed to the eye's distance test, the marks of the records in table order and the lanes ascending (the order: log
entry 7); a record's marks are crossed in R36's order, each as its own row crosses it. A backward step leaves the position
and adds 1 to the backward run, the twenty-first adding REVERSE and returning the run to 0. What a forward step cannot
reach is as it was, and one with nothing to test changes the feed position, the backward run and the levels alone. -/
def Obligations.EncoderStepsCount : Prop :=
  (∀ (s : State) (q : Part), q = { s.toPart with
      encoder := ⟨!s.encoder.b, s.encoder.a⟩
      feed := { s.feed with position := s.feed.position + 1, backwardRun := 0 } } →
    exec .forwardStep s = .next (s.thenWakes (allLanes.foldl (fun r n => forwardLane n r)
      (((eyeTest q).hides.map (·.ticket)).foldl (fun r ticket => testMarks ticket r) (eyeTest q))))) ∧
  (∀ (ticket : Nat) (p : Part),
    testMarks ticket p = testMaximum ticket (testTrail ticket (testKnife ticket (testApproach ticket p)))) ∧
  (∀ (ticket : Half) (s : State),
    exec (.approachPointCrossing ticket) s = .next (s.withPart (testApproach ticket.toNat s.toPart)) ∧
    exec (.knifeLineCrossing ticket) s = .next (s.thenWakes (testKnife ticket.toNat s.toPart)) ∧
    exec (.trailMarkCrossing ticket) s = .next (s.thenWakes (testTrail ticket.toNat s.toPart)) ∧
    exec (.maximumLengthCrossing ticket) s = .next (s.withPart (testMaximum ticket.toNat s.toPart))) ∧
  (∀ s : State, ∃ t : State, exec .forwardStep s = .next t ∧
    t.feed.position = s.feed.position + 1 ∧ t.feed.backwardRun = 0 ∧ t.feed.stopLine = s.feed.stopLine ∧
    t.encoder = ⟨!s.encoder.b, s.encoder.a⟩ ∧
    t.eye.inputHigh = s.eye.inputHigh ∧ t.settings = s.settings ∧ t.routes = s.routes ∧
    t.scanPeriod = s.scanPeriod ∧ t.pressure.stopLevel = s.pressure.stopLevel ∧
    t.port.slot = s.port.slot ∧ t.port.attentionMask = s.port.attentionMask ∧ t.port.acceptIn = s.port.acceptIn ∧
    t.bus.boards = s.bus.boards ∧ t.gap.lastPair = s.gap.lastPair ∧ t.gap.active = s.gap.active) ∧
  (∀ s : State, s.feed.backwardRun ≠ 20 → exec .backwardStep s = .next (s.withPart { s.toPart with
    encoder := ⟨s.encoder.b, !s.encoder.a⟩
    feed := { s.feed with backwardRun := s.feed.backwardRun + 1 } })) ∧
  (∀ s : State, s.feed.backwardRun = 20 → exec .backwardStep s = .next (s.withPart { s.toPart with
     encoder := ⟨s.encoder.b, !s.encoder.a⟩
     feed := { s.feed with backwardRun := 0, holds := { s.feed.holds with reverse := true } } })) ∧
  (∀ (levels : Encoder) (s : State),
    ((levels.a ≠ s.encoder.a ∧ levels.b = s.encoder.b ∨ levels.a = s.encoder.a ∧ levels.b ≠ s.encoder.b) →
      (exec .forwardStep s = .next (s.thenWakes (takeEncoder levels s.toPart)) ∧ levels = ⟨!s.encoder.b, s.encoder.a⟩) ∨
        (exec .backwardStep s = .next (s.withPart (takeEncoder levels s.toPart)) ∧
          levels = ⟨s.encoder.b, !s.encoder.a⟩)) ∧
    ((levels.a ≠ s.encoder.a ∧ levels.b ≠ s.encoder.b ∨ levels = s.encoder) →
      takeEncoder levels s.toPart = { s.toPart with encoder := levels })) ∧
  ∀ s : State, (s.eye.state = .clear ∨ s.eye.state = .body ∨ s.eye.state = .discard none) →
    (∀ h ∈ s.hides, h.state ≠ .entering ∧ h.state ≠ .splitting) → (∀ n : LaneNo, (s.lane n).contact = .empty) →
    exec .forwardStep s = .next (s.withPart { s.toPart with
      encoder := ⟨!s.encoder.b, s.encoder.a⟩
      feed := { s.feed with position := s.feed.position + 1, backwardRun := 0 } })

/-- R49 to R53: one eye transition changes the level of the input and takes the eye from its state as the new level is
dark or light, and changes nothing else. -/
def Obligations.EyeTransitionsFollowTheirStates : Prop :=
  ∀ (s : State) (dark : Bool), dark = ((s.settings.eyePolarity == .darkHigh) != s.eye.inputHigh) →
    exec .eyeTransition s = .next (s.withPart { s.toPart with
      eye := ⟨!s.eye.inputHigh, match s.eye.state, dark with
        | .clear, true => .leadPending s.feed.position
        | .clear, false => .clear
        | .leadPending c, true => .leadPending c
        | .leadPending _, false => .clear
        | .body, true => .body
        | .body, false => .tailPending s.feed.position
        | .tailPending _, true => .body
        | .tailPending c, false => .tailPending c
        | .discard _, true => .discard none
        | .discard _, false => .discard (some s.feed.position)⟩ })

/-- R48, R50, R52, R53, R55, R56: a lead is confirmed at its capture when the lead debounce has been travelled, a trail at
its tentative trail when the gap filter has, and a discard ends when the gap filter has been travelled in light; commanded
elsewhere these rows change nothing (log entry 1). The eye's distance test, which every forward step makes, is the one its
state calls for. EYE FORCE LEAD is taken in CLEAR and EYE FORCE TAIL in BODY and TAIL_PENDING, at the current feed
position; in the other states they are refused STATE. An operand of neither is refused RANGE. -/
def Obligations.EdgesAreConfirmed : Prop :=
  (∀ s : State,
     (∀ c : Pos, s.eye.state = .leadPending c →
       (reached (c + BitVec.ofNat 32 s.settings.leadDebounce) s.feed.position = true →
         exec .leadDebounceTravelled s =
           .next (s.thenWakes (confirmLead c { s.toPart with eye := { s.eye with state := .body } }))) ∧
       (reached (c + BitVec.ofNat 32 s.settings.leadDebounce) s.feed.position = false →
         exec .leadDebounceTravelled s = .next s)) ∧
     ((∀ c : Pos, s.eye.state ≠ .leadPending c) → exec .leadDebounceTravelled s = .next s) ∧
     (∀ c : Pos, s.eye.state = .tailPending c →
       (reached (c + BitVec.ofNat 32 s.settings.gapFilter) s.feed.position = true →
         exec .gapFilterTravelled s =
           .next (s.thenWakes (confirmTrail c { s.toPart with eye := { s.eye with state := .clear } }))) ∧
       (reached (c + BitVec.ofNat 32 s.settings.gapFilter) s.feed.position = false →
         exec .gapFilterTravelled s = .next s)) ∧
     ((∀ c : Pos, s.eye.state ≠ .tailPending c) → exec .gapFilterTravelled s = .next s) ∧
     (∀ c : Pos, s.eye.state = .discard (some c) →
       (reached (c + BitVec.ofNat 32 s.settings.gapFilter) s.feed.position = true →
         exec .discardLightTravelled s =
           .next (s.withPart { s.toPart with eye := { s.eye with state := .clear } })) ∧
       (reached (c + BitVec.ofNat 32 s.settings.gapFilter) s.feed.position = false →
         exec .discardLightTravelled s = .next s)) ∧
     ((∀ c : Pos, s.eye.state ≠ .discard (some c)) → exec .discardLightTravelled s = .next s) ∧
     ((∃ c, s.eye.state = .leadPending c) →
       exec .leadDebounceTravelled s = .next (s.thenWakes (eyeTest s.toPart))) ∧
     ((∃ c, s.eye.state = .tailPending c) → exec .gapFilterTravelled s = .next (s.thenWakes (eyeTest s.toPart))) ∧
     ((∃ c, s.eye.state = .discard c) → exec .discardLightTravelled s = .next (s.withPart (eyeTest s.toPart))) ∧
     (s.eye.state = .clear ∨ s.eye.state = .body → eyeTest s.toPart = s.toPart)) ∧
  ∀ s : State, s.port.acceptIn = none →
    (s.eye.state = .clear → exec (.eyeForceLead 1) s = .next (s.thenWakes (s.answers Header.eyeForce .ok
      (u8 2 ++ bytes4 s.feed.position)
      (confirmLead s.feed.position { s.toPart with eye := { s.eye with state := .body } })).toPart)) ∧
    (s.eye.state ≠ .clear → exec (.eyeForceLead 1) s = .next (s.refuses Header.eyeForce .state)) ∧
    ((s.eye.state = .body ∨ ∃ c, s.eye.state = .tailPending c) →
      exec (.eyeForceTail 2) s = .next (s.thenWakes (s.answers Header.eyeForce .ok
        (u8 0 ++ bytes4 s.feed.position)
        (confirmTrail s.feed.position { s.toPart with eye := { s.eye with state := .clear } })).toPart)) ∧
    (s.eye.state ≠ .body → (∀ c, s.eye.state ≠ .tailPending c) →
      exec (.eyeForceTail 2) s = .next (s.refuses Header.eyeForce .state)) ∧
    ∀ operand : Byte, operand ≠ 1 → operand ≠ 2 →
      exec (.eyeForceLead operand) s = .next (s.refuses Header.eyeForce .range)

/-- R24, R28 to R30, R36: a confirmed leading edge. With an unbound edge waiting it is dropped, with the attention cause
and the event again; otherwise it binds the oldest ANNOUNCED record, which has its lead and a snapshot of its article from
then on; otherwise it is adopted on the default article; otherwise it becomes the unbound edge. A binding hands the record
on to the gap axis, raises HIDE_ENTERING and tests STOPPING_AT_CLEAR, and then crosses the marks already reached; that the
event comes before the marks is the model's choice (log entry 43). -/
def Obligations.ConfirmedLeadIsBoundAdoptedOrHeld : Prop :=
  (∀ (ticket : Nat) (lead : Pos) (trail : Option Pos) (h : Hide) (p bound : Part), p.hide? ticket = some h →
    bound = { p with hides := p.hides.map fun x => if x.ticket == ticket then { x with
      state := .entering, lead := some lead, trail := trail
      snapshot := (p.plan? h.article).map (·.fields) } else x } →
    bindHide ticket lead trail p =
      testMarks ticket (stopAtClearTest (raise (.hideEntering ticket h.article) (gapHandOn bound)))) ∧
  ∀ (lead : Pos) (p : Part),
    (p.unbound.isSome = true → confirmLead lead p = raise (.unboundEdge lead) { p with
      port := { p.port with attention := { p.port.attention with unboundEdge := true } } }) ∧
    (∀ h : Hide, p.unbound = none → p.hides.find? (fun x => x.state == .announced) = some h →
      (p.hides.map (·.ticket)).Nodup → confirmLead lead p = bindHide h.ticket lead none p ∧
      ∃ b : Hide, (confirmLead lead p).hide? h.ticket = some b ∧ b.state ≠ .announced ∧ b.lead = some lead ∧
        b.trail = none ∧ b.snapshot = (p.plan? h.article).map (·.fields) ∧ b.tag = h.tag ∧ b.article = h.article ∧
        (confirmLead lead p).unbound = none ∧ (confirmLead lead p).hides.length = p.hides.length) ∧
    (∀ a : Plan, p.unbound = none → (∀ h ∈ p.hides, h.state ≠ .announced) →
      p.settings.unannouncedPolicy = .adopt → p.articles.find? (·.mark) = some a → a.state = .active →
      p.plan? a.code = some a → p.hides.length < 8 → (∀ h ∈ p.hides, h.ticket ≠ p.ticket) →
      confirmLead lead p = bindHide p.ticket lead none { p with
        hides := p.hides ++ [newHide p.ticket 0 a.code true]
        nextTicket := nextTicketAfter p.ticket
        articles := p.articles.map fun b => if b.code == a.code then { b with pins := b.pins + 1 } else b } ∧
      ∃ b : Hide, (confirmLead lead p).hide? p.ticket = some b ∧ b.state ≠ .announced ∧ b.lead = some lead ∧
        b.trail = none ∧ b.snapshot = some a.fields ∧ b.tag = 0 ∧ b.article = a.code ∧ b.unannounced = true ∧
        (confirmLead lead p).unbound = none ∧ (confirmLead lead p).nextTicket = nextTicketAfter p.ticket) ∧
    (p.unbound = none → (∀ h ∈ p.hides, h.state ≠ .announced) →
      (p.settings.unannouncedPolicy = .refuse ∨ p.articles.find? (·.mark) = none ∨ 8 ≤ p.hides.length) →
      confirmLead lead p = raise (.unboundEdge lead) { p with
        unbound := some ⟨lead, none⟩
        feed := { p.feed with holds := { p.feed.holds with unboundEdge := true } }
        port := { p.port with attention := { p.port.attention with unboundEdge := true } } })

/-- R31: a confirmed trailing edge goes to the oldest record in passage whose trail is absent, whose marks are then
tested; with no such record it becomes a waiting unbound edge's trail where that has none; otherwise it is dropped. -/
def Obligations.ConfirmedTrailGoesToOldest : Prop :=
  ∀ (trail : Pos) (p : Part),
    (∀ (h : Hide) (before after : List Hide), p.hides = before ++ h :: after →
      (∀ x ∈ before, ¬((x.state = .entering ∨ x.state = .splitting) ∧ x.trail = none)) →
      (h.state = .entering ∨ h.state = .splitting) → h.trail = none →
      confirmTrail trail p = testMarks h.ticket { p with
        hides := p.hides.map fun x => if x.ticket == h.ticket then { x with trail := some trail } else x }) ∧
    ((∀ x ∈ p.hides, ¬((x.state = .entering ∨ x.state = .splitting) ∧ x.trail = none)) →
      (∀ lead : Pos, p.unbound = some ⟨lead, none⟩ →
        confirmTrail trail p = { p with unbound := some ⟨lead, some trail⟩ }) ∧
      ((∀ lead : Pos, p.unbound ≠ some ⟨lead, none⟩) → confirmTrail trail p = p))

/-! ## The STOP line -/

/-- R18, R43, R59, R75, R93, R133, R148, R190: an assertion stops the feed and adds STOP_LINE and STOP_RECOVERY, aborts the
records in passage in table order with cause STOP, each counted by its article and with its event HIDE_ABORTED, discards
the unbound edge, seats the eye, abandons a move, aborts a tuning batch, whose unfinished members take their saved values
back, brings every lane to the park pressure and adds the attention cause STOP. A release removes STOP_LINE, leaves the run
state and STOP_RECOVERY, and recomputes every lane. The order of the blocks, by which the events find STOP pending and the
feed stopped, is log entry 28's, the clearing of PER_HIDE tallies before the event entry 9's; a line that stands so already
is not asserted or released again (log entry 26). -/
def Obligations.StopLineStopsTheMachine : Prop :=
  (∀ s : State, s.feed.stopLine = true → exec .stopAssertion s = .next s) ∧
  (∀ s : State, s.feed.stopLine = false → (s.hides.map (·.ticket)).Nodup →
     ∃ t : State, exec .stopAssertion s = .next t ∧
       t.feed.stopLine = true ∧ t.feed.runState = .stopped ∧ t.feedEnable = false ∧
       t.feed.position = s.feed.position ∧ t.feed.backwardRun = s.feed.backwardRun ∧
       t.feed.holds.stopLine = true ∧ t.feed.holds.stopRecovery = true ∧ t.feed.holds.gapNotReady = false ∧
       (∀ c : HoldCause, c ≠ .stopLine → c ≠ .stopRecovery → c ≠ .gapNotReady → c ≠ .tuning → c ≠ .routeHold →
         t.feed.holds.has c = s.feed.holds.has c) ∧
       t.hides = s.hides.map (fun h => if h.state = .entering ∨ h.state = .splitting then
         { h with state := .aborted, abortCause := some .stop, approachReached := false, waiting := false } else h) ∧
       t.articles = s.articles.map (fun a => { a with
         aborted := a.aborted + BitVec.ofNat 32 (s.hides.filter fun h =>
           (h.state == .entering || h.state == .splitting) && h.article == a.code).length }) ∧
       t.unbound = none ∧ t.nextTicket = s.nextTicket ∧
       t.eye = ⟨s.eye.inputHigh, if s.eyeDark = true then .discard none else .clear⟩ ∧
       (s.gap.state = .moving → t.gap.state = .stale ∧ t.gap.target = none ∧ t.gap.moveTimer = none ∧
         t.gap.settle = 0 ∧ t.gap.jackOrder = .halt) ∧
       (s.gap.state ≠ .moving → t.gap.state = s.gap.state ∧ t.gap.target = s.gap.target) ∧
       t.gap.active = s.gap.active ∧ t.gap.staged = s.gap.staged ∧
       t.batchRunning = false ∧ (s.batchRunning = false → t.lanes = s.lanes ∧ t.tuning = s.tuning) ∧
       (∀ b : Batch, s.tuning.batch = some b → b.running = true → ∃ ended : Batch, t.tuning.batch = some ended ∧
         ended.origin = b.origin ∧ ended.members.map (·.lane) = b.members.map (·.lane) ∧
         ∀ m ∈ ended.members, m.phase = .finished) ∧
       (∀ n : LaneNo, (∀ (b : Batch) (m : Member), s.tuning.batch = some b → b.running = true → m ∈ b.members →
         m.lane = n → m.phase = .finished) → t.lane n = s.lane n) ∧
       (∀ (b : Batch) (m : Member) (v : Saved), s.tuning.batch = some b → b.running = true →
         (b.members.map (·.lane)).Nodup → m ∈ b.members → m.phase ≠ .finished → m.saved = some v →
         t.lane m.lane = { s.lane m.lane with
           calibration := v.calibration, reference := v.reference, seedPending := v.seedPending, tune := v.tune
           contact := .empty, enterCount := 0, exitCount := 0, distance := 0 }) ∧
       t.pressure.stopLevel = true ∧ (∀ n : LaneNo, t.wanted n = s.settings.parkPressure) ∧
       t.port.attention.stop = true ∧ t.port.slot = s.port.slot ∧ t.settings = s.settings ∧ t.routes = s.routes ∧
       t.bus.boards = s.bus.boards ∧
       ∀ told : Part, told = (s.hides.filter fun h => h.state == .entering || h.state == .splitting).foldl
           (fun q h => raise (.hideAborted h.ticket h.article) (abortRecord h .stop q))
           { s.toPart with
             feed := { s.feed with
               stopLine := true
               runState := .stopped
               holds := { s.feed.holds with stopLine := true, stopRecovery := true } }
             port := { s.port with attention := { s.port.attention with stop := true } } } →
         t.lines = told.lines ∧ t.tallies = told.tallies ∧ t.port = told.port ∧
           t.feed.holds.routeHold = told.feed.holds.routeHold) ∧
  (∀ (h : Hide) (cause : AbortCause) (p : Part) (aborted : Part), aborted = { p with
      hides := p.hides.map fun x => if x.ticket == h.ticket then
        { x with state := .aborted, abortCause := some cause, approachReached := false, waiting := false } else x
      articles := p.articles.map fun a => if a.code == h.article then { a with aborted := a.aborted + 1 } else a } →
    (h.state ≠ .splitting → abortRecord h cause p = aborted) ∧
    (h.state = .splitting → abortRecord h cause p = { aborted with
      gap := { p.gap with excursionRun := false }
      tallies := p.tallies.map fun k => if k.scope = .perHide then { k with count := 0 } else k })) ∧
  (∀ s : State, s.feed.stopLine = false → exec .stopRelease s = .next s) ∧
  ∀ s : State, s.feed.stopLine = true → exec .stopRelease s = .next (s.thenWakes (recompute { s.toPart with
    feed := { s.feed with stopLine := false, holds := { s.feed.holds with stopLine := false } }
    pressure := { s.pressure with stopLevel := false } }))

/-! ## Marks of a hide -/

/-- R32, R35, R68: at its approach point an ENTERING record keeps the fact, the gap axis sets or clears GAP_NOT_READY
and STOPPING_BEFORE_NEXT ends; at its maximum length a record in passage without a trail gains OVERLENGTH with the hold,
the attention cause and the event. Commanded for a mark not reached, or crossed before, these rows do nothing, which is
the model's reading (log entry 1). -/
def Obligations.ApproachAndMaximumMarksAct : Prop :=
  ∀ (ticket : Half) (h : Hide) (lead : Pos) (s : State), s.hide? ticket.toNat = some h → h.lead = some lead →
    (h.state = .entering → h.approachReached = false →
      reached (lead + BitVec.ofNat 32 s.settings.throatLength - BitVec.ofNat 32 s.settings.approachMargin)
        s.feed.position = true →
      ∃ t : State, exec (.approachPointCrossing ticket) s = .next t ∧
        t = s.withPart { s.toPart with hides := t.hides, feed := t.feed } ∧
        t.hides = s.hides.map (fun x => if x.ticket = ticket.toNat then { x with approachReached := true } else x) ∧
        t.feed = { s.feed with
          runState := if s.feed.runState = .stoppingBeforeNext then .stopped else s.feed.runState
          holds := { s.feed.holds with gapNotReady := t.notReady } }) ∧
    ((h.state ≠ .entering ∨ h.approachReached = true ∨
        reached (lead + BitVec.ofNat 32 s.settings.throatLength - BitVec.ofNat 32 s.settings.approachMargin)
          s.feed.position = false) → exec (.approachPointCrossing ticket) s = .next s) ∧
    ((h.state = .entering ∨ h.state = .splitting) → h.trail = none → h.overlength = false →
      reached (lead + BitVec.ofNat 32 s.settings.maximumHideLength) s.feed.position = true →
      exec (.maximumLengthCrossing ticket) s = .next (s.withPart (raise (.overlength h.ticket h.article)
        { s.toPart with
          hides := s.hides.map fun x => if x.ticket == h.ticket then { x with overlength := true } else x
          feed := { s.feed with holds := { s.feed.holds with overlength := true } }
          port := { s.port with attention := { s.port.attention with overlength := true } } }))) ∧
    ((h.state ≠ .entering ∧ h.state ≠ .splitting ∨ h.trail.isSome = true ∨ h.overlength = true ∨
        reached (lead + BitVec.ofNat 32 s.settings.maximumHideLength) s.feed.position = false) →
      exec (.maximumLengthCrossing ticket) s = .next s)

/-- R33: at its knife line an ENTERING record becomes SPLITTING: GAP_UNSETTLED where the axis is not IDLE on its snapshot
gap, its coverage and counts as they were, no excursion run; then the gap axis takes the hand-on, every lane is recomputed,
the PER_HIDE tallies are cleared and HIDE_SPLITTING is raised, in this order (R24, R33). While another record is SPLITTING
it waits. A record that waits already, one that is not ENTERING, an unknown ticket and a knife line not reached do nothing
when the row is commanded (log entry 1); a waiting record becomes SPLITTING as the other one leaves, which
TrailCrossingClears states. -/
def Obligations.KnifeCrossingSplitsOrWaits : Prop :=
  (∀ (ticket : Half) (s : State),
    (s.hide? ticket.toNat = none → exec (.knifeLineCrossing ticket) s = .next s) ∧
    ∀ h : Hide, s.hide? ticket.toNat = some h →
      (h.state ≠ .entering ∨ h.waiting = true → exec (.knifeLineCrossing ticket) s = .next s) ∧
      ∀ (lead : Pos) (f : PlanFields), h.lead = some lead → h.snapshot = some f → h.state = .entering →
        h.waiting = false →
        (reached (lead + BitVec.ofNat 32 s.settings.throatLength) s.feed.position = false →
          exec (.knifeLineCrossing ticket) s = .next s) ∧
        (reached (lead + BitVec.ofNat 32 s.settings.throatLength) s.feed.position = true →
          ((∃ x ∈ s.hides, x.state = .splitting) →
            exec (.knifeLineCrossing ticket) s = .next (s.withPart { s.toPart with
              hides := s.hides.map fun x => if x.ticket == ticket.toNat then { x with waiting := true } else x })) ∧
          ((∀ x ∈ s.hides, x.state ≠ .splitting) →
            ∃ t : State, exec (.knifeLineCrossing ticket) s = .next t ∧
              t = s.thenWakes (becomeSplitting h s.toPart) ∧
              t.hides = s.hides.map (fun x => if x.ticket = ticket.toNat then { x with
                state := .splitting
                gapUnsettled :=
                  x.gapUnsettled || !(s.gap.state == .idle && s.gap.active.map (·.gap) == some f.splitGap)
                approachReached := false
                waiting := false } else x) ∧
              t.knifeOccupied = true ∧ t.gap.excursionRun = false ∧ t.gap.state = s.gap.state ∧
              t.gap.active = s.gap.active ∧ t.gap.staged = s.gap.staged ∧
              (∀ n : LaneNo, t.wanted n = t.pressureFor t.contactSpan n) ∧
              t.articles = s.articles ∧ t.lanes = s.lanes ∧ t.tuning = s.tuning ∧ t.eye = s.eye ∧
              t.feed.position = s.feed.position ∧ t.unbound = s.unbound ∧ t.settings = s.settings ∧
              t.routes = s.routes ∧ t.port.slot = s.port.slot ∧ t.port.attentionMask = s.port.attentionMask ∧
              ((∀ i : Fin 16, (s.routes[i.val]).enabled = false) → t.lines = s.lines ∧
                t.port.attention = s.port.attention ∧
                (∀ i : Fin 4, t.tallies[i.val] = if (s.tallies[i.val]).scope = .perHide
                  then { s.tallies[i.val] with count := 0 } else s.tallies[i.val]))))) ∧
  ∀ (h : Hide) (f : PlanFields) (p split told : Part), h.snapshot = some f → p.hide? h.ticket = some h →
    split = { p with
      hides := p.hides.map fun x => if x.ticket == h.ticket then { x with
        state := .splitting
        gapUnsettled := x.gapUnsettled || !(p.gap.state == .idle && p.gap.active.map (·.gap) == some f.splitGap)
        approachReached := false
        waiting := false } else x
      gap := { p.gap with excursionRun := false } } →
    told = { recompute (gapHandOn split) with
      tallies := p.tallies.map fun k => if k.scope = .perHide then { k with count := 0 } else k } →
    becomeSplitting h p = raise (.hideSplitting h.ticket h.article) told

/-- R17, R24, R33, R34, R180: when its trail reaches the knife line the SPLITTING record becomes CLEARED with its verdict
and its article counts it. Then every PER_HIDE tally is compared, inverted where it says so, and cleared, with its
TALLY_REACHED in ascending index carrying the count before clearing (log entry 10), each served with what it raises before
the next (log entry 49); HIDE_DONE is added; HIDE_CLEARED is raised, then HIDE_REJECT if the verdict is REJECT; the oldest
waiting record, if one waits, becomes SPLITTING (before the blocks that follow: log entry 32; its own trail mark is not
tested in this step: log entry 25); the gap axis decides, lane tuning makes its formation test, every lane is recomputed,
and STOPPING_AT_CLEAR ends where no record is in passage. A trail mark not reached does nothing when the row is commanded
(log entry 1). -/
def Obligations.TrailCrossingClears : Prop :=
  (∀ (ticket : Half) (h : Hide) (trail : Pos) (f : PlanFields) (s : State), s.hide? ticket.toNat = some h →
    h.trail = some trail → h.snapshot = some f → h.state = .splitting →
    (reached (trail + BitVec.ofNat 32 s.settings.throatLength) s.feed.position = true →
      (s.hides.map (·.ticket)).Nodup →
      (∀ (verdict : Verdict) (cleared compared told : Part),
        verdict = (if f.rejectLimit = 0 then .none else if f.rejectLimit ≤ h.bottomEvents then .reject else .pass) →
        cleared = { s.toPart with
          hides := s.hides.map fun x =>
            if x.ticket == h.ticket then { h with state := .cleared, verdict := some verdict } else x
          articles := s.articles.map fun a => if a.code == h.article then { a with cleared := a.cleared + 1 } else a
          gap := { s.gap with excursionRun := false }
          tallies := s.tallies.map fun k => if k.scope = .perHide then { k with count := 0 } else k } →
        compared = ((List.finRange 4).filter fun i => decide ((s.tallies[i.val]).scope = .perHide ∧
            (if (s.tallies[i.val]).invert = true
              then (s.tallies[i.val]).count.toNat < (s.tallies[i.val]).threshold.toNat
              else (s.tallies[i.val]).threshold.toNat ≤ (s.tallies[i.val]).count.toNat))).foldl
          (fun q i => raise (.tallyReached i (s.tallies[i.val]).count) q) cleared →
        told = raise (.hideCleared h.ticket h.article) { compared with
          port := { compared.port with attention := { compared.port.attention with hideDone := true } } } →
        exec (.trailMarkCrossing ticket) s = .next (s.thenWakes (stopAtClearTest (recompute (formationTest (gapCleared
          (promoteWaiting (if verdict = .reject then raise (.hideReject h.ticket h.article) told else told)))))))) ∧
      ∃ t : State, exec (.trailMarkCrossing ticket) s = .next t ∧
        t.hide? ticket.toNat = some { h with
          state := .cleared
          verdict := some (if f.rejectLimit = 0 then .none
            else if f.rejectLimit ≤ h.bottomEvents then .reject else .pass) } ∧
        t.articles = s.articles.map (fun b => if b.code = h.article then { b with cleared := b.cleared + 1 } else b) ∧
        t.port.attention.hideDone = true ∧ t.gap.excursionRun = false ∧
        t.hides.length = s.hides.length ∧ t.nextTicket = s.nextTicket ∧ t.unbound = s.unbound ∧ t.eye = s.eye ∧
        t.feed.position = s.feed.position ∧ t.feed.stopLine = s.feed.stopLine ∧ t.settings = s.settings ∧
        t.routes = s.routes ∧ t.port.slot = s.port.slot ∧
        ((∀ x ∈ s.hides, x.ticket ≠ h.ticket → x.state ≠ .splitting ∧ x.waiting = false) →
          ∀ x ∈ t.hides, x.state ≠ .splitting)) ∧
    (reached (trail + BitVec.ofNat 32 s.settings.throatLength) s.feed.position = false →
      exec (.trailMarkCrossing ticket) s = .next s)) ∧
  (∀ p : Part,
    ((∃ x ∈ p.hides, x.state = .splitting) → promoteWaiting p = p) ∧
    ((∀ x ∈ p.hides, ¬(x.state = .entering ∧ x.waiting = true)) → promoteWaiting p = p) ∧
    ∀ w : Hide, (∀ x ∈ p.hides, x.state ≠ .splitting) →
      p.hides.find? (fun x => x.state == .entering && x.waiting) = some w → promoteWaiting p = becomeSplitting w p) ∧
  ∀ p : Part,
    (p.feed.runState = .stoppingAtClear → (∀ x ∈ p.hides, x.state ≠ .entering ∧ x.state ≠ .splitting) →
      stopAtClearTest p = { p with feed := { p.feed with runState := .stopped } }) ∧
    ((p.feed.runState ≠ .stoppingAtClear ∨ ∃ x ∈ p.hides, x.state = .entering ∨ x.state = .splitting) →
      stopAtClearTest p = p)

/-! ## Gap axis -/

/-- R72, R81 to R85, R88, R89, R92: GAP SET, GAP APPLY and GAP RECOVER in the order of their rules, and the decisions they
share with the record changes. GAP SET stages the gap with the default tolerance, and under AT_CLEAR over an unoccupied
knife line a STALE axis, or an IDLE one on another gap, starts the move at once. A move started has the staged gap, or the
faulted move's kept target, as its target, its timer armed with the full timeout and the settle count 0, and the readiness
test follows; GAP RECOVER also removes GAP_FAULT (jackOrders: log entry 20). A record change stages the oldest ENTERING
record's gap over an unoccupied knife line, then takes a pending apply up or makes the start test, then tests readiness; a
CLEARED record also re-seats an IDLE axis whose last pair has drifted. -/
def Obligations.GapCommandsDecide : Prop :=
  (∀ (gap : Half) (s : State), s.port.acceptIn = none →
     (gap.toNat < 50 ∨ 800 < gap.toNat → exec (.gapSet gap) s = .next (s.refuses Header.gapSet .range)) ∧
     (50 ≤ gap.toNat → gap.toNat ≤ 800 → (∃ h ∈ s.hides, h.state = .entering) →
       exec (.gapSet gap) s = .next (s.refuses Header.gapSet .busy)) ∧
     (50 ≤ gap.toNat → gap.toNat ≤ 800 → (∀ h ∈ s.hides, h.state ≠ .entering) →
       ∀ (g : GapTol) (starts : Bool), g = ⟨gap.toNat, s.settings.defaultGapTolerance⟩ →
       starts = (s.settings.gapMethod == .atClear && !s.knifeOccupied &&
         (s.gap.state == .stale || (s.gap.state == .idle && !(s.gap.active.map (·.gap) == some gap.toNat)))) →
       exec (.gapSet gap) s = .next (s.answers Header.gapSet .ok [] { s.toPart with
         feed := { s.feed with holds := { s.feed.holds with gapNotReady := false } }
         gap := if starts = true then { s.gap with
             staged := some g
             state := .moving
             target := some g
             settle := 0
             moveTimer := some (s.settings.gapMoveTimeout * 10000)
             jackOrder := .target gap.toNat
             jackOrders := s.gap.jackOrders + 1 }
           else { s.gap with staged := some g } }))) ∧
  (∀ s : State, s.port.acceptIn = none →
    ((s.settings.gapMethod = .atClear ∨ s.gap.staged = none ∨ s.gap.state = .fault) →
      exec .gapApply s = .next (s.refuses Header.gapApply .state)) ∧
    (∀ g : GapTol, s.settings.gapMethod = .host → s.gap.staged = some g →
      (s.gap.state = .moving → exec .gapApply s = .next (s.refuses Header.gapApply .busy)) ∧
      (s.gap.state = .idle ∨ s.gap.state = .stale → s.knifeOccupied = true →
        exec .gapApply s = .next (s.answers Header.gapApply .pending [] { s.toPart with
          gap := { s.gap with applyPending := true } })) ∧
      (s.gap.state = .idle ∨ s.gap.state = .stale → s.knifeOccupied = false →
        exec .gapApply s = .next (s.answers Header.gapApply .ok [] (notReadyTest { s.toPart with
          gap := { s.gap with
            state := .moving
            target := some g
            settle := 0
            moveTimer := some (s.settings.gapMoveTimeout * 10000)
            jackOrder := .target g.gap
            jackOrders := s.gap.jackOrders + 1 } })))) ∧
    (s.gap.state ≠ .fault → exec .gapRecover s = .next (s.refuses Header.gapRecover .state)) ∧
    (∀ g : GapTol, s.gap.state = .fault → s.gap.target = some g →
      (s.knifeOccupied = true → exec .gapRecover s = .next (s.refuses Header.gapRecover .busy)) ∧
      (s.knifeOccupied = false →
        exec .gapRecover s = .next (s.answers Header.gapRecover .ok [] (notReadyTest { s.toPart with
          feed := { s.feed with holds := { s.feed.holds with gapFault := false } }
          gap := { s.gap with
            state := .moving
            settle := 0
            moveTimer := some (s.settings.gapMoveTimeout * 10000)
            jackOrder := .target g.gap
            jackOrders := s.gap.jackOrders + 1 } }))))) ∧
  (∀ p : Part,
    (p.knifeOccupied = true ↔ (∃ h ∈ p.hides, h.state = .splitting) ∨ p.feed.holds.hideAborted = true ∨
      p.feed.holds.stopRecovery = true) ∧
    notReadyTest p = { p with feed := { p.feed with holds := { p.feed.holds with gapNotReady := p.notReady } } } ∧
    ((∀ h ∈ p.hides, h.state = .entering → h.approachReached = false) → p.notReady = false) ∧
    (∀ (h : Hide) (f : PlanFields), p.hides.find? (fun x => x.state == .entering && x.approachReached) = some h →
      h.snapshot = some f →
      (p.notReady = false ↔ p.gap.state = .idle ∧ ∃ a : GapTol, p.gap.active = some a ∧ a.gap = f.splitGap)) ∧
    (∀ g : GapTol, startMove g p = notReadyTest { p with gap := { p.gap with
      state := .moving
      target := some g
      settle := 0
      moveTimer := some (p.settings.gapMoveTimeout * 10000)
      jackOrder := .target g.gap
      jackOrders := p.gap.jackOrders + 1 } }) ∧
    ((p.knifeOccupied = true ∨ ∀ h ∈ p.hides, h.state ≠ .entering) → stage p = p) ∧
    (∀ (h : Hide) (f : PlanFields), p.knifeOccupied = false →
      p.hides.find? (fun x => x.state == .entering) = some h → h.snapshot = some f →
      stage p = { p with gap := { p.gap with staged := some ⟨f.splitGap, f.gapTolerance⟩ } })) ∧
  ∀ (p q : Part) (applies : Prop) (starts : Option GapTol) (drifted : Bool), q = stage p →
    (applies ↔ q.settings.gapMethod = .host ∧ q.gap.applyPending = true ∧ q.knifeOccupied = false ∧
      (q.gap.state = .idle ∨ q.gap.state = .stale)) →
    (∀ g : GapTol, starts = some g ↔ q.settings.gapMethod = .atClear ∧ q.knifeOccupied = false ∧
      q.gap.staged = some g ∧
      (q.gap.state = .stale ∨ q.gap.state = .idle ∧ ∀ a : GapTol, q.gap.active = some a → a.gap ≠ g.gap)) →
    (drifted = true ↔ q.knifeOccupied = false ∧ q.gap.state = .idle ∧ ∃ (a : GapTol) (l r : Nat),
      q.gap.active = some a ∧ q.gap.lastPair = some (l, r) ∧
      ¬(l ≤ a.gap + a.tol ∧ a.gap ≤ l + a.tol ∧ r ≤ a.gap + a.tol ∧ a.gap ≤ r + a.tol)) →
    startTest q = (match starts with
      | some g => startMove g q
      | none => q) ∧
    (applies → ∀ g : GapTol, q.gap.staged = some g →
      gapHandOn p = notReadyTest (startMove g { q with gap := { q.gap with applyPending := false } }) ∧
      gapCleared p = notReadyTest (startMove g { q with gap := { q.gap with applyPending := false } })) ∧
    (¬applies → gapHandOn p = notReadyTest (startTest q) ∧
      gapCleared p = notReadyTest (match starts, q.gap.active with
        | some g, _ => startMove g q
        | none, some a => if drifted = true then startMove a q else q
        | none, none => q))

/-- R80, R86, R91: a gauge pair becomes the last pair and then acts as the axis state calls for, the excursion test
before the settle test. The excursion test acts only while a record is SPLITTING, with the move target while MOVING and
the active gap otherwise as reference, and the record's own tolerance; the settle count counts consecutive pairs in
tolerance, and the third completes the move with GAP_MOVE_DONE, the readiness test and the start test. -/
def Obligations.GaugePairsSettleAndWatch : Prop :=
  (∀ (left right : Half) (s : State) (q : Part),
    q = { s.toPart with gap := { s.gap with lastPair := some (left.toNat, right.toNat) } } →
    exec (.gaugePair left right) s = .next (s.withPart (match s.gap.state with
      | .fault => q
      | .moving => settleTest left.toNat right.toNat (excursionTest left.toNat right.toNat q)
      | _ => excursionTest left.toNat right.toNat q))) ∧
  (∀ (l r : Nat) (p : Part), (∀ h ∈ p.hides, h.state ≠ .splitting) → excursionTest l r p = p) ∧
  (∀ (l r : Nat) (p : Part) (h : Hide) (f : PlanFields) (reference : Option Nat) (out : Bool),
    p.hides.find? (fun x => x.state == .splitting) = some h → h.snapshot = some f →
    reference = (if p.gap.state = .moving then p.gap.target.map (·.gap) else p.gap.active.map (·.gap)) →
    out = (match reference with
      | some g => !(decide (l ≤ g + f.gapTolerance ∧ g ≤ l + f.gapTolerance) &&
          decide (r ≤ g + f.gapTolerance ∧ g ≤ r + f.gapTolerance))
      | none => true) →
    excursionTest l r p = if out = true ∧ p.gap.excursionRun = false then
      raise (.gapExcursion h.ticket h.article) { p with
        gap := { p.gap with excursionRun := true }
        hides := p.hides.map fun x => if x.ticket == h.ticket then
          { x with gapExcursions := min (x.gapExcursions + 1) 65535 } else x }
    else { p with gap := { p.gap with excursionRun := out } }) ∧
  ∀ (l r : Nat) (p : Part) (g : GapTol) (within : Bool), p.gap.target = some g →
    within = (decide (l ≤ g.gap + g.tol ∧ g.gap ≤ l + g.tol) && decide (r ≤ g.gap + g.tol ∧ g.gap ≤ r + g.tol)) →
    (within = false → settleTest l r p = { p with gap := { p.gap with settle := 0 } }) ∧
    (within = true → p.gap.settle ≠ 2 →
      settleTest l r p = { p with gap := { p.gap with settle := p.gap.settle + 1 } }) ∧
    (within = true → p.gap.settle = 2 →
      settleTest l r p = startTest (notReadyTest (raise (.gapMoveDone g.gap) { p with gap := { p.gap with
        state := .idle
        active := some g
        target := none
        settle := 0
        moveTimer := none } })))

/-- R86, R87: MOVE_COMPLETION is the gauge pair that completes the move under way, and no other pair (log entry 27): in
another axis state, at another settle count, or out of tolerance on either side, nothing happens. MOVE_TIMER_EXPIRY
faults a MOVING axis, with a halt order (jackOrders: log entry 20), GAP_FAULT as hold cause, attention cause and event,
target and active gap kept, and does nothing in any other state. -/
def Obligations.MovesCompleteOrFault : Prop :=
  (∀ (left right : Half) (g : GapTol) (s : State), s.gap.state = .moving → s.gap.target = some g →
    s.gap.settle = 2 → withinTolerance g.gap g.tol left.toNat right.toNat = true →
    ∃ t : State, exec (.moveCompletion left right) s = .next t ∧ exec (.gaugePair left right) s = .next t ∧
      t.gap.active = some g ∧ t.gap.lastPair = some (left.toNat, right.toNat) ∧
      (t.gap.state = .idle ∨ t.gap.state = .moving) ∧ t.gap.settle = 0 ∧ t.gap.staged = s.gap.staged ∧
      t.articles = s.articles ∧ t.lanes = s.lanes ∧ t.settings = s.settings ∧ t.eye = s.eye ∧ t.bus = s.bus) ∧
  (∀ gap tol left right : Nat, withinTolerance gap tol left right = true ↔
    (left ≤ gap + tol ∧ gap ≤ left + tol) ∧ right ≤ gap + tol ∧ gap ≤ right + tol) ∧
  (∀ (left right : Half) (s : State), (s.gap.state ≠ .moving ∨ s.gap.settle ≠ 2) →
    exec (.moveCompletion left right) s = .next s) ∧
  (∀ (left right : Half) (s : State), s.gap.state = .moving → s.gap.settle = 2 →
    (∀ g : GapTol, s.gap.target = some g → withinTolerance g.gap g.tol left.toNat right.toNat = false) →
    exec (.moveCompletion left right) s = .next s) ∧
  (∀ (g : GapTol) (s : State), s.gap.state = .moving → s.gap.target = some g →
    exec .moveTimerExpiry s = .next (s.withPart (notReadyTest (raise (.gapFault g.gap) { s.toPart with
      gap := { s.gap with
        state := .fault
        settle := 0
        moveTimer := none
        jackOrder := .halt
        jackOrders := s.gap.jackOrders + 1 }
      feed := { s.feed with holds := { s.feed.holds with gapFault := true } }
      port := { s.port with attention := { s.port.attention with gapFault := true } } })))) ∧
  ∀ s : State, s.gap.state ≠ .moving → exec .moveTimerExpiry s = .next s

/-! ## Reads -/

/-- R57, R76, R94, R116, R137, R149, R167, R178, R182, R183, R193, R197: every read answers OK with the bytes its
layout of chapter 12 gives, of the length stated there, and changes nothing else; a number out of range is refused
RANGE. Numbers are sent most significant byte first, a byte of flags has its first flag in bit 0, and every coded
value has the code of chapter 12, but for the pin level in LINE READ, which chapter 12 does not code: 1 for high and 0
for low is the model's choice (log entry 51). So are the zero bytes in TUNE READ of the last trial average of a member
that has made no trial (log entry 39). Remaining times are rounded down (log entry 18), the bytes of BOARD READ for
the master and the cursor are log entry 19's, the FOLLOW item of a DIRECT line is entry 47's, the pin level of a
released line is free (entry 16), and so are the first three bits of a pressure case other than SPLIT (entry 17). -/
def Obligations.ReadsAnswerTheirLayouts : Prop :=
  (∀ s : State, s.port.acceptIn = none →
    (∃ reply : List Byte, reply.length = 11 ∧
      reply = bytes4 s.feed.position ++ u8 s.feed.backwardRun ++ u8 s.feed.runState.code ++ s.feed.holds.bytes ++
        [flagByte [s.feedEnable, s.feed.stopLine, s.knifeOccupied]] ++ u16 s.speedReference ∧
      exec .feedRead s = .next (s.answers Header.feedRead .ok reply s.toPart)) ∧
    (∃ reply : List Byte, reply.length = 10 ∧
      reply = u8 s.eye.state.code ++
        [flagByte [s.eyeDark, s.settings.eyePolarity == .darkLow, s.eye.state.held.isSome]] ++
        bytes4 (s.eye.state.held.getD 0) ++ bytes4 s.feed.position ∧
      exec .eyeRead s = .next (s.answers Header.eyeRead .ok reply s.toPart)) ∧
    (∃ reply : List Byte, reply.length = 21 ∧
      reply = u8 s.gap.state.code ++
        [flagByte [s.feed.holds.gapFault],
         flagByte [s.gap.active.isSome, s.gap.staged.isSome, s.gap.target.isSome, s.gap.lastPair.isSome,
           s.gap.moveTimer.isSome, s.gap.excursionRun, s.gap.applyPending, s.feed.holds.gapNotReady]] ++
        u16 (s.gap.active.getD ⟨0, 0⟩).gap ++ u8 (s.gap.active.getD ⟨0, 0⟩).tol ++
        u16 (s.gap.staged.getD ⟨0, 0⟩).gap ++ u8 (s.gap.staged.getD ⟨0, 0⟩).tol ++
        u16 (s.gap.target.getD ⟨0, 0⟩).gap ++ u8 (s.gap.target.getD ⟨0, 0⟩).tol ++
        u8 s.gap.settle ++ u16 (s.gap.lastPair.getD (0, 0)).1 ++ u16 (s.gap.lastPair.getD (0, 0)).2 ++
        u8 (s.gap.moveTimer.getD 0 / 10000) ++ u8 (if s.settings.gapMethod = .atClear then 0 else 1) ++
        u8 s.settings.defaultGapTolerance ++ u8 s.settings.gapMoveTimeout ∧
      exec .gapRead s = .next (s.answers Header.gapRead .ok reply s.toPart)) ∧
    (∃ reply : List Byte, reply.length = 25 ∧
      reply = u16 s.settings.throatLength ++ u16 s.settings.maximumHideLength ++ u16 s.settings.gapFilter ++
        u16 s.settings.leadDebounce ++ u16 s.settings.approachMargin ++
        u8 (if s.settings.eyePolarity = .darkHigh then 0 else 1) ++
        u8 (if s.settings.unannouncedPolicy = .refuse then 0 else 1) ++ u16 s.settings.idleFeedSpeed ++
        u16 s.settings.idlePressure ++ u16 s.settings.parkPressure ++ u8 s.settings.scanPeriod ++
        u8 (if s.settings.gapMethod = .atClear then 0 else 1) ++ u8 s.settings.defaultGapTolerance ++
        u8 s.settings.gapMoveTimeout ++ u8 s.settings.selectTimeout ++ u8 s.settings.sessionFrameLimit ++
        u8 s.settings.releaseInterval ∧
      exec .machineReadSettings s = .next (s.answers Header.machineReadSettings .ok reply s.toPart)) ∧
    (∀ (lane : Byte) (n : LaneNo) (l : Lane) (global : Bool), lane.toNat = n.val → l = s.lane n →
      (global = true ↔ ∃ m : LaneNo, (s.lane m).service = .inService ∧ (s.lane m).tune = .tuned ∧
        (s.lane m).contact ≠ .empty ∧ (s.lane m).settings.haltEnable = true) →
      ∃ reply : List Byte, reply.length = 35 ∧
        reply = u8 n.val ++ u8 l.service.code ++ u8 l.tune.code ++ u8 l.contact.code ++
          [flagByte [l.seedPending, l.service == .inService && l.tune == .tuned, global,
            l.settings.haltEnable && global]] ++
          u16 l.lastRaw ++ u16 l.lastConditioned ++ u16 l.reference ++ u8 l.enterCount ++ u8 l.exitCount ++
          u32 l.distance ++ u8 l.railCount ++ u8 l.calibration.gain ++ u16 l.calibration.offset ++
          u16 l.settings.contactThreshold ++ u8 l.settings.hysteresis ++ u8 l.settings.enterDebounce ++
          u8 l.settings.exitDebounce ++ u16 l.settings.bottomLimit ++ u32 l.settings.contactLimit ++
          u8 l.settings.referenceBeta ++ u8 l.settings.fastBeta ++ u8 (if l.settings.haltEnable = true then 1 else 0) ∧
        exec (.laneRead lane) s = .next (s.answers Header.laneRead .ok reply s.toPart)) ∧
    (∀ (lane : Byte) (n : LaneNo) (inContact : LaneNo → Prop) (span : Option (LaneNo × LaneNo)) (seeing : Bool),
      lane.toNat = n.val → seeing = ((s.lane n).service == .inService && (s.lane n).tune == .tuned) →
      (∀ m : LaneNo, inContact m ↔
        (s.lane m).service = .inService ∧ (s.lane m).tune = .tuned ∧ (s.lane m).contact ≠ .empty) →
      (match span with
        | some (a, z) => inContact a ∧ inContact z ∧ ∀ m : LaneNo, inContact m → a ≤ m ∧ m ≤ z
        | none => ∀ m : LaneNo, ¬inContact m) →
      (∀ code : Nat, (s.pressure.stopLevel = true ∧ code = 0 ∨
          s.pressure.stopLevel = false ∧ seeing = false ∧ code = 1 ∨
          s.pressure.stopLevel = false ∧ seeing = true ∧ (∀ h ∈ s.hides, h.state ≠ .splitting) ∧ code = 2) →
        ∃ (reply : List Byte) (flags : Byte), reply.length = 15 ∧ (∀ i : Nat, 3 ≤ i → flags.getLsbD i = false) ∧
          reply = u16 (s.wanted n) ++ u8 code ++ [flagByte [false, span.isSome, false], flags] ++ u16 0 ++
            u8 (span.getD (0, 0)).1.val ++ u8 (span.getD (0, 0)).2.val ++ u16 0 ++ u16 s.settings.idlePressure ++
            u16 s.settings.parkPressure ∧
          exec (.lanePressure lane) s = .next (s.answers Header.lanePressure .ok reply s.toPart)) ∧
      (∀ (h : Hide) (f : PlanFields) (edge bridged : Bool) (sum : Int), s.pressure.stopLevel = false → seeing = true →
        s.hides.find? (fun x => x.state == .splitting) = some h → h.snapshot = some f →
        edge = (match span with
          | some (a, z) => decide (a ≤ n ∧ n ≤ z ∧ (n.val - a.val < f.edgeBand ∨ z.val - n.val < f.edgeBand))
          | none => false) →
        (bridged = true ↔ ∃ m : LaneNo, (m.val + 1 = n.val ∨ n.val + 1 = m.val) ∧
          ¬((s.lane m).service = .inService ∧ (s.lane m).tune = .tuned)) →
        sum = (f.basePressure : Int) - (if edge = true then (f.edgeRelief : Int) else 0)
          - (if (s.lane n).contact = .bottomed then (f.bottomRelief : Int) else 0)
          + (if bridged = true then (f.bridgeBoost : Int) else 0) →
        ∃ reply : List Byte, reply.length = 15 ∧
          reply = u16 (s.wanted n) ++ u8 3 ++ [flagByte [true, span.isSome, true],
            flagByte [edge, (s.lane n).contact == .bottomed, bridged, decide (sum < 0 ∨ 600 < sum)]] ++ u16 h.ticket ++
            u8 (span.getD (0, 0)).1.val ++ u8 (span.getD (0, 0)).2.val ++ bytes2 (BitVec.ofInt 16 sum) ++
            u16 s.settings.idlePressure ++ u16 s.settings.parkPressure ∧
          exec (.lanePressure lane) s = .next (s.answers Header.lanePressure .ok reply s.toPart))) ∧
    (∀ (lane : Byte) (n : LaneNo) (t : LaneTuning) (width : Nat) (member : Option Member) (origin : Nat)
        (members : Word), lane.toNat = n.val → t = s.laneTuning n →
      width = t.settings.target * t.settings.band / 100 →
      (match s.tuning.batch with
        | some b => member = (if b.running = true then b.members.find? (fun m => m.lane == n) else none) ∧
            origin = b.origin.code ∧
            ∀ m : LaneNo, members.getLsbD m.val = b.members.any fun x => x.lane == m
        | none => member = none ∧ origin = 0 ∧ members = 0) →
      ∃ reply : List Byte, reply.length = 25 ∧
        reply = u8 (s.lane n).tune.code ++ u8 t.settings.mode.code ++ u16 t.settings.base ++ u16 t.settings.target ++
          u8 t.settings.band ++ u8 t.settings.holdoff ++
          [flagByte [t.settings.automatic, t.requested, t.holdoff.isSome, s.batchRunning, s.tuning.batch.isSome,
            member.isSome]] ++
          u16 (t.settings.target - width) ++ u16 (t.settings.target + width) ++ u8 (t.holdoff.getD 0 / 100000) ++
          u8 origin ++ bytes4 members ++
          (match member with
            | some m => u8 m.phase.code ++ (match m.phase with
                | .gain trial base _ => u8 trial ++ u8 base
                | _ => [0, 0]) ++ u8 m.readings ++ u16 (m.lastAverage.getD 0)
            | none => [0, 0, 0, 0, 0, 0]) ∧
        exec (.tuneRead lane) s = .next (s.answers Header.tuneRead .ok reply s.toPart)) ∧
    (∀ lane : Byte, 32 ≤ lane.toNat →
      exec (.laneRead lane) s = .next (s.refuses Header.laneRead .range) ∧
      exec (.lanePressure lane) s = .next (s.refuses Header.lanePressure .range) ∧
      exec (.tuneRead lane) s = .next (s.refuses Header.tuneRead .range)) ∧
    (∀ (x : Byte) (b : BoardNo) (session : Bool) (entry : LaneNo → List Byte), x.toNat = b.val →
      (session = true ↔ s.bus.master = .opened b ∨ s.bus.master = .draining b) →
      (∀ n : LaneNo, entry n = [BitVec.ofNat 8 ((s.drive n).state.code +
          (if (s.lane n).service = .faulted .drive ∨ (s.lane n).service = .faulted .board then 0 else 4) +
          (if (s.drive n).applied.isSome = true then 8 else 0) + 16 * (s.drive n).retry)] ++
        u16 (s.wanted n) ++ u16 ((s.drive n).applied.getD 0) ++ u16 (match (s.drive n).state with
          | .inFlight v => v
          | _ => 0)) →
      ∃ reply : List Byte, reply.length = 65 ∧
        reply = u8 b.val ++ u8 (s.bus.boards[b.val]).code ++ u8 s.bus.master.code ++ u8 s.bus.pointer.val ++
          u8 (if session = true then s.bus.frameCount else 0) ++
          u8 (if session = true then 4 * b.val + s.bus.cursor.val else 0) ++
          ((List.finRange 8).flatMap fun i => entry ⟨8 * b.val + i.val, by omega⟩) ++
          u8 s.settings.selectTimeout ++ u8 s.settings.sessionFrameLimit ++ u8 s.settings.releaseInterval ∧
        exec (.boardRead x) s = .next (s.answers Header.boardRead .ok reply s.toPart)) ∧
    (∀ (x : Byte) (i : Fin 4), x.toNat = i.val →
      (∃ reply : List Byte, reply.length = 10 ∧
        reply = u8 (if (s.line i).mode = .routed then 0 else 1) ++ u8 (if (s.line i).drive = .pushPull then 0 else 1) ++
          u8 (if (s.line i).directActive = true then 1 else 0) ++ u8 (if (s.line i).latched = true then 1 else 0) ++
          u8 (if (s.line i).pulse.isSome = true then 1 else 0) ++ u16 ((s.line i).pulse.getD 0 / 100) ++
          u8 (if s.lineFollowed i = true then 1 else 0) ++ u8 (if s.lineActive i = true then 1 else 0) ++
          u8 (if s.linePinHigh i = true then 1 else 0) ∧
        exec (.lineRead x) s = .next (s.answers Header.lineRead .ok reply s.toPart)) ∧
      ∀ t : Tally, t = s.tallies[i.val] → ∃ reply : List Byte, reply.length = 10 ∧
        reply = bytes4 t.count ++ bytes4 t.threshold ++ u8 (if t.scope = .running then 0 else 1) ++
          [flagByte [t.invert, t.frozen, t.freezeOnStop, t.frozen || (t.freezeOnStop && s.feed.stopLine)]] ∧
        exec (.tallyRead x) s = .next (s.answers Header.tallyRead .ok reply s.toPart)) ∧
    (∀ x : Byte, 4 ≤ x.toNat →
      exec (.boardRead x) s = .next (s.refuses Header.boardRead .range) ∧
      exec (.lineRead x) s = .next (s.refuses Header.lineRead .range) ∧
      exec (.tallyRead x) s = .next (s.refuses Header.tallyRead .range)) ∧
    (∀ (index : Byte) (i : Fin 16) (r : Route), index.toNat = i.val → r = s.routes[i.val] →
      ∃ reply : List Byte, reply.length = 12 ∧
        reply = u8 i.val ++ u8 (if r.enabled = true then 1 else 0) ++ u8 r.source.code ++
          (match r.filter with
            | .lanes mask => bytes4 mask
            | .article code => u32 code
            | .tallies mask => u32 mask.toNat
            | .none => [0, 0, 0, 0]) ++ u8 r.task.code ++
          (match r.task with
            | .pulseLines lines width => u8 lines.toNat ++ u8 width ++ [0]
            | .setLines lines => u8 lines.toNat ++ [0, 0]
            | .clearLines lines => u8 lines.toNat ++ [0, 0]
            | .follow lines => u8 lines.toNat ++ [0, 0]
            | .tallyStep k => [0, 0] ++ u8 k.val
            | _ => [0, 0, 0]) ++
          u8 (match r.source with
            | .level l => if s.levelHolds l r.filter = true then 1 else 0
            | .event _ => 0) ∧
        exec (.routeRead index) s = .next (s.answers Header.routeRead .ok reply s.toPart)) ∧
    (∀ index : Byte, 16 ≤ index.toNat →
      exec (.routeRead index) s = .next (s.refuses Header.routeRead .range))) ∧
  ((∀ x : Nat, u8 x = [BitVec.ofNat 8 x]) ∧ (∀ x : Nat, u16 x = [BitVec.ofNat 8 (x / 2 ^ 8), BitVec.ofNat 8 x]) ∧
    (∀ x : Nat, u32 x = [BitVec.ofNat 8 (x / 2 ^ 24), BitVec.ofNat 8 (x / 2 ^ 16), BitVec.ofNat 8 (x / 2 ^ 8),
      BitVec.ofNat 8 x]) ∧
    (∀ x : Half, bytes2 x = u16 x.toNat) ∧ (∀ x : Word, bytes4 x = u32 x.toNat) ∧
    (∀ (flags : List Bool) (i : Nat), flags.length ≤ 8 → (flagByte flags).getLsbD i = flags.getD i false) ∧
    (∀ h : HoldSet, h.bytes = [flagByte [h.gapFault, h.tuning, h.reverse], flagByte [h.stopLine, h.stopRecovery,
      h.hostHold, h.routeHold, h.unboundEdge, h.overlength, h.hideAborted, h.gapNotReady]]) ∧
    (∀ a : AttentionSet, a.bytes = [flagByte [a.laneFault, a.stop, a.route], flagByte [a.restarted, a.hideDone,
      a.unboundEdge, a.overlength, a.articleGone, a.tuneDone, a.gapFault, a.boardFault]]) ∧
    (∀ c : Pos, [EyeState.clear, .leadPending c, .body, .tailPending c, .discard none, .discard (some c)].map
      EyeState.held = [none, some c, none, some c, none, some c])) ∧
  [HideState.announced, .entering, .splitting, .cleared, .aborted].map HideState.code = [1, 2, 3, 4, 5] ∧
  [RunState.stopped, .running, .stoppingAtClear, .stoppingBeforeNext].map RunState.code = [0, 1, 2, 3] ∧
  (∀ (c : Pos) (light : Option Pos), [EyeState.clear, .leadPending c, .body, .tailPending c, .discard light].map
    EyeState.code = [0, 1, 2, 3, 4]) ∧
  [AxisState.idle, .moving, .stale, .fault].map AxisState.code = [0, 1, 2, 3] ∧
  [Service.inService, .parked, .faulted .sensor, .faulted .drive, .faulted .board].map Service.code =
    [0, 1, 2, 3, 4] ∧
  [TuneState.untuned, .tuning, .tuned, .tuneError .gain, .tuneError .offsetMin, .tuneError .offsetMax,
    .tuneError .verify].map TuneState.code = [0, 1, 2, 3, 4, 5, 6] ∧
  [Contact.empty, .contact, .bottomed].map Contact.code = [0, 1, 2] ∧
  [BoardState.unknown, .ready, .faulted .timeout, .faulted .refused, .faulted .silent].map BoardState.code =
    [0, 1, 2, 3, 4] ∧
  (∀ b : BoardNo, [MasterState.idle, .selecting b, .opened b, .draining b, .releasing].map MasterState.code =
    [0, 1 + 16 * b.val, 2 + 16 * b.val, 3 + 16 * b.val, 4]) ∧
  [Verdict.none, .pass, .reject].map Verdict.code = [0, 1, 2] ∧ [AbortCause.host, .stop].map AbortCause.code = [1, 2] ∧
  [EventKind.laneContactOn, .laneBottomOn, .laneReseed, .laneFault, .lanePhantom, .tuneError, .boardFault, .hideEntering,
    .hideSplitting, .hideCleared, .hideReject, .hideAborted, .overlength, .gapExcursion, .unboundEdge, .gapMoveDone,
    .gapFault, .tallyReached].map (fun k => (Source.event k).code) = List.range 18 ∧
  [Level.anyContact, .anyBottomed, .anyBlind, .feedEnabled, .feedHeld, .gapMoving].map
    (fun l => (Source.level l).code) = [32, 33, 34, 35, 36, 37] ∧
  (∀ (lines : BitVec 4) (width : Nat) (k : Fin 4), [Task.attend, .holdFeed, .stopAtClear, .pulseLines lines width,
    .setLines lines, .clearLines lines, .follow lines, .tallyStep k].map Task.code = [0, 1, 2, 3, 4, 5, 6, 7]) ∧
  [TuneMode.full, .offsetOnly, .off].map TuneMode.code = [0, 1, 2] ∧
  [Origin.host, .automatic].map Origin.code = [0, 1] ∧
  (∀ trial base passing : Nat, [Phase.gain trial base passing, .offset, .verify, .finished].map Phase.code =
    [0, 1, 2, 3]) ∧
  ∀ v : Nat, [DriveState.settled, .waiting, .inFlight v].map DriveState.code = [0, 1, 2]

/-! ## Lanes -/

/-- R99, R113 to R115, R157: LANE PARK, LANE UNPARK and LANE RECOVER in the order of their rules. The lane drops to
EMPTY in silence, every lane is recomputed, and a lane recovered from FAULTED(DRIVE) is driven again with its applied
value absent; a refusal changes nothing. -/
def Obligations.LaneServiceCommandsDecide : Prop :=
  ∀ (lane : Byte) (s : State), s.port.acceptIn = none →
    (32 ≤ lane.toNat → exec (.lanePark lane) s = .next (s.refuses Header.lanePark .range) ∧
      exec (.laneUnpark lane) s = .next (s.refuses Header.laneUnpark .range) ∧
      exec (.laneRecover lane) s = .next (s.refuses Header.laneRecover .range)) ∧
    ∀ n : LaneNo, lane.toNat = n.val →
      ((∃ k, (s.lane n).service = .faulted k) → exec (.lanePark lane) s = .next (s.refuses Header.lanePark .state)) ∧
      ((∀ k, (s.lane n).service ≠ .faulted k) → (s.lane n).tune = .tuning →
        exec (.lanePark lane) s = .next (s.refuses Header.lanePark .busy)) ∧
      ((s.lane n).service = .parked → (s.lane n).tune ≠ .tuning →
        exec (.lanePark lane) s = .next (s.answers Header.lanePark .ok [] s.toPart)) ∧
      ((s.lane n).service = .inService → (s.lane n).tune ≠ .tuning →
        exec (.lanePark lane) s = .next (s.thenWakes (s.answers Header.lanePark .ok []
          (recompute (s.setLane n { s.lane n with
            service := .parked, contact := .empty, enterCount := 0, exitCount := 0, distance := 0
            railCount := 0 }))).toPart)) ∧
      ((s.lane n).service = .parked →
        exec (.laneUnpark lane) s = .next (s.thenWakes (s.answers Header.laneUnpark .ok []
          (recompute (s.setLane n { s.lane n with
            service := .inService, contact := .empty, enterCount := 0, exitCount := 0, distance := 0 }))).toPart)) ∧
      ((s.lane n).service ≠ .parked →
        exec (.laneUnpark lane) s = .next (s.refuses Header.laneUnpark .state)) ∧
      ((s.lane n).service ≠ .faulted .sensor → (s.lane n).service ≠ .faulted .drive →
        exec (.laneRecover lane) s = .next (s.refuses Header.laneRecover .state)) ∧
      ∀ l : Lane, l = { s.lane n with
          service := .inService, tune := .untuned, contact := .empty, enterCount := 0, exitCount := 0, distance := 0
          railCount := 0 } →
        ((s.lane n).service = .faulted .sensor →
          exec (.laneRecover lane) s = .next (s.thenWakes (s.answers Header.laneRecover .ok []
            (recompute (s.setLane n l))).toPart)) ∧
        ((s.lane n).service = .faulted .drive →
          exec (.laneRecover lane) s = .next (s.thenWakes (s.answers Header.laneRecover .ok []
            ((recompute (s.setLane n l)).setDrive n ⟨.waiting, none, 0⟩)).toPart))

/-- R111, R117, R122, R134, R136: LANE WRITE in the order of R117. Without a calibration the settings are replaced, and a
contact limit already covered in contact reseeds the lane at once (one written over 0 too: log entry 50); with one the lane
is also TUNED, EMPTY and seed pending, its holdoff disarmed, and every lane recomputed. TUNE WRITE out of range is refused
RANGE, to a TUNING lane BUSY; otherwise the six settings are replaced, and mode OFF or automatic retune off removes the
lane's request and disarms its holdoff. -/
def Obligations.LaneAndTuneWritesDecide : Prop :=
  (∀ (lane : Byte) (o : LaneSettingsOperands) (c : CalibrationOperands) (s : State), s.port.acceptIn = none →
     ((32 ≤ lane.toNat ∨ laneSettingsOperand o = none ∨ calibrationOperand c = none) →
       exec (.laneWrite lane o c) s = .next (s.refuses Header.laneWrite .range)) ∧
     ∀ (n : LaneNo) (t : LaneSettings), lane.toNat = n.val → laneSettingsOperand o = some t →
       ((calibrationOperand c).isSome = true → (s.lane n).tune = .tuning →
         exec (.laneWrite lane o c) s = .next (s.refuses Header.laneWrite .busy)) ∧
       (calibrationOperand c = some none → (s.lane n).tune ≠ .tuning →
         ((s.lane n).contact = .empty ∨ t.contactLimit = 0 ∨ (s.lane n).distance < t.contactLimit →
           exec (.laneWrite lane o c) s = .next (s.answers Header.laneWrite .ok []
             (s.setLane n { s.lane n with settings := t }))) ∧
         ((s.lane n).contact ≠ .empty → t.contactLimit ≠ 0 → t.contactLimit ≤ (s.lane n).distance →
           exec (.laneWrite lane o c) s = .next (s.thenWakes (s.answers Header.laneWrite .ok []
             (raise (.laneReseed n) (recompute (s.setLane n { s.lane n with
               settings := t, reference := (s.lane n).lastConditioned, contact := .empty, enterCount := 0
               exitCount := 0, distance := 0 })))).toPart))) ∧
       (∀ k : Calibration, calibrationOperand c = some (some k) → (s.lane n).tune ≠ .tuning →
         exec (.laneWrite lane o c) s = .next (s.thenWakes (s.answers Header.laneWrite .ok []
           ((recompute (s.setLane n { s.lane n with
             settings := t, calibration := k, tune := .tuned, seedPending := true, contact := .empty, enterCount := 0
             exitCount := 0, distance := 0 })).setLaneTuning n { s.laneTuning n with holdoff := none })).toPart))) ∧
  ∀ (lane : Byte) (o : TuneOperands) (s : State), s.port.acceptIn = none →
    ((32 ≤ lane.toNat ∨ 2 < o.mode.toNat ∨ o.base.toNat < 256 ∨ 3072 < o.base.toNat ∨ o.target.toNat < 64 ∨
        1024 < o.target.toNat ∨ o.band.toNat < 5 ∨ 50 < o.band.toNat ∨ 1 < o.automatic.toNat ∨
        o.holdoff.toNat = 0) → exec (.tuneWrite lane o) s = .next (s.refuses Header.tuneWrite .range)) ∧
    ∀ (n : LaneNo) (mode : TuneMode), lane.toNat = n.val → o.mode.toNat = mode.code → 256 ≤ o.base.toNat →
      o.base.toNat ≤ 3072 → 64 ≤ o.target.toNat → o.target.toNat ≤ 1024 → 5 ≤ o.band.toNat → o.band.toNat ≤ 50 →
      o.automatic.toNat ≤ 1 → 1 ≤ o.holdoff.toNat →
      ((s.lane n).tune = .tuning → exec (.tuneWrite lane o) s = .next (s.refuses Header.tuneWrite .busy)) ∧
      ((s.lane n).tune ≠ .tuning → ∀ kept : Bool, kept = (!(mode == .off) && o.automatic == 1) →
        exec (.tuneWrite lane o) s = .next (s.answers Header.tuneWrite .ok [] (s.setLaneTuning n
          ⟨⟨mode, o.base.toNat, o.target.toNat, o.band.toNat, o.automatic == 1, o.holdoff.toNat⟩,
            kept && (s.laneTuning n).requested, if kept = true then (s.laneTuning n).holdoff else none⟩)))

/-- R37, R38, R100 to R102, R104, R108, R130: every reading is conditioned, whatever the lane's state: times the gain
code, divided by 16 with the fraction dropped, less four times the offset, clamped to 0 to 4095. The fourth rail
reading in a row faults an IN_SERVICE lane: it is FAULTED(SENSOR) and EMPTY, an unfinished member of a running batch
is withdrawn with its saved values (as in log entry 40), every lane is recomputed, LANE_FAULT is raised with the kind
and its attention cause added, and then a batch that has ended completes (log entry 13). A blind lane that is not
TUNING takes nothing more; the reading of a TUNING lane goes to lane tuning, as clamped where its value before
clamping is above 4095 (log entry 11); a seeing lane with seed pending is seeded; any other seeing lane runs the
contact machine, whose change is handed to the hide table, the pressure unit and the reaction map in this order, and,
if it was EMPTY, the reference filter. A CONTACT_ON widens the SPLITTING record's coverage, or over an unoccupied
knife line is a phantom; a BOTTOM_ON is counted by the SPLITTING record. `l` is the lane with the reading conditioned
and its rail counter. L0's reading takes the scan period in force (log entry 30). -/
def Obligations.ReadingsAreTaken : Prop :=
  (∀ (n : LaneNo) (raw : Half) (s : State),
     ∃ t : State, exec (.laneReading n raw) s = .next t ∧
       (t.lane n).lastRaw = raw.toNat ∧
       ((t.lane n).lastConditioned : Int) = max 0 (min 4095
         (((raw.toNat * (s.lane n).calibration.gain / 16 : Nat) : Int) - 4 * ((s.lane n).calibration.offset : Int))) ∧
       (∀ m : LaneNo, m ≠ n → (t.lane m).lastRaw = (s.lane m).lastRaw ∧
         (t.lane m).lastConditioned = (s.lane m).lastConditioned) ∧
       (∀ m : LaneNo, (t.lane m).settings = (s.lane m).settings ∧
         (t.laneTuning m).settings = (s.laneTuning m).settings) ∧
       t.scanPeriod = (if n.val = 0 then s.settings.scanPeriod else s.scanPeriod) ∧
       t.articles = s.articles ∧ t.nextTicket = s.nextTicket ∧ t.unbound = s.unbound ∧ t.eye = s.eye ∧
       t.feed.position = s.feed.position ∧ t.feed.backwardRun = s.feed.backwardRun ∧
       t.feed.stopLine = s.feed.stopLine ∧ t.gap = s.gap ∧ t.settings = s.settings ∧ t.routes = s.routes ∧
       t.bus.boards = s.bus.boards ∧ t.port.slot = s.port.slot ∧ t.port.attentionMask = s.port.attentionMask) ∧
  (∀ (n : LaneNo) (raw : Half) (s : State) (l : Lane) (q : Part),
    l = { (s.lane n).read raw.toNat with railCount :=
      if (s.lane n).service = .inService then
        (if raw = 0 ∨ raw = 65535 then (s.lane n).railCount + 1 else 0) else (s.lane n).railCount } →
    q = { s.setLane n l with scanPeriod := if n.val = 0 then s.settings.scanPeriod else s.scanPeriod } →
    (l.service = .inService → l.railCount = 4 →
      ∃ t : State, exec (.laneReading n raw) s = .next t ∧ (t.lane n).service = .faulted .sensor ∧
        (t.lane n).railCount = 0 ∧ (t.lane n).contact = .empty ∧ t.port.attention.laneFault = true ∧
        ∀ m : LaneNo, m ≠ n → (t.lane m).service = (s.lane m).service ∧ (t.lane m).reference = (s.lane m).reference) ∧
    (l.service = .inService → l.railCount = 4 →
      exec (.laneReading n raw) s = .next (s.thenWakes (faultLane n .sensor q))) ∧
    ((l.service ≠ .inService ∨ l.railCount ≠ 4) →
      (l.seeing = false → l.tune ≠ .tuning → exec (.laneReading n raw) s = .next (s.withPart q)) ∧
      (l.seeing = false → l.tune = .tuning → exec (.laneReading n raw) s =
        .next (s.thenWakes (handReading n l.lastConditioned (decide (4095 < l.calibration.scale raw.toNat)) q))) ∧
      (l.seeing = true → l.seedPending = true → exec (.laneReading n raw) s = .next (s.withPart (q.setLane n
        { l with reference := l.lastConditioned, seedPending := false, enterCount := 0, exitCount := 0 }))) ∧
      (l.seeing = true → l.seedPending = false →
        ∀ sensed : Part, sensed = (match l.sense.2 with
          | none => q.setLane n l.sense.1
          | some .contactOn =>
            raise (.laneContactOn n) (recompute (attributeContact n (q.setLane n l.sense.1)))
          | some .bottomOn => raise (.laneBottomOn n) (recompute (attributeBottom (q.setLane n l.sense.1)))
          | some .bottomOff => recompute (q.setLane n l.sense.1)
          | some .contactOff => recompute (q.setLane n l.sense.1)) →
        exec (.laneReading n raw) s =
          .next (s.thenWakes (if l.contact = .empty then filterReference n sensed else sensed))))) ∧
  (∀ (n : LaneNo) (kind : LaneFaultKind) (p told : Part),
    told = raise (.laneFault n kind) (recompute (withdraw n (p.setLane n { p.lane n with
      service := .faulted kind, contact := .empty, enterCount := 0, exitCount := 0, distance := 0, railCount := 0 }))) →
    faultLane n kind p = completeBatch { told with
      port := { told.port with attention := { told.port.attention with laneFault := true } } }) ∧
  (∀ (n : LaneNo) (p : Part),
    ((∀ b : Batch, p.tuning.batch = some b → b.running = false ∨ ∀ m ∈ b.members, m.lane = n → m.phase = .finished) →
      withdraw n p = p) ∧
    ∀ (b : Batch) (m : Member) (v : Saved), p.tuning.batch = some b → b.running = true →
      b.members.find? (fun x => x.lane == n) = some m → m.phase ≠ .finished → m.saved = some v →
      withdraw n p = (p.setLane n { p.lane n with
        calibration := v.calibration, reference := v.reference, seedPending := v.seedPending, tune := v.tune
        contact := .empty, enterCount := 0, exitCount := 0, distance := 0 }).modifyMember n fun x => { x with
          phase := .finished, readings := 0, sum := 0, clamped := false, saved := none }) ∧
  (∀ (c : Calibration) (raw : Nat), c.scale raw = ((raw * c.gain / 16 : Nat) : Int) - 4 * (c.offset : Int)) ∧
  (∀ (n : LaneNo) (p : Part) (h : Hide), p.hides.find? (fun x => x.state == .splitting) = some h →
    attributeContact n p = { p with hides := p.hides.map fun x => if x.ticket == h.ticket then
      { x with coverage := match x.coverage with
        | some (a, z) => some (min a n.val, max z n.val)
        | none => some (n.val, n.val) } else x } ∧
    attributeBottom p = { p with hides := p.hides.map fun x => if x.ticket == h.ticket then
      { x with bottomEvents := min (x.bottomEvents + 1) 65535 } else x }) ∧
  ∀ (n : LaneNo) (p : Part), (∀ h ∈ p.hides, h.state ≠ .splitting) → attributeBottom p = p ∧
    (p.feed.holds.hideAborted = true ∨ p.feed.holds.stopRecovery = true → attributeContact n p = p) ∧
    (p.feed.holds.hideAborted = false → p.feed.holds.stopRecovery = false →
      attributeContact n p = raise (.lanePhantom n) p)

/-- R105 to R107: the contact machine of a lane, from its counters, debounces and levels; `delta` is the conditioned
reading less the reference. -/
def Obligations.ContactMachineCounts : Prop :=
  ∀ (l : Lane) (delta : Int), delta = (l.lastConditioned : Int) - (l.reference : Int) →
    (l.contact = .empty →
      (delta < (l.settings.contactThreshold : Int) → l.sense = ({ l with enterCount := 0 }, none)) ∧
      ((l.settings.contactThreshold : Int) ≤ delta → l.enterCount + 1 < l.settings.enterDebounce →
        l.sense = ({ l with enterCount := l.enterCount + 1 }, none)) ∧
      ((l.settings.contactThreshold : Int) ≤ delta → l.settings.enterDebounce ≤ l.enterCount + 1 →
        l.sense = ({ l with contact := .contact, enterCount := 0, exitCount := 0, distance := 0 },
          some .contactOn))) ∧
    (l.contact = .contact → ∀ (enter exit : Nat),
      enter = (if l.settings.bottomLimit ≤ l.lastConditioned then l.enterCount + 1 else 0) →
      exit = (if delta < (l.settings.contactThreshold : Int) - (l.settings.hysteresis : Int)
        then l.exitCount + 1 else 0) →
      (0 < exit → l.settings.exitDebounce ≤ exit → l.sense =
        ({ l with contact := .empty, enterCount := 0, exitCount := 0, distance := 0 }, some .contactOff)) ∧
      ((exit = 0 ∨ exit < l.settings.exitDebounce) → 0 < enter → l.settings.enterDebounce ≤ enter → l.sense =
        ({ l with contact := .bottomed, enterCount := 0, exitCount := 0 }, some .bottomOn)) ∧
      ((exit = 0 ∨ exit < l.settings.exitDebounce) → (enter = 0 ∨ enter < l.settings.enterDebounce) →
        l.sense = ({ l with enterCount := enter, exitCount := exit }, none))) ∧
    (l.contact = .bottomed → ∀ exit : Nat,
      exit = (if (l.lastConditioned : Int) < (l.settings.bottomLimit : Int) - (l.settings.hysteresis : Int)
        then l.exitCount + 1 else 0) →
      ((exit = 0 ∨ exit < l.settings.exitDebounce) → l.sense = ({ l with exitCount := exit }, none)) ∧
      (0 < exit → l.settings.exitDebounce ≤ exit →
        (delta < (l.settings.contactThreshold : Int) - (l.settings.hysteresis : Int) → l.sense =
          ({ l with contact := .empty, enterCount := 0, exitCount := 0, distance := 0 }, some .contactOff)) ∧
        ((l.settings.contactThreshold : Int) - (l.settings.hysteresis : Int) ≤ delta → l.sense =
          ({ l with contact := .contact, enterCount := 0, exitCount := 0 }, some .bottomOff))))

/-- R62, R109 to R112, R134: global halt, and the reference filter on a lane that was EMPTY: below the threshold and not
halted, the reference moves toward the reading by the difference divided by 2 to the beta with the fraction dropped, at
least 1 and within 0 to 4095, and a reference outside the tune window hands a drift request to lane tuning, which keeps it
for an IN_SERVICE, TUNED lane with automatic retune on and a mode other than OFF, and makes the formation test unless the
request stood already (log entry 12). A forward step counts the contact distance of a lane out of EMPTY, up to 80000, and a
lane that has covered its contact limit reseeds: its reference becomes the last conditioned reading, it is EMPTY, every
lane is recomputed and LANE_RESEED is raised. LANE_RESEED commanded elsewhere changes nothing (log entry 1). -/
def Obligations.ReferencesFilterAndReseed : Prop :=
  (∀ (p : Part) (n : LaneNo), p.halted n = true ↔ (p.lane n).settings.haltEnable = true ∧
    ∃ m : LaneNo, (p.lane m).seeing = true ∧ (p.lane m).contact ≠ .empty ∧ (p.lane m).settings.haltEnable = true) ∧
  (∀ (n : LaneNo) (p : Part) (delta : Int),
     delta = ((p.lane n).lastConditioned : Int) - ((p.lane n).reference : Int) →
     (((p.lane n).settings.contactThreshold : Int) ≤ delta ∨ p.halted n = true → filterReference n p = p) ∧
     (delta < ((p.lane n).settings.contactThreshold : Int) → p.halted n = false →
       ∀ (magnitude reference : Nat) (l : Lane),
       magnitude = delta.natAbs / 2 ^ (if delta < 0 then (p.lane n).settings.fastBeta
         else (p.lane n).settings.referenceBeta) →
       reference = (if delta < 0 then (p.lane n).reference - max 1 magnitude
         else if 0 < delta then min 4095 ((p.lane n).reference + max 1 magnitude)
         else (p.lane n).reference) →
       (p.lane n).reference ≤ 4095 → l = { p.lane n with reference := reference } →
       ((p.laneTuning n).settings.target - (p.laneTuning n).settings.target * (p.laneTuning n).settings.band / 100 ≤
             reference ∧
           reference ≤ (p.laneTuning n).settings.target +
             (p.laneTuning n).settings.target * (p.laneTuning n).settings.band / 100 →
         filterReference n p = p.setLane n l) ∧
       (¬((p.laneTuning n).settings.target - (p.laneTuning n).settings.target * (p.laneTuning n).settings.band / 100 ≤
             reference ∧
           reference ≤ (p.laneTuning n).settings.target +
             (p.laneTuning n).settings.target * (p.laneTuning n).settings.band / 100) →
         filterReference n p = driftRequest n (p.setLane n l)))) ∧
  (∀ (n : LaneNo) (p : Part) (asks : Prop),
    (asks ↔ (p.laneTuning n).settings.automatic = true ∧ (p.laneTuning n).settings.mode ≠ .off ∧
      (p.lane n).service = .inService ∧ (p.lane n).tune = .tuned) →
    (asks → (p.laneTuning n).requested = false →
      driftRequest n p = formationTest (p.setLaneTuning n { p.laneTuning n with requested := true })) ∧
    (¬asks ∨ (p.laneTuning n).requested = true → driftRequest n p = p)) ∧
  (∀ (n : LaneNo) (s : State),
    ((s.lane n).contact ≠ .empty → (s.lane n).settings.contactLimit ≠ 0 →
      (s.lane n).settings.contactLimit ≤ (s.lane n).distance →
      exec (.laneReseed n) s = .next (s.thenWakes (raise (.laneReseed n) (recompute (s.setLane n { s.lane n with
        reference := (s.lane n).lastConditioned, contact := .empty, enterCount := 0, exitCount := 0
        distance := 0 }))))) ∧
    ((s.lane n).contact = .empty ∨ (s.lane n).settings.contactLimit = 0 ∨
        (s.lane n).distance < (s.lane n).settings.contactLimit → exec (.laneReseed n) s = .next s)) ∧
  ∀ (n : LaneNo) (p : Part),
    ((p.lane n).contact = .empty → forwardLane n p = p) ∧
    ((p.lane n).contact ≠ .empty → ∀ d : Nat, d = min ((p.lane n).distance + 1) 80000 →
      ((p.lane n).settings.contactLimit = 0 ∨ d < (p.lane n).settings.contactLimit →
        forwardLane n p = p.setLane n { p.lane n with distance := d }) ∧
      ((p.lane n).settings.contactLimit ≠ 0 → (p.lane n).settings.contactLimit ≤ d →
        forwardLane n p = raise (.laneReseed n) (recompute (p.setLane n { p.lane n with
          reference := (p.lane n).lastConditioned, contact := .empty, enterCount := 0, exitCount := 0
          distance := 0 }))))

/-! ## Lane tuning -/

/-- R124: TUNE START in the order of its rule. The lanes of the mask that are IN_SERVICE with a mode other than OFF
start a batch of origin HOST: their values are saved, they are TUNING and EMPTY with their first calibration, their
requests and holdoffs go, and TUNING is held; the other lanes are unchanged. The passing average 0 of a FULL member's first
trial is the model's choice (log entry 44). -/
def Obligations.TuneStartDecides : Prop :=
  ∀ (mask : Word) (s : State) (joins : LaneNo → Bool), s.port.acceptIn = none →
    (∀ n : LaneNo, joins n = true ↔ mask.getLsbD n.val = true ∧ (s.laneTuning n).settings.mode ≠ .off ∧
      (s.lane n).service = .inService) →
    ((s.batchRunning = true ∨ s.knifeOccupied = true ∨
        (∃ h ∈ s.hides, h.state = .entering ∧ h.approachReached = true)) →
      exec (.tuneStart mask) s = .next (s.refuses Header.tuneStart .busy)) ∧
    (s.batchRunning = false → s.knifeOccupied = false →
      (∀ h ∈ s.hides, h.state = .entering → h.approachReached = false) →
      ((∀ n : LaneNo, joins n = false) →
        exec (.tuneStart mask) s = .next (s.refuses Header.tuneStart .state)) ∧
      ((∃ n : LaneNo, joins n = true) →
        ∃ (t : State) (b : Batch) (members : Word), exec (.tuneStart mask) s = .next t ∧
          t.port.slot = ⟨Header.tuneStart, .ok, bytes4 members⟩ ∧
          (∀ n : LaneNo, members.getLsbD n.val = joins n) ∧
          t.tuning.batch = some b ∧ b.running = true ∧ b.origin = .host ∧
          (∀ n : LaneNo, (b.members.any fun m => m.lane == n) = joins n) ∧
          (∀ m ∈ b.members, m.readings = 0 ∧ m.sum = 0 ∧ m.clamped = false ∧
            m.phase = (if (s.laneTuning m.lane).settings.mode = .full then .gain 1 1 0 else .offset) ∧
            m.saved = some ⟨(s.lane m.lane).calibration, (s.lane m.lane).reference, (s.lane m.lane).seedPending,
              (s.lane m.lane).tune⟩) ∧
          (∀ n : LaneNo, joins n = true →
            t.lane n = { s.lane n with
              tune := .tuning, seedPending := false, contact := .empty, enterCount := 0, exitCount := 0, distance := 0
              calibration := ⟨if (s.laneTuning n).settings.mode = .full then 9 else (s.lane n).calibration.gain, 0⟩ } ∧
            t.laneTuning n = ⟨(s.laneTuning n).settings, false, none⟩) ∧
          (∀ n : LaneNo, joins n = false → t.lane n = s.lane n ∧ t.laneTuning n = s.laneTuning n) ∧
          (∀ n : LaneNo, t.wanted n = t.pressureFor t.contactSpan n) ∧
          t.feed = { s.feed with holds := { s.feed.holds with tuning := true } } ∧ t.hides = s.hides ∧
          t.articles = s.articles ∧ t.gap = s.gap ∧ t.eye = s.eye ∧ t.port.attention = s.port.attention ∧
          t.settings = s.settings ∧ t.routes = s.routes ∧ t.lines = s.lines ∧ t.tallies = s.tallies))

/-- R132, R135: TUNE ABORT with no batch running is refused STATE; otherwise every member that is not FINISHED takes its
saved values back, the batch ends, TUNING is removed, every lane is recomputed, and the formation test, which
BatchEventsFollowTheirRules states, may start an automatic batch of waiting requests; the reply carries the lanes
restored. With no request waiting, no batch runs afterwards. -/
def Obligations.TuneAbortDecides : Prop :=
  ∀ s : State, s.port.acceptIn = none →
    (s.batchRunning = false → exec .tuneAbort s = .next (s.refuses Header.tuneAbort .state)) ∧
    (∀ b : Batch, s.tuning.batch = some b → b.running = true → (b.members.map (·.lane)).Nodup →
      (∀ m ∈ b.members, m.phase ≠ .finished → m.saved.isSome = true) →
      ∃ (q : Part) (ended : Batch) (restored : Word),
        exec .tuneAbort s = .next (s.thenWakes (s.answers Header.tuneAbort .ok (bytes4 restored)
          (formationTest (recompute q))).toPart) ∧
        (∀ n : LaneNo, restored.getLsbD n.val = b.members.any fun m => m.lane == n && !(m.phase == .finished)) ∧
        q = { s.toPart with
          lanes := q.lanes
          tuning := { s.tuning with batch := some ended }
          feed := { s.feed with holds := { s.feed.holds with tuning := false } } } ∧
        ended.running = false ∧ ended.origin = b.origin ∧ ended.members.map (·.lane) = b.members.map (·.lane) ∧
        (∀ m ∈ ended.members, m.phase = .finished) ∧
        (∀ m ∈ b.members, ∀ v : Saved, m.phase ≠ .finished → m.saved = some v →
          q.lane m.lane = { s.lane m.lane with
            calibration := v.calibration, reference := v.reference, seedPending := v.seedPending, tune := v.tune
            contact := .empty, enterCount := 0, exitCount := 0, distance := 0 }) ∧
        ∀ n : LaneNo, (∀ m ∈ b.members, m.lane = n → m.phase = .finished) → q.lane n = s.lane n) ∧
    ∀ b : Batch, s.tuning.batch = some b → b.running = true → (b.members.map (·.lane)).Nodup →
      (∀ m ∈ b.members, m.phase ≠ .finished → m.saved.isSome = true) →
      (∀ n : LaneNo, (s.laneTuning n).requested = false) →
      ∃ (t : State) (restored : Word), exec .tuneAbort s = .next t ∧
        t.port.slot = ⟨Header.tuneAbort, .ok, bytes4 restored⟩ ∧
        (∀ n : LaneNo, restored.getLsbD n.val = b.members.any fun m => m.lane == n && !(m.phase == .finished)) ∧
        t.batchRunning = false ∧ t.feed = { s.feed with holds := { s.feed.holds with tuning := false } } ∧
        (∀ m ∈ b.members, ∀ v : Saved, m.phase ≠ .finished → m.saved = some v →
          t.lane m.lane = { s.lane m.lane with
            calibration := v.calibration, reference := v.reference, seedPending := v.seedPending, tune := v.tune
            contact := .empty, enterCount := 0, exitCount := 0, distance := 0 }) ∧
        (∀ n : LaneNo, (∀ m ∈ b.members, m.lane = n → m.phase = .finished) → t.lane n = s.lane n) ∧
        (∀ n : LaneNo, t.wanted n = t.pressureFor t.contactSpan n) ∧
        t.port.attention = s.port.attention ∧ t.hides = s.hides ∧ t.articles = s.articles ∧ t.gap = s.gap ∧
        t.settings = s.settings ∧ t.routes = s.routes

/-- R131, R135, R136: a running batch whose members are all FINISHED completes, with TUNE_DONE, TUNING removed and the
formation test; a formation test that is due drops the requests that no longer qualify (what qualifies: log entry 12) and
starts an AUTOMATIC batch of the others, or, where none qualifies, drops them all; a holdoff expiry disarms the timer and
requests a lane still in TUNE_ERROR, a request that stands already making no formation test (log entry 12). Commanded
elsewhere these rows change nothing (log entry 1). -/
def Obligations.BatchEventsFollowTheirRules : Prop :=
  ∀ s : State,
    (∀ b : Batch, s.tuning.batch = some b → b.running = true → (∀ m ∈ b.members, m.phase = .finished) →
      exec .batchCompletion s = .next (s.thenWakes (formationTest { s.toPart with
        tuning := { s.tuning with batch := some { b with running := false } }
        feed := { s.feed with holds := { s.feed.holds with tuning := false } }
        port := { s.port with attention := { s.port.attention with tuneDone := true } } }))) ∧
    ((s.batchRunning = false ∨ ∃ b m, s.tuning.batch = some b ∧ m ∈ b.members ∧ m.phase ≠ .finished) →
      exec .batchCompletion s = .next s) ∧
    exec .batchCompletion s = .next (s.thenWakes (completeBatch s.toPart)) ∧
    (∀ p : Part,
      (∀ b : Batch, p.tuning.batch = some b → b.running = true → (∀ m ∈ b.members, m.phase = .finished) →
        completeBatch p = formationTest { p with
          tuning := { p.tuning with batch := some { b with running := false } }
          feed := { p.feed with holds := { p.feed.holds with tuning := false } }
          port := { p.port with attention := { p.port.attention with tuneDone := true } } }) ∧
      ((∀ b : Batch, p.tuning.batch = some b → b.running = false ∨ ∃ m ∈ b.members, m.phase ≠ .finished) →
        completeBatch p = p)) ∧
    exec .formationTest s = .next (s.thenWakes (formationTest s.toPart)) ∧
    (((∀ n : LaneNo, (s.laneTuning n).requested = false) ∨ s.batchRunning = true ∨ s.knifeOccupied = true ∨
        (∃ h ∈ s.hides, h.state = .entering ∧ h.approachReached = true)) → exec .formationTest s = .next s) ∧
    (∀ joins : LaneNo → Bool,
      (∀ n : LaneNo, joins n = true ↔ (s.laneTuning n).requested = true ∧ (s.laneTuning n).settings.automatic = true ∧
        (s.laneTuning n).settings.mode ≠ .off ∧ (s.lane n).service = .inService ∧
        ((s.lane n).tune = .tuned ∨ ∃ k, (s.lane n).tune = .tuneError k)) →
      s.batchRunning = false → s.knifeOccupied = false →
      (∀ h ∈ s.hides, h.state = .entering → h.approachReached = false) →
      ((∃ n : LaneNo, joins n = true) →
        ∃ (t : State) (b : Batch), exec .formationTest s = .next t ∧ t.tuning.batch = some b ∧ b.running = true ∧
          b.origin = .automatic ∧ (∀ n : LaneNo, (b.members.any fun m => m.lane == n) = joins n) ∧
          (∀ n : LaneNo, (t.laneTuning n).requested = false) ∧ t.feed.holds.tuning = true ∧
          (∀ n : LaneNo, joins n = true → (t.lane n).tune = .tuning) ∧
          (∀ n : LaneNo, joins n = false → t.lane n = s.lane n) ∧
          t.port = s.port ∧ t.hides = s.hides ∧ t.feed.position = s.feed.position) ∧
      ((∀ n : LaneNo, joins n = false) → exec .formationTest s = .next (s.withPart { s.toPart with
        tuning := { s.tuning with lanes := s.tuning.lanes.map fun t => { t with requested := false } } }))) ∧
    ∀ n : LaneNo,
      ((s.laneTuning n).holdoff = none → exec (.holdoffTimerExpiry n) s = .next s) ∧
      ((s.laneTuning n).holdoff.isSome = true → ∀ wants : Bool,
        wants = ((s.laneTuning n).settings.automatic && !((s.laneTuning n).settings.mode == .off) &&
          (s.lane n).service == .inService && (match (s.lane n).tune with
            | .tuneError _ => true
            | _ => false)) →
        exec (.holdoffTimerExpiry n) s = .next (s.thenWakes
          (if wants = true ∧ (s.laneTuning n).requested = false then
            formationTest (s.setLaneTuning n { s.laneTuning n with holdoff := none, requested := true })
          else s.setLaneTuning n { s.laneTuning n with holdoff := none })))

/-- R125 to R129: eight readings close a trial or phase on their average. The gain search takes four trials by halving
steps, each kept as the last trial average (of the gain search alone: log entry 39); the offset is the scaled empty average
less the target divided by 4 and rounded down, and takes the member to VERIFY; the verify average inside the tune window
makes the lane TUNED with it as reference; outside it, or with a failing offset or gain (a reading clamped: log entry 11),
the member fails: its lane takes its saved values back with TUNE_ERROR of the kind, every lane is recomputed, the event is
raised, and in an AUTOMATIC batch the holdoff is armed. Either way the member is FINISHED with its count, sum and clamp flag
cleared (log entry 40). -/
def Obligations.TuningPhasesClose : Prop :=
  (∀ (n : LaneNo) (conditioned : Nat) (clamped : Bool) (p : Part) (m : Member), p.member? n = some m →
    m.phase ≠ .finished → ∀ taken : Member,
    taken = { m with
      readings := m.readings + 1, sum := m.sum + conditioned, clamped := m.clamped || clamped } →
    (taken.readings < 8 → handReading n conditioned clamped p = p.modifyMember n fun _ => taken) ∧
    (8 ≤ taken.readings →
      handReading n conditioned clamped p = completeBatch (closePhase taken (taken.sum / 8) p))) ∧
  (∀ (m : Member) (average : Nat) (p : Part) (tune : TuneSettings), tune = (p.laneTuning m.lane).settings →
    (m.phase = .verify →
      (tune.target - tune.target * tune.band / 100 ≤ average ∧
          average ≤ tune.target + tune.target * tune.band / 100 →
        closePhase m average p = succeedMember m average p) ∧
      (¬(tune.target - tune.target * tune.band / 100 ≤ average ∧
          average ≤ tune.target + tune.target * tune.band / 100) →
        closePhase m average p = failMember m .verify p)) ∧
    (m.phase = .offset →
      (m.clamped = true → closePhase m average p = failMember m .offsetMax p) ∧
      (m.clamped = false → average < tune.target → closePhase m average p = failMember m .offsetMin p) ∧
      (m.clamped = false → tune.target ≤ average → closePhase m average p =
        (p.setLane m.lane { p.lane m.lane with
          calibration := ⟨(p.lane m.lane).calibration.gain, (average - tune.target) / 4⟩ }).modifyMember m.lane
            fun _ => { m with phase := .verify, readings := 0, sum := 0, clamped := false })) ∧
    (∀ (trial base passing step newBase newPassing : Nat), m.phase = .gain trial base passing →
      (trial = 1 ∧ step = 8 ∨ trial = 2 ∧ step = 4 ∨ trial = 3 ∧ step = 2 ∨ trial = 4 ∧ step = 1) →
      newBase = (if average ≤ tune.base then base + step else base) →
      newPassing = (if average ≤ tune.base then average else passing) →
      (trial < 4 → closePhase m average p =
        (p.setLane m.lane { p.lane m.lane with calibration := ⟨newBase + step / 2, 0⟩ }).modifyMember m.lane
          fun _ => { m with
            phase := .gain (trial + 1) newBase newPassing, readings := 0, sum := 0, clamped := false
            lastAverage := some average }) ∧
      (trial = 4 → 1 < newBase → closePhase m average p =
        setOffset { m with lastAverage := some average } newBase newPassing p) ∧
      (trial = 4 → newBase = 1 → (tune.base < average / 2 ∨ m.clamped = true) → closePhase m average p =
        failMember { m with lastAverage := some average } .gain p) ∧
      (trial = 4 → newBase = 1 → average / 2 ≤ tune.base → m.clamped = false → closePhase m average p =
        setOffset { m with lastAverage := some average } 1 (average / 2) p)) ∧
    (∀ gain : Nat,
      (average < tune.target → setOffset m gain average p = failMember m .offsetMin p) ∧
      (tune.target ≤ average → setOffset m gain average p =
        (p.setLane m.lane { p.lane m.lane with calibration := ⟨gain, (average - tune.target) / 4⟩ }).modifyMember
          m.lane fun _ => { m with phase := .verify, readings := 0, sum := 0, clamped := false })) ∧
    ∀ done : Member, done = { m with
        phase := .finished, readings := 0, sum := 0, clamped := false, saved := none } →
      succeedMember m average p = (recompute (p.setLane m.lane { p.lane m.lane with
        tune := .tuned, reference := average, contact := .empty, enterCount := 0, exitCount := 0
        distance := 0 })).modifyMember m.lane (fun _ => done) ∧
      ∀ (kind : TuneErrorKind) (v : Saved) (told : Part), m.saved = some v →
        told = raise (.tuneError m.lane kind) (recompute (p.setLane m.lane { p.lane m.lane with
          calibration := v.calibration, reference := v.reference, seedPending := v.seedPending
          tune := .tuneError kind, contact := .empty, enterCount := 0, exitCount := 0, distance := 0 })) →
        (∀ b : Batch, p.tuning.batch = some b → b.origin = .host →
          failMember m kind p = told.modifyMember m.lane fun _ => done) ∧
        (∀ b : Batch, p.tuning.batch = some b → b.origin = .automatic →
          failMember m kind p = (told.setLaneTuning m.lane { p.laneTuning m.lane with
            holdoff := some (tune.holdoff * 100000) }).modifyMember m.lane fun _ => done)) ∧
  ∀ (p : Part) (n : LaneNo) (f : Member → Member), p.modifyMember n f = { p with tuning := { p.tuning with
    batch := p.tuning.batch.map fun b => { b with members := b.members.map fun m => if m.lane = n then f m else m } } }

/-! ## Lane pressures -/

/-- R140 to R143: a lane's wanted pressure by the first of the four cases that applies. In the split case the sum of the
snapshot's base pressure, less the edge relief in the edge band, less the bottom relief on a BOTTOMED lane, plus the
bridge boost beside a blind lane, is clamped once to 0 to 600 kPa. -/
def Obligations.PressuresFollowTheirCases : Prop :=
  ∀ (p : Part) (n : LaneNo),
    (p.pressure.stopLevel = true → p.pressureFor p.contactSpan n = p.settings.parkPressure) ∧
    (p.pressure.stopLevel = false → ¬((p.lane n).service = .inService ∧ (p.lane n).tune = .tuned) →
      p.pressureFor p.contactSpan n = p.settings.parkPressure) ∧
    (p.pressure.stopLevel = false → (p.lane n).service = .inService → (p.lane n).tune = .tuned →
      ((∀ h ∈ p.hides, h.state ≠ .splitting) → p.pressureFor p.contactSpan n = p.settings.idlePressure) ∧
      ∀ (h : Hide) (f : PlanFields) (inContact : LaneNo → Prop) (edge bridged : Bool),
        p.hides.find? (fun x => x.state == .splitting) = some h → h.snapshot = some f →
        (∀ m : LaneNo, inContact m ↔
          (p.lane m).service = .inService ∧ (p.lane m).tune = .tuned ∧ (p.lane m).contact ≠ .empty) →
        (edge = true ↔ ∃ a z : LaneNo, inContact a ∧ inContact z ∧ (∀ m, inContact m → a ≤ m ∧ m ≤ z) ∧
          a ≤ n ∧ n ≤ z ∧ (n.val - a.val < f.edgeBand ∨ z.val - n.val < f.edgeBand)) →
        (bridged = true ↔ ∃ m : LaneNo, (m.val + 1 = n.val ∨ n.val + 1 = m.val) ∧
          ¬((p.lane m).service = .inService ∧ (p.lane m).tune = .tuned)) →
        (p.pressureFor p.contactSpan n : Int) = max 0 (min 600 ((f.basePressure : Int)
          - (if edge = true then (f.edgeRelief : Int) else 0)
          - (if (p.lane n).contact = .bottomed then (f.bottomRelief : Int) else 0)
          + (if bridged = true then (f.bridgeBoost : Int) else 0))))

/-- R144 to R146, R156: a recompute sets every lane's wanted pressure to the value its case gives, and hands the lanes
whose value changes to the drive bus, where a SETTLED lane becomes WAITING and the others stay as they are; it changes
nothing else. -/
def Obligations.RecomputeHandsChangesOn : Prop :=
  ∀ p : Part,
    recompute p = { p with
      pressure := { p.pressure with wanted := (recompute p).pressure.wanted }
      bus := { p.bus with drives := (recompute p).bus.drives } } ∧
    ∀ n : LaneNo, (recompute p).wanted n = p.pressureFor p.contactSpan n ∧
      (recompute p).drive n =
        if p.wanted n ≠ p.pressureFor p.contactSpan n ∧ (p.drive n).state = .settled
          then { p.drive n with state := .waiting } else p.drive n

/-! ## Lane drive bus -/

/-- R156, R158, R164: the arbiter test in IDLE selects the first board with work after the pointer, arming the select
timer (10 ticks of 10 us for each 0.1 ms); it is made at the expiry of the release interval, and after any operation that
has made a lane WAITING and driven (once for the step: log entry 15). Commanded elsewhere these rows change nothing (log
entry 1). -/
def Obligations.ArbiterSelectsInTurn : Prop :=
  (∀ s : State,
    (s.bus.master ≠ .idle → exec .arbiterTest s = .next s) ∧
    (∀ work : BoardNo → Bool,
      (∀ b : BoardNo, work b = true ↔ (∀ k, s.bus.boards[b.val] ≠ .faulted k) ∧ ∃ n : LaneNo, n.val / 8 = b.val ∧
        (s.drive n).state = .waiting ∧ (s.lane n).service ≠ .faulted .drive ∧ (s.lane n).service ≠ .faulted .board) →
      s.bus.master = .idle →
      ((∀ b : BoardNo, work b = false) → exec .arbiterTest s = .next s) ∧
      ∀ b : BoardNo, [s.bus.pointer + 1, s.bus.pointer + 2, s.bus.pointer + 3, s.bus.pointer].find? work = some b →
        exec .arbiterTest s = .next (s.withPart { s.toPart with bus := { s.bus with
          pointer := b
          master := .selecting b
          selectTimer := some (s.settings.selectTimeout * 10) } })) ∧
    (s.bus.master = .releasing → exec .releaseIntervalExpiry s = exec .arbiterTest (s.withPart { s.toPart with
      bus := { s.bus with master := .idle, releaseTimer := none } })) ∧
    (s.bus.master ≠ .releasing → exec .releaseIntervalExpiry s = .next s)) ∧
  ∀ (s : State) (p : Part) (waits : Part → LaneNo → Prop),
    (∀ (x : Part) (n : LaneNo), waits x n ↔ (x.drive n).state = .waiting ∧ (x.lane n).service ≠ .faulted .drive ∧
      (x.lane n).service ≠ .faulted .board) →
    ((∃ n : LaneNo, waits p n ∧ ¬waits s.toPart n) → .next (s.thenWakes p) = exec .arbiterTest (s.withPart p)) ∧
    ((∀ n : LaneNo, waits p n → waits s.toPart n) → s.thenWakes p = s.withPart p)

/-- R103, R130, R131, R159, R165, R166: READY opens the session, NOT_READY changes nothing, REFUSE and the expiry of
the select timer make the master RELEASING and fault the board: its eight lanes are FAULTED(BOARD) and their members
withdrawn, ascending, every lane is recomputed and a batch that has ended completes (log entry 13), the event
BOARD_FAULT with board and kind is raised and its attention cause added. In other states they change nothing (log
entry 1). BOARD RECOVER, refused as its rule says, makes a faulted board UNKNOWN, returns its lanes to service and has
each of them sent its wanted pressure anew. -/
def Obligations.BoardsAnswerFaultAndRecover : Prop :=
  (∀ s : State, (∀ b, s.bus.master ≠ .selecting b) →
    (∀ answer : BoardAnswer, exec (.selectAnswer answer) s = .next s) ∧ exec .selectTimerExpiry s = .next s) ∧
  (∀ (b : BoardNo) (s : State), s.bus.master = .selecting b →
    exec (.selectAnswer .notReady) s = .next s ∧
    exec (.selectAnswer .ready) s = .next (s.withPart { s.toPart with bus := { s.bus with
      boards := s.bus.boards.set b.val .ready
      master := .opened b
      selectTimer := none
      cursor := 0
      frameCount := 0
      sessionLimit := s.settings.sessionFrameLimit
      dueNext := none
      dueAfter := none } }) ∧
    ∀ (c : Instr) (kind : BoardFaultKind),
      (c = .selectAnswer .refuse ∧ kind = .refused ∨ c = .selectTimerExpiry ∧ kind = .timeout) →
      ∃ t : State, exec c s = .next t ∧
        t.bus.boards = s.bus.boards.set b.val (.faulted kind) ∧ t.bus.master = .releasing ∧
        t.bus.selectTimer = none ∧ t.bus.releaseTimer = some s.settings.releaseInterval ∧
        t.bus.pointer = s.bus.pointer ∧
        (∀ n : LaneNo, n.val / 8 = b.val → (t.lane n).service = .faulted .board ∧
          ((s.lane n).service ≠ .faulted .board → (t.lane n).contact = .empty)) ∧
        (∀ n : LaneNo, n.val / 8 ≠ b.val → (t.lane n).service = (s.lane n).service) ∧
        (∀ n : LaneNo, (t.drive n).applied = (s.drive n).applied ∧ (t.drive n).retry = (s.drive n).retry) ∧
        (∀ n : LaneNo, (s.drive n).state ≠ .settled → (t.drive n).state = (s.drive n).state) ∧
        t.port.attention.boardFault = true ∧ t.port.slot = s.port.slot ∧ t.articles = s.articles ∧
        t.hides = s.hides ∧ t.settings = s.settings ∧ t.routes = s.routes ∧ t.eye = s.eye ∧ t.gap = s.gap ∧
        t.feed.position = s.feed.position ∧
        t = s.withPart (faultBoard b kind { s.toPart with bus := { s.bus with
          master := .releasing
          releaseTimer := some s.settings.releaseInterval
          selectTimer := none
          resetDrain := false
          dueNext := none
          dueAfter := none } })) ∧
  (∀ (b : BoardNo) (kind : BoardFaultKind) (p claimed told : Part),
    claimed = { p with lanes := claimed.lanes, bus := { p.bus with boards := p.bus.boards.set b.val (.faulted kind) } } →
    (∀ n : LaneNo, claimed.lane n = if n.val / 8 = b.val ∧ (p.lane n).service ≠ .faulted .board then { p.lane n with
      service := .faulted .board, contact := .empty, enterCount := 0, exitCount := 0, distance := 0, railCount := 0 }
      else p.lane n) →
    told = raise (.boardFault b kind) (completeBatch (recompute
      (((List.finRange 32).filter fun n => n.val / 8 == b.val).foldl (fun q n => withdraw n q) claimed))) →
    faultBoard b kind p = { told with
      port := { told.port with attention := { told.port.attention with boardFault := true } } }) ∧
  ∀ (board : Byte) (s : State), s.port.acceptIn = none →
    (4 ≤ board.toNat → exec (.boardRecover board) s = .next (s.refuses Header.boardRecover .range)) ∧
    ∀ b : BoardNo, board.toNat = b.val →
      ((∀ k, s.bus.boards[b.val] ≠ .faulted k) →
        exec (.boardRecover board) s = .next (s.refuses Header.boardRecover .state)) ∧
      ((∃ k, s.bus.boards[b.val] = .faulted k) →
        ∃ t : State, exec (.boardRecover board) s = .next t ∧
          t.port.slot = ⟨Header.boardRecover, .ok, []⟩ ∧ t.bus.boards = s.bus.boards.set b.val .unknown ∧
          (∀ n : LaneNo, n.val / 8 = b.val → t.drive n = ⟨.waiting, none, 0⟩ ∧
            ((s.lane n).service = .faulted .board → t.lane n = { s.lane n with
              service := .inService, contact := .empty, enterCount := 0, exitCount := 0, distance := 0
              railCount := 0 })) ∧
          (∀ n : LaneNo, (n.val / 8 ≠ b.val ∨ (s.lane n).service ≠ .faulted .board) → t.lane n = s.lane n) ∧
          (∀ n : LaneNo, t.wanted n = t.pressureFor t.contactSpan n) ∧
          (s.bus.master ≠ .idle → t.bus.master = s.bus.master) ∧
          (s.bus.master = .idle → (∀ n : LaneNo, n.val / 8 = b.val → (s.lane n).service = .faulted .board) →
            ∃ c, t.bus.master = .selecting c) ∧
          t.port.attention = s.port.attention ∧ t.tuning = s.tuning ∧ t.feed = s.feed ∧ t.hides = s.hides ∧
          t.articles = s.articles ∧ t.gap = s.gap ∧ t.settings = s.settings ∧ t.routes = s.routes)

/-- R160, R164: a slot of a session with no echo due. In OPEN the first pair with work from the cursor is carried, PAIR
or SINGLE, its lanes IN_FLIGHT on their wanted pressures; the session limit, or a board without work, leads to DRAINING,
and DRAINING with no echo due to RELEASING. A slot and an echo outside a session change nothing (log entry 1). -/
def Obligations.SlotsIssueFrames : Prop :=
  ∀ s : State,
    ((∀ b, s.bus.master ≠ .opened b ∧ s.bus.master ≠ .draining b) →
      (∀ received, exec (.busSlot received) s = .next s) ∧ ∀ e, exec (.echoArrival e) s = .next s) ∧
    ∀ (b : BoardNo) (received : Option Echo) (work : LaneNo → Bool) (even odd : Fin 4 → LaneNo),
      s.bus.dueNext = none →
      (∀ n : LaneNo, work n = true ↔ (s.drive n).state = .waiting ∧
        (s.lane n).service ≠ .faulted .drive ∧ (s.lane n).service ≠ .faulted .board) →
      (∀ k : Fin 4, (even k).val = 8 * b.val + 2 * k.val ∧ (odd k).val = 8 * b.val + 2 * k.val + 1) →
      (∀ k : Fin 4, s.bus.master = .opened b →
        [s.bus.cursor, s.bus.cursor + 1, s.bus.cursor + 2, s.bus.cursor + 3].find?
          (fun j => work (even j) || work (odd j)) = some k →
        ∃ t : State, exec (.busSlot received) s = .next t ∧
          t = s.withPart { s.toPart with bus := { s.bus with
            drives := t.bus.drives
            dueNext := s.bus.dueAfter
            dueAfter := some ⟨k, if work (even k) = true then some (s.wanted (even k)) else none,
              if work (odd k) = true then some (s.wanted (odd k)) else none⟩
            frameCount := s.bus.frameCount + 1
            cursor := k + 1
            master := if s.bus.sessionLimit ≤ s.bus.frameCount + 1 then .draining b else .opened b } } ∧
          ∀ n : LaneNo, t.drive n = if (n = even k ∨ n = odd k) ∧ work n = true
            then { s.drive n with state := .inFlight (s.wanted n) } else s.drive n) ∧
      ((s.bus.master = .opened b ∧ (∀ k : Fin 4, work (even k) = false ∧ work (odd k) = false) ∨
          s.bus.master = .draining b) →
        exec (.busSlot received) s = .next (s.withPart { s.toPart with
          bus := if s.bus.dueAfter = none then { s.bus with
            master := .releasing
            releaseTimer := some s.settings.releaseInterval
            selectTimer := none
            resetDrain := false
            dueNext := none
            dueAfter := none }
          else { s.bus with dueNext := s.bus.dueAfter, dueAfter := none, master := .draining b } }))

/-- R161 to R163, R170: a slot with an echo due. A valid echo is judged on each lane carried, the even one first (log
entry 13), and the slot then goes on as one with no echo due; no valid echo makes its lanes in flight WAITING with
nothing applied, the master RELEASING and the board FAULTED(SILENT), with all that a board fault brings. Under the
reset drain mark the lanes wait with retry count 0 and nothing faults. A match applies the value, a first mismatch
counts, a second one claims a drive fault: the lane, unless FAULTED(DRIVE) or FAULTED(BOARD) already, is
FAULTED(DRIVE) with LANE_FAULT of that kind and all that a lane fault brings (R103). ECHO_ARRIVAL takes the echo due
in the slot under way, the rest of the slot being BUS_SLOT's; one that answers no frame due is left (log entry 14). -/
def Obligations.EchoesAreJudged : Prop :=
  (∀ (s : State) (b : BoardNo) (e : Echo), (s.bus.master = .opened b ∨ s.bus.master = .draining b) →
     (s.bus.dueNext = none → exec (.echoArrival e) s = .next s) ∧
     ∀ f : BusFrame, s.bus.dueNext = some f →
       (e.pair.val ≠ 4 * b.val + f.pair.val → exec (.echoArrival e) s = .next s) ∧
       (e.pair.val = 4 * b.val + f.pair.val → s.bus.resetDrain = false → ∀ (even odd : LaneNo) (q : Part),
         even.val = 8 * b.val + 2 * f.pair.val → odd.val = 8 * b.val + 2 * f.pair.val + 1 →
         q = (if f.odd.isSome = true then judgeLane odd e.odd.toNat else id)
           ((if f.even.isSome = true then judgeLane even e.even.toNat else id) s.toPart) →
         exec (.echoArrival e) s = .next (s.withPart { q with
           bus := if s.bus.master = .draining b ∧ s.bus.dueAfter = none then { q.bus with
             master := .releasing
             releaseTimer := some s.settings.releaseInterval
             selectTimer := none
             resetDrain := false
             dueNext := none
             dueAfter := none }
           else { q.bus with dueNext := none } })) ∧
       (e.pair.val = 4 * b.val + f.pair.val → s.bus.resetDrain = true → ∀ (even odd : LaneNo) (q : Part),
         even.val = 8 * b.val + 2 * f.pair.val → odd.val = 8 * b.val + 2 * f.pair.val + 1 →
         q = { s.toPart with bus := { s.bus with drives := q.bus.drives } } →
         (∀ n : LaneNo, q.drive n = match (if n = even then f.even else if n = odd then f.odd else none) with
           | some v => ⟨.waiting, if (if n = even then e.even else e.odd).toNat = v then some v else none, 0⟩
           | none => s.drive n) →
         exec (.echoArrival e) s = .next (s.withPart { q with
           bus := if s.bus.master = .draining b ∧ s.bus.dueAfter = none then { q.bus with
             master := .releasing
             releaseTimer := some s.settings.releaseInterval
             selectTimer := none
             resetDrain := false
             dueNext := none
             dueAfter := none }
           else { q.bus with dueNext := none } }))) ∧
  (∀ (s : State) (b : BoardNo) (f : BusFrame) (even odd : LaneNo), s.bus.dueNext = some f →
    (s.bus.master = .opened b ∨ s.bus.master = .draining b) →
    even.val = 8 * b.val + 2 * f.pair.val → odd.val = 8 * b.val + 2 * f.pair.val + 1 →
    (∀ e : Echo, e.pair.val = 4 * b.val + f.pair.val → s.bus.resetDrain = false →
      ∀ q : Part,
      q = (if f.odd.isSome = true then judgeLane odd e.odd.toNat else id)
        ((if f.even.isSome = true then judgeLane even e.even.toNat else id) s.toPart) →
      exec (.busSlot (some e)) s =
        exec (.busSlot none) (s.withPart { q with bus := { q.bus with dueNext := none } })) ∧
    (∀ received : Option Echo, s.bus.resetDrain = false →
      (∀ e : Echo, received = some e → e.pair.val ≠ 4 * b.val + f.pair.val) →
      ∃ t : State, exec (.busSlot received) s = .next t ∧
        t.bus.boards = s.bus.boards.set b.val (.faulted .silent) ∧ t.bus.master = .releasing ∧
        t.bus.releaseTimer = some s.settings.releaseInterval ∧ t.bus.dueNext = none ∧ t.bus.dueAfter = none ∧
        (∀ (n : LaneNo) (v : Nat), n.val / 8 = b.val → (s.drive n).state = .inFlight v →
          t.drive n = ⟨.waiting, none, 0⟩) ∧
        (∀ n : LaneNo, n.val / 8 = b.val → (t.lane n).service = .faulted .board) ∧
        (∀ n : LaneNo, n.val / 8 ≠ b.val → (t.lane n).service = (s.lane n).service) ∧
        t.port.attention.boardFault = true ∧
        ∀ lost : Part, lost = { s.toPart with bus := { s.bus with
            drives := lost.bus.drives
            master := .releasing
            releaseTimer := some s.settings.releaseInterval
            selectTimer := none
            resetDrain := false
            dueNext := none
            dueAfter := none } } →
          (∀ n : LaneNo, lost.drive n = match (s.drive n).state with
            | .inFlight _ => if n.val / 8 = b.val then ⟨.waiting, none, 0⟩ else s.drive n
            | _ => s.drive n) →
          t = s.withPart (faultBoard b .silent lost)) ∧
    (∀ received : Option Echo, s.bus.resetDrain = true →
      ∃ t : State, exec (.busSlot received) s = .next t ∧
        t = s.withPart { s.toPart with bus := t.bus } ∧ t.bus.boards = s.bus.boards ∧
        (∀ (n : LaneNo) (v : Nat), (n = even ∧ f.even = some v ∨ n = odd ∧ f.odd = some v) →
          ∃ applied : Option Nat, t.drive n = ⟨.waiting, applied, 0⟩ ∧ (applied = none ∨ applied = some v) ∧
            (applied = some v ↔ ∃ e : Echo, received = some e ∧ e.pair.val = 4 * b.val + f.pair.val ∧
              (if n = even then e.even.toNat else e.odd.toNat) = v)) ∧
        (∀ n : LaneNo, ¬(n = even ∧ f.even.isSome = true) → ¬(n = odd ∧ f.odd.isSome = true) →
          t.drive n = s.drive n))) ∧
  ∀ (n : LaneNo) (echoed : Nat) (p : Part),
    ((∀ v, (p.drive n).state ≠ .inFlight v) → judgeLane n echoed p = p) ∧
    ∀ v : Nat, (p.drive n).state = .inFlight v →
      (echoed = v → judgeLane n echoed p =
        p.setDrive n ⟨if p.wanted n = v then .settled else .waiting, some v, 0⟩) ∧
      (echoed ≠ v → (p.drive n).retry = 0 → judgeLane n echoed p = p.setDrive n ⟨.waiting, none, 1⟩) ∧
      (echoed ≠ v → (p.drive n).retry = 1 → (∀ k, (p.lane n).service ≠ .faulted k) →
        ((judgeLane n echoed p).lane n).service = .faulted .drive ∧
          (judgeLane n echoed p).drive n = ⟨.waiting, none, 0⟩ ∧
          (judgeLane n echoed p).port.attention.laneFault = true ∧
          (∀ m : LaneNo, m ≠ n → ((judgeLane n echoed p).lane m).service = (p.lane m).service) ∧
          (judgeLane n echoed p).bus.master = p.bus.master ∧ (judgeLane n echoed p).bus.boards = p.bus.boards) ∧
      (echoed ≠ v → (p.drive n).retry ≠ 0 →
        ((p.lane n).service ≠ .faulted .drive → (p.lane n).service ≠ .faulted .board →
          judgeLane n echoed p = faultLane n .drive (p.setDrive n ⟨.waiting, none, 0⟩)) ∧
        ((p.lane n).service = .faulted .drive ∨ (p.lane n).service = .faulted .board →
          judgeLane n echoed p = p.setDrive n ⟨.waiting, none, 0⟩))

/-! ## Reactions, lines and tallies -/

/-- R171, R172, R175, R176, R178, R182, R197: ROUTE WRITE, LINE WRITE, LINE CLEAR, TALLY WRITE and TALLY RESET, each
refused RANGE as its rule says and changing only the record named, and the expiry of a pulse timer. A ROUTE WRITE carries
a route when its enabled byte is 0 or 1, its source and task have their codes, the filter its source takes and the operands
its task takes are in range, and FOLLOW goes with a level condition and no other task does; it is then replaced whole, what
its source and task do not call for being disregarded. An article filter above 65534 and a tally mask above 15 are out of
range (log entry 35). That LINE CLEAR refuses a value that names no line of S0 to S3 is R197's check of a set. -/
def Obligations.ReactionCommandsDecide : Prop :=
  (∀ (o : RouteOperands) (r : Route), routeFieldsOperand o = some r ↔
    o.enabled.toNat = (if r.enabled = true then 1 else 0) ∧ o.source.toNat = r.source.code ∧
    o.task.toNat = r.task.code ∧
    (match r.filter with
      | .lanes mask => (o.source.toNat ≤ 6 ∨ 32 ≤ o.source.toNat ∧ o.source.toNat ≤ 34) ∧ mask = o.filter
      | .article code => 7 ≤ o.source.toNat ∧ o.source.toNat ≤ 13 ∧ code = o.filter.toNat ∧ code ≤ 65534
      | .tallies mask => o.source.toNat = 17 ∧ mask.toNat = o.filter.toNat
      | .none => 14 ≤ o.source.toNat ∧ o.source.toNat ≤ 16 ∨ 35 ≤ o.source.toNat) ∧
    (match r.task with
      | .pulseLines lines width => lines.toNat = o.lineSet.toNat ∧ lines ≠ 0 ∧ width = o.pulseWidth.toNat ∧ 1 ≤ width
      | .setLines lines => lines.toNat = o.lineSet.toNat ∧ lines ≠ 0
      | .clearLines lines => lines.toNat = o.lineSet.toNat ∧ lines ≠ 0
      | .follow lines => lines.toNat = o.lineSet.toNat ∧ lines ≠ 0
      | .tallyStep k => k.val = o.tallyIndex.toNat
      | _ => True) ∧
    ((∃ l, r.source = .level l) ↔ ∃ lines, r.task = .follow lines)) ∧
  ∀ s : State, s.port.acceptIn = none →
    (∀ (index : Byte) (o : RouteOperands), 16 ≤ index.toNat ∨ routeFieldsOperand o = none →
      exec (.routeWrite index o) s = .next (s.refuses Header.routeWrite .range)) ∧
    (∀ (index : Byte) (o : RouteOperands) (i : Fin 16) (r : Route), index.toNat = i.val →
      routeFieldsOperand o = some r →
      exec (.routeWrite index o) s = .next (s.answers Header.routeWrite .ok [] { s.toPart with
        routes := s.routes.set i.val r })) ∧
    (∀ o : RouteOperands, (1 < o.enabled.toNat ∨ 7 < o.task.toNat ∨
        ((o.task.toNat = 3 ∨ o.task.toNat = 4 ∨ o.task.toNat = 5 ∨ o.task.toNat = 6) ∧
          (o.lineSet.toNat = 0 ∨ 16 ≤ o.lineSet.toNat)) ∨
        (o.task.toNat = 3 ∧ o.pulseWidth.toNat = 0) ∨ (o.task.toNat = 7 ∧ 4 ≤ o.tallyIndex.toNat)) →
      routeFieldsOperand o = none) ∧
    (∀ (o : RouteOperands) (r : Route), routeFieldsOperand o = some r →
      ((∃ level, r.source = .level level) ↔ ∃ lines, r.task = .follow lines)) ∧
    (∀ line mode drive level : Byte,
      4 ≤ line.toNat ∨ 2 ≤ mode.toNat ∨ 2 ≤ drive.toNat ∨ 2 ≤ level.toNat →
      exec (.lineWrite line mode drive level) s = .next (s.refuses Header.lineWrite .range)) ∧
    (∀ (line mode drive level : Byte) (i : Fin 4), line.toNat = i.val → mode.toNat < 2 → drive.toNat < 2 →
      level.toNat < 2 →
      exec (.lineWrite line mode drive level) s = .next (s.answers Header.lineWrite .ok [] { s.toPart with
        lines := s.lines.set i.val { s.line i with
          mode := if mode = 0 then .routed else .direct
          drive := if drive = 0 then .pushPull else .openDrain
          directActive := level = 1 } })) ∧
    (∀ lines : Byte, 16 ≤ lines.toNat → exec (.lineClear lines) s = .next (s.refuses Header.lineClear .range)) ∧
    (∀ lines : Byte, lines.toNat < 16 →
      ∃ t : State, exec (.lineClear lines) s = .next t ∧
        t = s.answers Header.lineClear .ok [] { s.toPart with lines := t.lines } ∧
        ∀ i : Fin 4, t.line i = if lines.getLsbD i.val = true
          then { s.line i with latched := false, pulse := none } else s.line i) ∧
    (∀ (tally : Byte) (threshold : Word) (scope flags : Byte),
      4 ≤ tally.toNat ∨ 2 ≤ scope.toNat ∨ (scope = 0 ∧ flags.getLsbD 0 = true) →
      exec (.tallyWrite tally threshold scope flags) s = .next (s.refuses Header.tallyWrite .range)) ∧
    (∀ (tally : Byte) (threshold : Word) (scope flags : Byte) (i : Fin 4), tally.toNat = i.val →
      scope = 0 ∧ flags.getLsbD 0 = false ∨ scope = 1 →
      exec (.tallyWrite tally threshold scope flags) s = .next (s.answers Header.tallyWrite .ok [] { s.toPart with
        tallies := s.tallies.set i.val ⟨(s.tallies[i.val]).count, threshold,
          if scope = 0 then .running else .perHide, flags.getLsbD 0, flags.getLsbD 1, flags.getLsbD 2⟩ })) ∧
    (∀ tally : Byte, 4 ≤ tally.toNat → exec (.tallyReset tally) s = .next (s.refuses Header.tallyReset .range)) ∧
    (∀ (tally : Byte) (i : Fin 4), tally.toNat = i.val →
      exec (.tallyReset tally) s = .next (s.answers Header.tallyReset .ok [] { s.toPart with
        tallies := s.tallies.set i.val { s.tallies[i.val] with count := 0 } })) ∧
    ∀ i : Fin 4, exec (.pulseTimerExpiry i) s = .next (s.withPart { s.toPart with
      lines := s.lines.set i.val { s.line i with pulse := none } })

/-- R172 to R175, R179: an event changes only what routes act on; with no enabled route that it matches it changes
nothing; with one it performs that route's task: ATTEND, HOLD_FEED, STOP_AT_CLEAR, a task on each line of the set, or a
step of a tally that is not frozen. A lane mask passes the events of its lanes and of a board it shares a lane with,
article code 0 those of every article and another code its own, a tally mask those of its tallies, and no filter every
event. -/
def Obligations.EventsActThroughRoutes : Prop :=
  (∀ (mask : BitVec 32) (n : LaneNo) (lane : LaneFaultKind) (tune : TuneErrorKind),
    [Event.laneContactOn n, .laneBottomOn n, .laneReseed n, .laneFault n lane, .lanePhantom n, .tuneError n tune].map
      (Filter.passes (.lanes mask)) = List.replicate 6 (mask.getLsbD n.val)) ∧
  (∀ (mask : BitVec 32) (b : BoardNo) (kind : BoardFaultKind), (Filter.lanes mask).passes (.boardFault b kind) = true ↔
    ∃ n : LaneNo, n.val / 8 = b.val ∧ mask.getLsbD n.val = true) ∧
  (∀ code ticket article : Nat,
    [Event.hideEntering ticket article, .hideSplitting ticket article, .hideCleared ticket article,
      .hideReject ticket article, .hideAborted ticket article, .overlength ticket article,
      .gapExcursion ticket article].map (Filter.passes (.article code)) =
      List.replicate 7 (code == 0 || article == code)) ∧
  (∀ (mask : BitVec 4) (i : Fin 4) (count : Word),
    (Filter.tallies mask).passes (.tallyReached i count) = mask.getLsbD i.val) ∧
  (∀ e : Event, Filter.none.passes e = true) ∧
  ∀ (e : Event) (p : Part),
    onlyRoutes p (raise e p) ∧
    ((∀ i : Fin 16, (p.routes[i.val]).enabled = false ∨ (p.routes[i.val]).source ≠ .event e.kind ∨
      (p.routes[i.val]).filter.passes e = false) → raise e p = p) ∧
    ∀ i : Fin 16, (p.routes[i.val]).enabled = true → (p.routes[i.val]).source = .event e.kind →
      (p.routes[i.val]).filter.passes e = true →
      (∀ j : Fin 16, j ≠ i → (p.routes[j.val]).enabled = false) →
      ((p.routes[i.val]).task = .attend → raise e p = { p with
        port := { p.port with attention := { p.port.attention with route := true } } }) ∧
      ((p.routes[i.val]).task = .holdFeed → raise e p = { p with
        feed := { p.feed with holds := { p.feed.holds with routeHold := true } } }) ∧
      ((p.routes[i.val]).task = .stopAtClear → ∀ r : RunState,
        ((p.feed.runState = .stopped → r = .stopped) ∧ (p.feed.runState = .stoppingAtClear → r = .stoppingAtClear) ∧
          ((p.feed.runState = .running ∨ p.feed.runState = .stoppingBeforeNext) →
            ((∃ h ∈ p.hides, h.state = .entering ∨ h.state = .splitting) → r = .stoppingAtClear) ∧
            ((∀ h ∈ p.hides, h.state ≠ .entering ∧ h.state ≠ .splitting) → r = .stopped))) →
        raise e p = { p with feed := { p.feed with runState := r } }) ∧
      (∀ (lines : BitVec 4) (act : Line → Line),
        ((p.routes[i.val]).task = .setLines lines ∧ act = (fun l => { l with latched := true }) ∨
          (p.routes[i.val]).task = .clearLines lines ∧ act = (fun l => { l with latched := false, pulse := none }) ∨
          ∃ width : Nat, (p.routes[i.val]).task = .pulseLines lines width ∧
            act = (fun l => { l with pulse := some (width * 1000) })) →
        raise e p = { p with lines := (raise e p).lines } ∧
        ∀ k : Fin 4, (raise e p).line k = if lines.getLsbD k.val = true then act (p.line k) else p.line k) ∧
      ∀ k : Fin 4, (p.routes[i.val]).task = .tallyStep k → ∀ t : Tally, t = p.tallies[k.val] →
        (t.frozen = true ∨ (t.freezeOnStop = true ∧ p.feed.stopLine = true) → raise e p = p) ∧
        (t.frozen = false → (t.freezeOnStop = false ∨ p.feed.stopLine = false) →
          (e.kind ≠ .tallyReached ∨ t.scope = .perHide ∨ t.count + 1 ≠ t.threshold) →
          raise e p = { p with tallies := p.tallies.set k.val { t with count := t.count + 1 } })

/-- R173, R179: of two routes that an event matches, whatever their tasks, the one of smaller index acts first, and
the other on what it left: the event with the second route enabled alone, after the event with the first one alone
(where the event is a TALLY_REACHED and a task steps a tally, the two routes are taken not to match that tally's own:
log entry 46 orders that case). A RUNNING tally that a step brings to its threshold raises TALLY_REACHED, which its
own routes take in the same step. -/
def Obligations.RoutesActInAscendingOrder : Prop :=
  ∀ (e : Event) (p : Part) (i j : Fin 16), (p.routes[i.val]).enabled = true → (p.routes[j.val]).enabled = true →
    (p.routes[i.val]).source = .event e.kind → (p.routes[i.val]).filter.passes e = true →
    (∀ k : Fin 16, k ≠ i → k ≠ j → (p.routes[k.val]).enabled = false) →
    (i < j → (p.routes[j.val]).source = .event e.kind → (p.routes[j.val]).filter.passes e = true →
      (e.kind ≠ .tallyReached ∨ ∀ (k : Fin 4) (count : Word),
        (p.routes[i.val]).task = .tallyStep k ∨ (p.routes[j.val]).task = .tallyStep k →
        (p.routes[i.val]).filter.passes (.tallyReached k count) = false ∧
          (p.routes[j.val]).filter.passes (.tallyReached k count) = false) →
      ∀ first second : Part,
        first = raise e { p with routes := p.routes.set j.val { p.routes[j.val] with enabled := false } } →
        second = raise e { first with
          routes := (p.routes.set i.val { p.routes[i.val] with enabled := false }) } →
        raise e p = { second with routes := p.routes }) ∧
    (∀ first second : BitVec 4, i < j → (p.routes[j.val]).source = .event e.kind →
      (p.routes[j.val]).filter.passes e = true → ∀ k : Fin 4,
      ((p.routes[i.val]).task = .setLines first → (p.routes[j.val]).task = .clearLines second →
        ((raise e p).line k).latched = (!second.getLsbD k.val && (first.getLsbD k.val || (p.line k).latched))) ∧
      ((p.routes[i.val]).task = .clearLines first → (p.routes[j.val]).task = .setLines second →
        ((raise e p).line k).latched = (second.getLsbD k.val || (!first.getLsbD k.val && (p.line k).latched)))) ∧
    ∀ (k : Fin 4) (mask : BitVec 4) (t : Tally), e.kind ≠ .tallyReached → (p.routes[i.val]).task = .tallyStep k →
      (p.routes[j.val]).source = .event .tallyReached → (p.routes[j.val]).filter = .tallies mask →
      (p.routes[j.val]).task = .attend → t = p.tallies[k.val] → t.frozen = false →
      (t.freezeOnStop = false ∨ p.feed.stopLine = false) →
      raise e p = { p with
        tallies := p.tallies.set k.val { t with count := t.count + 1 }
        port := { p.port with attention := { p.port.attention with
          route := p.port.attention.route ||
            (t.scope == .running && t.count + 1 == t.threshold && mask.getLsbD k.val) } } }

/-! ## Invariants -/

/-- R153, R155, R158, R159, R164, R170: every step keeps, of each lane, that SETTLED means that the applied value is
present and equals the wanted pressure, and of the bus, that its timers, echoes due, reset drain mark and retry counts
fit the master's state. -/
def Obligations.StepsKeepTheBusRecords : Prop :=
  ∀ s t : State, settledMeansApplied s.toPart → busRecordFits s.toPart → step s = .next t →
    settledMeansApplied t.toPart ∧ busRecordFits t.toPart

/-- R63, R69, R75, R78, R86 to R88, R97, R99, R102, R104, R105, R107, R123, R148: every step keeps the axis record
fitting its state, the hold causes STOP_LINE, STOP_RECOVERY, GAP_FAULT and TUNING standing as their blocks do, and every
lane record fitting: a blind lane EMPTY, counters and contact distance as the contact state allows. -/
def Obligations.StepsKeepAxisHoldsAndLanes : Prop :=
  ∀ s t : State, step s = .next t →
    (gapRecordFits s.toPart → holdsMirrorTheirBlocks s.toPart →
      gapRecordFits t.toPart ∧ holdsMirrorTheirBlocks t.toPart) ∧
    (laneRecordsFit s.toPart → laneRecordsFit t.toPart)

/-- R1, R3, R4, R14, R15, R22, R23, R33, R89, R145: every step keeps the two tables in agreement, pins equal to the
records naming a plan and at most one record SPLITTING; and with that every wanted pressure is the value its case gives
and GAP_NOT_READY stands exactly while the not-ready condition holds. -/
def Obligations.StepsKeepTablesAndWantedPressures : Prop :=
  ∀ s t : State, tablesAgree s.toPart → step s = .next t → tablesAgree t.toPart ∧
    (wantedIsDecided s.toPart → notReadyIsHeld s.toPart → wantedIsDecided t.toPart ∧ notReadyIsHeld t.toPart)

/-- All the invariants hold at reset, with an empty queue. -/
def Obligations.ResetMeetsTheInvariants : Prop :=
  State.reset.pending = [] ∧ settledMeansApplied State.reset.toPart ∧ busRecordFits State.reset.toPart ∧
    gapRecordFits State.reset.toPart ∧ holdsMirrorTheirBlocks State.reset.toPart ∧
    laneRecordsFit State.reset.toPart ∧ tablesAgree State.reset.toPart ∧ wantedIsDecided State.reset.toPart ∧
    notReadyIsHeld State.reset.toPart
end

