-- ==== Sys2Proof/Laws/State.lean ====
section
/-! SUPPORT. What each update of the part leaves as it is and what it puts in place: one lemma for each field and
update, so that no proof unfolds a record update. -/

namespace Sys2Proof.Machine

/-! ## The machine and its part -/

@[simp] theorem State.run_toPart (f : Part → Part) (s : State) : (s.run f).toPart = f s.toPart := rfl
@[simp] theorem State.run_pending (f : Part → Part) (s : State) : (s.run f).pending = s.pending := rfl
@[simp] theorem State.withPart_toPart (s : State) (p : Part) : (s.withPart p).toPart = p := rfl
@[simp] theorem State.withPart_pending (s : State) (p : Part) : (s.withPart p).pending = s.pending := rfl
theorem State.run_eq_withPart (f : Part → Part) (s : State) : s.run f = s.withPart (f s.toPart) := rfl

/-! ## Every entry of a table -/

@[simp] theorem getElem_mapAll {α β : Type} {k : Nat} (f : α → β) (table : Vector α k) (i : Nat) (h : i < k) :
    (mapAll f table)[i] = f table[i] := by simp [mapAll]

theorem mapAll_eq_map {α β : Type} {k : Nat} (f : α → β) (table : Vector α k) : mapAll f table = table.map f := by
  ext i h
  simp [mapAll]

/-! ## A hold cause, an attention cause -/

@[simp] theorem Part.putHold_articles (p : Part) (c : HoldCause) (b : Bool) : (p.putHold c b).articles = p.articles := rfl
@[simp] theorem Part.putHold_hides (p : Part) (c : HoldCause) (b : Bool) : (p.putHold c b).hides = p.hides := rfl
@[simp] theorem Part.putHold_nextTicket (p : Part) (c : HoldCause) (b : Bool) : (p.putHold c b).nextTicket = p.nextTicket := rfl
@[simp] theorem Part.putHold_unbound (p : Part) (c : HoldCause) (b : Bool) : (p.putHold c b).unbound = p.unbound := rfl
@[simp] theorem Part.putHold_eye (p : Part) (c : HoldCause) (b : Bool) : (p.putHold c b).eye = p.eye := rfl
@[simp] theorem Part.putHold_gap (p : Part) (c : HoldCause) (b : Bool) : (p.putHold c b).gap = p.gap := rfl
@[simp] theorem Part.putHold_lanes (p : Part) (c : HoldCause) (b : Bool) : (p.putHold c b).lanes = p.lanes := rfl
@[simp] theorem Part.putHold_scanPeriod (p : Part) (c : HoldCause) (b : Bool) : (p.putHold c b).scanPeriod = p.scanPeriod := rfl
@[simp] theorem Part.putHold_tuning (p : Part) (c : HoldCause) (b : Bool) : (p.putHold c b).tuning = p.tuning := rfl
@[simp] theorem Part.putHold_pressure (p : Part) (c : HoldCause) (b : Bool) : (p.putHold c b).pressure = p.pressure := rfl
@[simp] theorem Part.putHold_bus (p : Part) (c : HoldCause) (b : Bool) : (p.putHold c b).bus = p.bus := rfl
@[simp] theorem Part.putHold_routes (p : Part) (c : HoldCause) (b : Bool) : (p.putHold c b).routes = p.routes := rfl
@[simp] theorem Part.putHold_lines (p : Part) (c : HoldCause) (b : Bool) : (p.putHold c b).lines = p.lines := rfl
@[simp] theorem Part.putHold_tallies (p : Part) (c : HoldCause) (b : Bool) : (p.putHold c b).tallies = p.tallies := rfl
@[simp] theorem Part.putHold_port (p : Part) (c : HoldCause) (b : Bool) : (p.putHold c b).port = p.port := rfl
@[simp] theorem Part.putHold_settings (p : Part) (c : HoldCause) (b : Bool) : (p.putHold c b).settings = p.settings := rfl
@[simp] theorem Part.putHold_freeCount (p : Part) (c : HoldCause) (b : Bool) : (p.putHold c b).freeCount = p.freeCount := rfl
@[simp] theorem Part.putHold_encoder (p : Part) (c : HoldCause) (b : Bool) : (p.putHold c b).encoder = p.encoder := rfl
@[simp] theorem Part.putHold_feed (p : Part) (c : HoldCause) (b : Bool) : (p.putHold c b).feed = { p.feed with holds := p.feed.holds.put c b } := rfl

@[simp] theorem Part.attend_articles (p : Part) (c : Attention) : (p.attend c).articles = p.articles := rfl
@[simp] theorem Part.attend_hides (p : Part) (c : Attention) : (p.attend c).hides = p.hides := rfl
@[simp] theorem Part.attend_nextTicket (p : Part) (c : Attention) : (p.attend c).nextTicket = p.nextTicket := rfl
@[simp] theorem Part.attend_unbound (p : Part) (c : Attention) : (p.attend c).unbound = p.unbound := rfl
@[simp] theorem Part.attend_eye (p : Part) (c : Attention) : (p.attend c).eye = p.eye := rfl
@[simp] theorem Part.attend_feed (p : Part) (c : Attention) : (p.attend c).feed = p.feed := rfl
@[simp] theorem Part.attend_gap (p : Part) (c : Attention) : (p.attend c).gap = p.gap := rfl
@[simp] theorem Part.attend_lanes (p : Part) (c : Attention) : (p.attend c).lanes = p.lanes := rfl
@[simp] theorem Part.attend_scanPeriod (p : Part) (c : Attention) : (p.attend c).scanPeriod = p.scanPeriod := rfl
@[simp] theorem Part.attend_tuning (p : Part) (c : Attention) : (p.attend c).tuning = p.tuning := rfl
@[simp] theorem Part.attend_pressure (p : Part) (c : Attention) : (p.attend c).pressure = p.pressure := rfl
@[simp] theorem Part.attend_bus (p : Part) (c : Attention) : (p.attend c).bus = p.bus := rfl
@[simp] theorem Part.attend_routes (p : Part) (c : Attention) : (p.attend c).routes = p.routes := rfl
@[simp] theorem Part.attend_lines (p : Part) (c : Attention) : (p.attend c).lines = p.lines := rfl
@[simp] theorem Part.attend_tallies (p : Part) (c : Attention) : (p.attend c).tallies = p.tallies := rfl
@[simp] theorem Part.attend_settings (p : Part) (c : Attention) : (p.attend c).settings = p.settings := rfl
@[simp] theorem Part.attend_freeCount (p : Part) (c : Attention) : (p.attend c).freeCount = p.freeCount := rfl
@[simp] theorem Part.attend_encoder (p : Part) (c : Attention) : (p.attend c).encoder = p.encoder := rfl
@[simp] theorem Part.attend_port (p : Part) (c : Attention) : (p.attend c).port = { p.port with attention := p.port.attention.add c } := rfl

/-! ## A lane, its tuning, its drive -/

@[simp] theorem Part.setLane_articles (p : Part) (n : LaneNo) (l : Lane) : (p.setLane n l).articles = p.articles := rfl
@[simp] theorem Part.setLane_hides (p : Part) (n : LaneNo) (l : Lane) : (p.setLane n l).hides = p.hides := rfl
@[simp] theorem Part.setLane_nextTicket (p : Part) (n : LaneNo) (l : Lane) : (p.setLane n l).nextTicket = p.nextTicket := rfl
@[simp] theorem Part.setLane_unbound (p : Part) (n : LaneNo) (l : Lane) : (p.setLane n l).unbound = p.unbound := rfl
@[simp] theorem Part.setLane_eye (p : Part) (n : LaneNo) (l : Lane) : (p.setLane n l).eye = p.eye := rfl
@[simp] theorem Part.setLane_feed (p : Part) (n : LaneNo) (l : Lane) : (p.setLane n l).feed = p.feed := rfl
@[simp] theorem Part.setLane_gap (p : Part) (n : LaneNo) (l : Lane) : (p.setLane n l).gap = p.gap := rfl
@[simp] theorem Part.setLane_scanPeriod (p : Part) (n : LaneNo) (l : Lane) : (p.setLane n l).scanPeriod = p.scanPeriod := rfl
@[simp] theorem Part.setLane_tuning (p : Part) (n : LaneNo) (l : Lane) : (p.setLane n l).tuning = p.tuning := rfl
@[simp] theorem Part.setLane_pressure (p : Part) (n : LaneNo) (l : Lane) : (p.setLane n l).pressure = p.pressure := rfl
@[simp] theorem Part.setLane_bus (p : Part) (n : LaneNo) (l : Lane) : (p.setLane n l).bus = p.bus := rfl
@[simp] theorem Part.setLane_routes (p : Part) (n : LaneNo) (l : Lane) : (p.setLane n l).routes = p.routes := rfl
@[simp] theorem Part.setLane_lines (p : Part) (n : LaneNo) (l : Lane) : (p.setLane n l).lines = p.lines := rfl
@[simp] theorem Part.setLane_tallies (p : Part) (n : LaneNo) (l : Lane) : (p.setLane n l).tallies = p.tallies := rfl
@[simp] theorem Part.setLane_port (p : Part) (n : LaneNo) (l : Lane) : (p.setLane n l).port = p.port := rfl
@[simp] theorem Part.setLane_settings (p : Part) (n : LaneNo) (l : Lane) : (p.setLane n l).settings = p.settings := rfl
@[simp] theorem Part.setLane_freeCount (p : Part) (n : LaneNo) (l : Lane) : (p.setLane n l).freeCount = p.freeCount := rfl
@[simp] theorem Part.setLane_encoder (p : Part) (n : LaneNo) (l : Lane) : (p.setLane n l).encoder = p.encoder := rfl
@[simp] theorem Part.setLane_lanes (p : Part) (n : LaneNo) (l : Lane) : (p.setLane n l).lanes = p.lanes.set n.val l := rfl

@[simp] theorem Part.setLaneTuning_articles (p : Part) (n : LaneNo) (t : LaneTuning) : (p.setLaneTuning n t).articles = p.articles := rfl
@[simp] theorem Part.setLaneTuning_hides (p : Part) (n : LaneNo) (t : LaneTuning) : (p.setLaneTuning n t).hides = p.hides := rfl
@[simp] theorem Part.setLaneTuning_nextTicket (p : Part) (n : LaneNo) (t : LaneTuning) : (p.setLaneTuning n t).nextTicket = p.nextTicket := rfl
@[simp] theorem Part.setLaneTuning_unbound (p : Part) (n : LaneNo) (t : LaneTuning) : (p.setLaneTuning n t).unbound = p.unbound := rfl
@[simp] theorem Part.setLaneTuning_eye (p : Part) (n : LaneNo) (t : LaneTuning) : (p.setLaneTuning n t).eye = p.eye := rfl
@[simp] theorem Part.setLaneTuning_feed (p : Part) (n : LaneNo) (t : LaneTuning) : (p.setLaneTuning n t).feed = p.feed := rfl
@[simp] theorem Part.setLaneTuning_gap (p : Part) (n : LaneNo) (t : LaneTuning) : (p.setLaneTuning n t).gap = p.gap := rfl
@[simp] theorem Part.setLaneTuning_lanes (p : Part) (n : LaneNo) (t : LaneTuning) : (p.setLaneTuning n t).lanes = p.lanes := rfl
@[simp] theorem Part.setLaneTuning_scanPeriod (p : Part) (n : LaneNo) (t : LaneTuning) : (p.setLaneTuning n t).scanPeriod = p.scanPeriod := rfl
@[simp] theorem Part.setLaneTuning_pressure (p : Part) (n : LaneNo) (t : LaneTuning) : (p.setLaneTuning n t).pressure = p.pressure := rfl
@[simp] theorem Part.setLaneTuning_bus (p : Part) (n : LaneNo) (t : LaneTuning) : (p.setLaneTuning n t).bus = p.bus := rfl
@[simp] theorem Part.setLaneTuning_routes (p : Part) (n : LaneNo) (t : LaneTuning) : (p.setLaneTuning n t).routes = p.routes := rfl
@[simp] theorem Part.setLaneTuning_lines (p : Part) (n : LaneNo) (t : LaneTuning) : (p.setLaneTuning n t).lines = p.lines := rfl
@[simp] theorem Part.setLaneTuning_tallies (p : Part) (n : LaneNo) (t : LaneTuning) : (p.setLaneTuning n t).tallies = p.tallies := rfl
@[simp] theorem Part.setLaneTuning_port (p : Part) (n : LaneNo) (t : LaneTuning) : (p.setLaneTuning n t).port = p.port := rfl
@[simp] theorem Part.setLaneTuning_settings (p : Part) (n : LaneNo) (t : LaneTuning) : (p.setLaneTuning n t).settings = p.settings := rfl
@[simp] theorem Part.setLaneTuning_freeCount (p : Part) (n : LaneNo) (t : LaneTuning) : (p.setLaneTuning n t).freeCount = p.freeCount := rfl
@[simp] theorem Part.setLaneTuning_encoder (p : Part) (n : LaneNo) (t : LaneTuning) : (p.setLaneTuning n t).encoder = p.encoder := rfl
@[simp] theorem Part.setLaneTuning_tuning (p : Part) (n : LaneNo) (t : LaneTuning) : (p.setLaneTuning n t).tuning = { p.tuning with lanes := p.tuning.lanes.set n.val t } := rfl

@[simp] theorem Part.setDrive_articles (p : Part) (n : LaneNo) (d : Drive) : (p.setDrive n d).articles = p.articles := rfl
@[simp] theorem Part.setDrive_hides (p : Part) (n : LaneNo) (d : Drive) : (p.setDrive n d).hides = p.hides := rfl
@[simp] theorem Part.setDrive_nextTicket (p : Part) (n : LaneNo) (d : Drive) : (p.setDrive n d).nextTicket = p.nextTicket := rfl
@[simp] theorem Part.setDrive_unbound (p : Part) (n : LaneNo) (d : Drive) : (p.setDrive n d).unbound = p.unbound := rfl
@[simp] theorem Part.setDrive_eye (p : Part) (n : LaneNo) (d : Drive) : (p.setDrive n d).eye = p.eye := rfl
@[simp] theorem Part.setDrive_feed (p : Part) (n : LaneNo) (d : Drive) : (p.setDrive n d).feed = p.feed := rfl
@[simp] theorem Part.setDrive_gap (p : Part) (n : LaneNo) (d : Drive) : (p.setDrive n d).gap = p.gap := rfl
@[simp] theorem Part.setDrive_lanes (p : Part) (n : LaneNo) (d : Drive) : (p.setDrive n d).lanes = p.lanes := rfl
@[simp] theorem Part.setDrive_scanPeriod (p : Part) (n : LaneNo) (d : Drive) : (p.setDrive n d).scanPeriod = p.scanPeriod := rfl
@[simp] theorem Part.setDrive_tuning (p : Part) (n : LaneNo) (d : Drive) : (p.setDrive n d).tuning = p.tuning := rfl
@[simp] theorem Part.setDrive_pressure (p : Part) (n : LaneNo) (d : Drive) : (p.setDrive n d).pressure = p.pressure := rfl
@[simp] theorem Part.setDrive_routes (p : Part) (n : LaneNo) (d : Drive) : (p.setDrive n d).routes = p.routes := rfl
@[simp] theorem Part.setDrive_lines (p : Part) (n : LaneNo) (d : Drive) : (p.setDrive n d).lines = p.lines := rfl
@[simp] theorem Part.setDrive_tallies (p : Part) (n : LaneNo) (d : Drive) : (p.setDrive n d).tallies = p.tallies := rfl
@[simp] theorem Part.setDrive_port (p : Part) (n : LaneNo) (d : Drive) : (p.setDrive n d).port = p.port := rfl
@[simp] theorem Part.setDrive_settings (p : Part) (n : LaneNo) (d : Drive) : (p.setDrive n d).settings = p.settings := rfl
@[simp] theorem Part.setDrive_freeCount (p : Part) (n : LaneNo) (d : Drive) : (p.setDrive n d).freeCount = p.freeCount := rfl
@[simp] theorem Part.setDrive_encoder (p : Part) (n : LaneNo) (d : Drive) : (p.setDrive n d).encoder = p.encoder := rfl
@[simp] theorem Part.setDrive_bus (p : Part) (n : LaneNo) (d : Drive) : (p.setDrive n d).bus = { p.bus with drives := p.bus.drives.set n.val d } := rfl

@[simp] theorem Part.lane_setLane (p : Part) (n m : LaneNo) (l : Lane) :
    (p.setLane n l).lane m = if n = m then l else p.lane m := by
  simp [Part.lane, Vector.getElem_set, Fin.ext_iff]

@[simp] theorem Part.laneTuning_setLaneTuning (p : Part) (n m : LaneNo) (t : LaneTuning) :
    (p.setLaneTuning n t).laneTuning m = if n = m then t else p.laneTuning m := by
  simp [Part.laneTuning, Vector.getElem_set, Fin.ext_iff]

@[simp] theorem Part.drive_setDrive (p : Part) (n m : LaneNo) (d : Drive) :
    (p.setDrive n d).drive m = if n = m then d else p.drive m := by
  simp [Part.drive, Vector.getElem_set, Fin.ext_iff]

@[simp] theorem Part.lane_setLaneTuning (p : Part) (n m : LaneNo) (t : LaneTuning) :
    (p.setLaneTuning n t).lane m = p.lane m := rfl
@[simp] theorem Part.lane_setDrive (p : Part) (n m : LaneNo) (d : Drive) : (p.setDrive n d).lane m = p.lane m := rfl
@[simp] theorem Part.lane_putHold (p : Part) (m : LaneNo) (c : HoldCause) (b : Bool) :
    (p.putHold c b).lane m = p.lane m := rfl
@[simp] theorem Part.lane_attend (p : Part) (m : LaneNo) (c : Attention) : (p.attend c).lane m = p.lane m := rfl
@[simp] theorem Part.drive_setLane (p : Part) (n m : LaneNo) (l : Lane) : (p.setLane n l).drive m = p.drive m := rfl
@[simp] theorem Part.drive_setLaneTuning (p : Part) (n m : LaneNo) (t : LaneTuning) :
    (p.setLaneTuning n t).drive m = p.drive m := rfl
@[simp] theorem Part.laneTuning_setLane (p : Part) (n m : LaneNo) (l : Lane) :
    (p.setLane n l).laneTuning m = p.laneTuning m := rfl
@[simp] theorem Part.laneTuning_setDrive (p : Part) (n m : LaneNo) (d : Drive) :
    (p.setDrive n d).laneTuning m = p.laneTuning m := rfl

/-! ## A record of a table -/

@[simp] theorem Part.modifyPlan_hides (p : Part) (code : Nat) (f : Plan → Plan) : (p.modifyPlan code f).hides = p.hides := rfl
@[simp] theorem Part.modifyPlan_nextTicket (p : Part) (code : Nat) (f : Plan → Plan) : (p.modifyPlan code f).nextTicket = p.nextTicket := rfl
@[simp] theorem Part.modifyPlan_unbound (p : Part) (code : Nat) (f : Plan → Plan) : (p.modifyPlan code f).unbound = p.unbound := rfl
@[simp] theorem Part.modifyPlan_eye (p : Part) (code : Nat) (f : Plan → Plan) : (p.modifyPlan code f).eye = p.eye := rfl
@[simp] theorem Part.modifyPlan_feed (p : Part) (code : Nat) (f : Plan → Plan) : (p.modifyPlan code f).feed = p.feed := rfl
@[simp] theorem Part.modifyPlan_gap (p : Part) (code : Nat) (f : Plan → Plan) : (p.modifyPlan code f).gap = p.gap := rfl
@[simp] theorem Part.modifyPlan_lanes (p : Part) (code : Nat) (f : Plan → Plan) : (p.modifyPlan code f).lanes = p.lanes := rfl
@[simp] theorem Part.modifyPlan_scanPeriod (p : Part) (code : Nat) (f : Plan → Plan) : (p.modifyPlan code f).scanPeriod = p.scanPeriod := rfl
@[simp] theorem Part.modifyPlan_tuning (p : Part) (code : Nat) (f : Plan → Plan) : (p.modifyPlan code f).tuning = p.tuning := rfl
@[simp] theorem Part.modifyPlan_pressure (p : Part) (code : Nat) (f : Plan → Plan) : (p.modifyPlan code f).pressure = p.pressure := rfl
@[simp] theorem Part.modifyPlan_bus (p : Part) (code : Nat) (f : Plan → Plan) : (p.modifyPlan code f).bus = p.bus := rfl
@[simp] theorem Part.modifyPlan_routes (p : Part) (code : Nat) (f : Plan → Plan) : (p.modifyPlan code f).routes = p.routes := rfl
@[simp] theorem Part.modifyPlan_lines (p : Part) (code : Nat) (f : Plan → Plan) : (p.modifyPlan code f).lines = p.lines := rfl
@[simp] theorem Part.modifyPlan_tallies (p : Part) (code : Nat) (f : Plan → Plan) : (p.modifyPlan code f).tallies = p.tallies := rfl
@[simp] theorem Part.modifyPlan_port (p : Part) (code : Nat) (f : Plan → Plan) : (p.modifyPlan code f).port = p.port := rfl
@[simp] theorem Part.modifyPlan_settings (p : Part) (code : Nat) (f : Plan → Plan) : (p.modifyPlan code f).settings = p.settings := rfl
@[simp] theorem Part.modifyPlan_freeCount (p : Part) (code : Nat) (f : Plan → Plan) : (p.modifyPlan code f).freeCount = p.freeCount := rfl
@[simp] theorem Part.modifyPlan_encoder (p : Part) (code : Nat) (f : Plan → Plan) : (p.modifyPlan code f).encoder = p.encoder := rfl
@[simp] theorem Part.modifyPlan_articles (p : Part) (code : Nat) (f : Plan → Plan) : (p.modifyPlan code f).articles = p.articles.map fun a => if a.code == code then f a else a := rfl

@[simp] theorem Part.modifyHide_articles (p : Part) (ticket : Nat) (f : Hide → Hide) : (p.modifyHide ticket f).articles = p.articles := rfl
@[simp] theorem Part.modifyHide_nextTicket (p : Part) (ticket : Nat) (f : Hide → Hide) : (p.modifyHide ticket f).nextTicket = p.nextTicket := rfl
@[simp] theorem Part.modifyHide_unbound (p : Part) (ticket : Nat) (f : Hide → Hide) : (p.modifyHide ticket f).unbound = p.unbound := rfl
@[simp] theorem Part.modifyHide_eye (p : Part) (ticket : Nat) (f : Hide → Hide) : (p.modifyHide ticket f).eye = p.eye := rfl
@[simp] theorem Part.modifyHide_feed (p : Part) (ticket : Nat) (f : Hide → Hide) : (p.modifyHide ticket f).feed = p.feed := rfl
@[simp] theorem Part.modifyHide_gap (p : Part) (ticket : Nat) (f : Hide → Hide) : (p.modifyHide ticket f).gap = p.gap := rfl
@[simp] theorem Part.modifyHide_lanes (p : Part) (ticket : Nat) (f : Hide → Hide) : (p.modifyHide ticket f).lanes = p.lanes := rfl
@[simp] theorem Part.modifyHide_scanPeriod (p : Part) (ticket : Nat) (f : Hide → Hide) : (p.modifyHide ticket f).scanPeriod = p.scanPeriod := rfl
@[simp] theorem Part.modifyHide_tuning (p : Part) (ticket : Nat) (f : Hide → Hide) : (p.modifyHide ticket f).tuning = p.tuning := rfl
@[simp] theorem Part.modifyHide_pressure (p : Part) (ticket : Nat) (f : Hide → Hide) : (p.modifyHide ticket f).pressure = p.pressure := rfl
@[simp] theorem Part.modifyHide_bus (p : Part) (ticket : Nat) (f : Hide → Hide) : (p.modifyHide ticket f).bus = p.bus := rfl
@[simp] theorem Part.modifyHide_routes (p : Part) (ticket : Nat) (f : Hide → Hide) : (p.modifyHide ticket f).routes = p.routes := rfl
@[simp] theorem Part.modifyHide_lines (p : Part) (ticket : Nat) (f : Hide → Hide) : (p.modifyHide ticket f).lines = p.lines := rfl
@[simp] theorem Part.modifyHide_tallies (p : Part) (ticket : Nat) (f : Hide → Hide) : (p.modifyHide ticket f).tallies = p.tallies := rfl
@[simp] theorem Part.modifyHide_port (p : Part) (ticket : Nat) (f : Hide → Hide) : (p.modifyHide ticket f).port = p.port := rfl
@[simp] theorem Part.modifyHide_settings (p : Part) (ticket : Nat) (f : Hide → Hide) : (p.modifyHide ticket f).settings = p.settings := rfl
@[simp] theorem Part.modifyHide_freeCount (p : Part) (ticket : Nat) (f : Hide → Hide) : (p.modifyHide ticket f).freeCount = p.freeCount := rfl
@[simp] theorem Part.modifyHide_encoder (p : Part) (ticket : Nat) (f : Hide → Hide) : (p.modifyHide ticket f).encoder = p.encoder := rfl
@[simp] theorem Part.modifyHide_hides (p : Part) (ticket : Nat) (f : Hide → Hide) : (p.modifyHide ticket f).hides = p.hides.map fun h => if h.ticket == ticket then f h else h := rfl

/-! ## Sets of causes -/

/-- A cause put in the set or taken out of it is a member or not, and every other cause is as it was (R69). -/
@[simp] theorem HoldSet.has_put (h : HoldSet) (c d : HoldCause) (b : Bool) :
    (h.put c b).has d = if c = d then b else h.has d := by
  cases c <;> cases d <;> rfl

@[simp] theorem AttentionSet.has_add (a : AttentionSet) (c d : Attention) :
    (a.add c).has d = (decide (c = d) || a.has d) := by
  cases c <;> cases d <;> simp [AttentionSet.add, AttentionSet.has]

/-- A hold cause set is empty when no cause is a member (R69, R73). -/
theorem HoldSet.isEmpty_iff (h : HoldSet) : h.isEmpty = true ↔ ∀ c : HoldCause, h.has c = false := by
  constructor
  · intro e c
    have : h = HoldSet.empty := by simpa [HoldSet.isEmpty] using e
    subst this
    cases c <;> rfl
  · intro e
    have h1 := e .stopLine
    have h2 := e .stopRecovery
    have h3 := e .hostHold
    have h4 := e .routeHold
    have h5 := e .unboundEdge
    have h6 := e .overlength
    have h7 := e .hideAborted
    have h8 := e .gapNotReady
    have h9 := e .gapFault
    have h10 := e .tuning
    have h11 := e .reverse
    cases h
    simp_all [HoldSet.has, HoldSet.isEmpty, HoldSet.empty]

/-- Two hold cause sets with the same members are equal. -/
theorem HoldSet.ext_has (h k : HoldSet) (e : ∀ c : HoldCause, h.has c = k.has c) : h = k := by
  have h1 := e .stopLine
  have h2 := e .stopRecovery
  have h3 := e .hostHold
  have h4 := e .routeHold
  have h5 := e .unboundEdge
  have h6 := e .overlength
  have h7 := e .hideAborted
  have h8 := e .gapNotReady
  have h9 := e .gapFault
  have h10 := e .tuning
  have h11 := e .reverse
  cases h
  cases k
  simp_all [HoldSet.has]

end Sys2Proof.Machine
end

