-- ==== Sys2Proof/Laws/Frames.lean ====
section
/-! SUPPORT. What taking a command frame leaves behind, and the arbiter test that ends a step: what a proof about one
command cites in place of `command` and `thenArbiter`. -/

namespace Sys2Proof.Machine

/-! ## A command frame -/

/-- Once frames are accepted, a command frame leaves its effects, its result and the bytes shifted out. -/
theorem State.run_command (s : State) (header : Byte) (body : Part → Part × Answer) (h : s.port.acceptIn = none) :
    s.run (command header body) =
      s.answers header (body s.toPart).2.code (body s.toPart).2.reply (body s.toPart).1 := by
  simp only [State.run, command, h, State.answers, State.withPart]
  rfl

/-- Before frames are accepted, a command frame leaves nothing but a zero status byte. -/
theorem State.run_command_early (s : State) (header : Byte) (body : Part → Part × Answer)
    (h : s.port.acceptIn.isSome = true) :
    s.run (command header body) =
      s.withPart { s.toPart with port := { s.port with shiftedOut := [0] } } := by
  obtain ⟨t, ht⟩ := Option.isSome_iff_exists.mp h
  have early : command header body s.toPart = earlyFrame s.toPart := by unfold command; rw [ht]
  rw [State.run, early]
  rfl

/-- A command frame with the arbiter test at its end. -/
theorem State.run_thenArbiter_command (s : State) (header : Byte) (body : Part → Part × Answer)
    (h : s.port.acceptIn = none) :
    s.run (thenArbiter (command header body)) =
      s.thenWakes (s.answers header (body s.toPart).2.code (body s.toPart).2.reply (body s.toPart).1).toPart := by
  have key : command header body s.toPart =
      (s.answers header (body s.toPart).2.code (body s.toPart).2.reply (body s.toPart).1).toPart := by
    have := congrArg State.toPart (s.run_command header body h)
    simpa using this
  simp only [State.run, State.thenWakes, State.withPart, thenArbiter, key]

/-! ## The arbiter test at the end of a step -/

/-- Where no lane has come to wait, the step ends without an arbiter test. -/
theorem thenArbiter_of_waiting (f : Part → Part) (p : Part)
    (h : ∀ n : LaneNo, (f p).waitingDriven n = true → p.waitingDriven n = true) : thenArbiter f p = f p := by
  unfold thenArbiter
  rw [if_neg]
  simp only [List.any_eq_true, not_exists, not_and, Bool.and_eq_true, Bool.not_eq_true']
  intro n _ hn
  simpa using h n hn

/-- A step that leaves the drive records and the lanes as they are makes no arbiter test. -/
theorem thenArbiter_of_same (f : Part → Part) (p : Part) (hd : (f p).bus.drives = p.bus.drives)
    (hl : (f p).lanes = p.lanes) : thenArbiter f p = f p := by
  apply thenArbiter_of_waiting
  intro n hn
  simpa [Part.waitingDriven, Part.drive, Part.lane, hd, hl] using hn

/-- The same at the machine. -/
theorem State.thenWakes_of_same (s : State) (p : Part) (hd : p.bus.drives = s.bus.drives) (hl : p.lanes = s.lanes) :
    s.thenWakes p = s.withPart p := by
  unfold State.thenWakes
  rw [thenArbiter_of_same _ _ hd hl]

/-- Before frames are accepted, a command frame makes no arbiter test either. -/
theorem State.run_thenArbiter_command_early (s : State) (header : Byte) (body : Part → Part × Answer)
    (h : s.port.acceptIn.isSome = true) :
    s.run (thenArbiter (command header body)) =
      s.withPart { s.toPart with port := { s.port with shiftedOut := [0] } } := by
  have early := s.run_command_early header body h
  have left : command header body s.toPart = { s.toPart with port := { s.port with shiftedOut := [0] } } :=
    congrArg State.toPart early
  rw [State.run, thenArbiter_of_same _ _ (by rw [left]) (by rw [left])]
  exact early

/-- The arbiter test changes the pointer, the master and the select timer alone. -/
theorem arbiterTest_eq (p : Part) : arbiterTest p = { p with bus := { p.bus with
    pointer := (arbiterTest p).bus.pointer
    master := (arbiterTest p).bus.master
    selectTimer := (arbiterTest p).bus.selectTimer } } := by
  unfold arbiterTest
  split
  · split <;> rfl
  · rfl

/-- The arbiter test does nothing while the master is not IDLE. -/
theorem arbiterTest_of_busy (p : Part) (h : p.bus.master ≠ .idle) : arbiterTest p = p := by
  simp [arbiterTest, h]

/-- A step with its arbiter test: what the operation left, but for the pointer, the master and the select timer. -/
theorem thenArbiter_eq (f : Part → Part) (p : Part) : thenArbiter f p = { f p with bus := { (f p).bus with
    pointer := (thenArbiter f p).bus.pointer
    master := (thenArbiter f p).bus.master
    selectTimer := (thenArbiter f p).bus.selectTimer } } := by
  unfold thenArbiter
  split
  · exact arbiterTest_eq _
  · rfl

/-! Each field the arbiter test leaves. -/

@[simp] theorem arbiterTest_articles (p : Part) : (arbiterTest p).articles = p.articles := by
  rw [arbiterTest_eq]
@[simp] theorem arbiterTest_hides (p : Part) : (arbiterTest p).hides = p.hides := by
  rw [arbiterTest_eq]
@[simp] theorem arbiterTest_nextTicket (p : Part) : (arbiterTest p).nextTicket = p.nextTicket := by
  rw [arbiterTest_eq]
@[simp] theorem arbiterTest_unbound (p : Part) : (arbiterTest p).unbound = p.unbound := by
  rw [arbiterTest_eq]
@[simp] theorem arbiterTest_eye (p : Part) : (arbiterTest p).eye = p.eye := by
  rw [arbiterTest_eq]
@[simp] theorem arbiterTest_feed (p : Part) : (arbiterTest p).feed = p.feed := by
  rw [arbiterTest_eq]
@[simp] theorem arbiterTest_gap (p : Part) : (arbiterTest p).gap = p.gap := by
  rw [arbiterTest_eq]
@[simp] theorem arbiterTest_lanes (p : Part) : (arbiterTest p).lanes = p.lanes := by
  rw [arbiterTest_eq]
@[simp] theorem arbiterTest_scanPeriod (p : Part) : (arbiterTest p).scanPeriod = p.scanPeriod := by
  rw [arbiterTest_eq]
@[simp] theorem arbiterTest_tuning (p : Part) : (arbiterTest p).tuning = p.tuning := by
  rw [arbiterTest_eq]
@[simp] theorem arbiterTest_pressure (p : Part) : (arbiterTest p).pressure = p.pressure := by
  rw [arbiterTest_eq]
@[simp] theorem arbiterTest_routes (p : Part) : (arbiterTest p).routes = p.routes := by
  rw [arbiterTest_eq]
@[simp] theorem arbiterTest_lines (p : Part) : (arbiterTest p).lines = p.lines := by
  rw [arbiterTest_eq]
@[simp] theorem arbiterTest_tallies (p : Part) : (arbiterTest p).tallies = p.tallies := by
  rw [arbiterTest_eq]
@[simp] theorem arbiterTest_port (p : Part) : (arbiterTest p).port = p.port := by
  rw [arbiterTest_eq]
@[simp] theorem arbiterTest_settings (p : Part) : (arbiterTest p).settings = p.settings := by
  rw [arbiterTest_eq]
@[simp] theorem arbiterTest_freeCount (p : Part) : (arbiterTest p).freeCount = p.freeCount := by
  rw [arbiterTest_eq]
@[simp] theorem arbiterTest_bus_drives (p : Part) : (arbiterTest p).bus.drives = p.bus.drives := by
  rw [arbiterTest_eq]
@[simp] theorem arbiterTest_bus_boards (p : Part) : (arbiterTest p).bus.boards = p.bus.boards := by
  rw [arbiterTest_eq]
@[simp] theorem arbiterTest_bus_cursor (p : Part) : (arbiterTest p).bus.cursor = p.bus.cursor := by
  rw [arbiterTest_eq]
@[simp] theorem arbiterTest_bus_frameCount (p : Part) : (arbiterTest p).bus.frameCount = p.bus.frameCount := by
  rw [arbiterTest_eq]
@[simp] theorem arbiterTest_bus_sessionLimit (p : Part) : (arbiterTest p).bus.sessionLimit = p.bus.sessionLimit := by
  rw [arbiterTest_eq]
@[simp] theorem arbiterTest_bus_resetDrain (p : Part) : (arbiterTest p).bus.resetDrain = p.bus.resetDrain := by
  rw [arbiterTest_eq]
@[simp] theorem arbiterTest_bus_releaseTimer (p : Part) : (arbiterTest p).bus.releaseTimer = p.bus.releaseTimer := by
  rw [arbiterTest_eq]
@[simp] theorem arbiterTest_bus_dueNext (p : Part) : (arbiterTest p).bus.dueNext = p.bus.dueNext := by
  rw [arbiterTest_eq]
@[simp] theorem arbiterTest_bus_dueAfter (p : Part) : (arbiterTest p).bus.dueAfter = p.bus.dueAfter := by
  rw [arbiterTest_eq]

@[simp] theorem thenArbiter_articles (f : Part → Part) (p : Part) : (thenArbiter f p).articles = (f p).articles := by
  rw [thenArbiter_eq]
@[simp] theorem thenArbiter_hides (f : Part → Part) (p : Part) : (thenArbiter f p).hides = (f p).hides := by
  rw [thenArbiter_eq]
@[simp] theorem thenArbiter_nextTicket (f : Part → Part) (p : Part) : (thenArbiter f p).nextTicket = (f p).nextTicket := by
  rw [thenArbiter_eq]
@[simp] theorem thenArbiter_unbound (f : Part → Part) (p : Part) : (thenArbiter f p).unbound = (f p).unbound := by
  rw [thenArbiter_eq]
@[simp] theorem thenArbiter_eye (f : Part → Part) (p : Part) : (thenArbiter f p).eye = (f p).eye := by
  rw [thenArbiter_eq]
@[simp] theorem thenArbiter_feed (f : Part → Part) (p : Part) : (thenArbiter f p).feed = (f p).feed := by
  rw [thenArbiter_eq]
@[simp] theorem thenArbiter_gap (f : Part → Part) (p : Part) : (thenArbiter f p).gap = (f p).gap := by
  rw [thenArbiter_eq]
@[simp] theorem thenArbiter_lanes (f : Part → Part) (p : Part) : (thenArbiter f p).lanes = (f p).lanes := by
  rw [thenArbiter_eq]
@[simp] theorem thenArbiter_scanPeriod (f : Part → Part) (p : Part) : (thenArbiter f p).scanPeriod = (f p).scanPeriod := by
  rw [thenArbiter_eq]
@[simp] theorem thenArbiter_tuning (f : Part → Part) (p : Part) : (thenArbiter f p).tuning = (f p).tuning := by
  rw [thenArbiter_eq]
@[simp] theorem thenArbiter_pressure (f : Part → Part) (p : Part) : (thenArbiter f p).pressure = (f p).pressure := by
  rw [thenArbiter_eq]
@[simp] theorem thenArbiter_routes (f : Part → Part) (p : Part) : (thenArbiter f p).routes = (f p).routes := by
  rw [thenArbiter_eq]
@[simp] theorem thenArbiter_lines (f : Part → Part) (p : Part) : (thenArbiter f p).lines = (f p).lines := by
  rw [thenArbiter_eq]
@[simp] theorem thenArbiter_tallies (f : Part → Part) (p : Part) : (thenArbiter f p).tallies = (f p).tallies := by
  rw [thenArbiter_eq]
@[simp] theorem thenArbiter_port (f : Part → Part) (p : Part) : (thenArbiter f p).port = (f p).port := by
  rw [thenArbiter_eq]
@[simp] theorem thenArbiter_settings (f : Part → Part) (p : Part) : (thenArbiter f p).settings = (f p).settings := by
  rw [thenArbiter_eq]
@[simp] theorem thenArbiter_freeCount (f : Part → Part) (p : Part) : (thenArbiter f p).freeCount = (f p).freeCount := by
  rw [thenArbiter_eq]
@[simp] theorem thenArbiter_bus_drives (f : Part → Part) (p : Part) :
    (thenArbiter f p).bus.drives = (f p).bus.drives := by
  rw [thenArbiter_eq]
@[simp] theorem thenArbiter_bus_boards (f : Part → Part) (p : Part) :
    (thenArbiter f p).bus.boards = (f p).bus.boards := by
  rw [thenArbiter_eq]
@[simp] theorem thenArbiter_bus_cursor (f : Part → Part) (p : Part) :
    (thenArbiter f p).bus.cursor = (f p).bus.cursor := by
  rw [thenArbiter_eq]
@[simp] theorem thenArbiter_bus_frameCount (f : Part → Part) (p : Part) :
    (thenArbiter f p).bus.frameCount = (f p).bus.frameCount := by
  rw [thenArbiter_eq]
@[simp] theorem thenArbiter_bus_sessionLimit (f : Part → Part) (p : Part) :
    (thenArbiter f p).bus.sessionLimit = (f p).bus.sessionLimit := by
  rw [thenArbiter_eq]
@[simp] theorem thenArbiter_bus_resetDrain (f : Part → Part) (p : Part) :
    (thenArbiter f p).bus.resetDrain = (f p).bus.resetDrain := by
  rw [thenArbiter_eq]
@[simp] theorem thenArbiter_bus_releaseTimer (f : Part → Part) (p : Part) :
    (thenArbiter f p).bus.releaseTimer = (f p).bus.releaseTimer := by
  rw [thenArbiter_eq]
@[simp] theorem thenArbiter_bus_dueNext (f : Part → Part) (p : Part) :
    (thenArbiter f p).bus.dueNext = (f p).bus.dueNext := by
  rw [thenArbiter_eq]
@[simp] theorem thenArbiter_bus_dueAfter (f : Part → Part) (p : Part) :
    (thenArbiter f p).bus.dueAfter = (f p).bus.dueAfter := by
  rw [thenArbiter_eq]

end Sys2Proof.Machine
end

