-- ==== Sys2Proof/Laws/Batch.lean ====
section
/-! SUPPORT. What the end of a batch leaves of its record (R130 to R133). -/

namespace Sys2Proof.Machine

/-- A change of one member leaves the lanes of the batch. -/
theorem Batch.modify_lanes (b : Batch) (n : LaneNo) (f : Member → Member) (hf : ∀ m, (f m).lane = m.lane) :
    (b.modify n f).members.map (·.lane) = b.members.map (·.lane) := by
  simp only [Batch.modify, List.map_map]
  apply List.map_congr_left
  intro m _
  by_cases h : m.lane = n <;> simp [h, hf]

/-- A member is restored: the batch is another's, but for that member (R130). -/
theorem restoreMember_batch (p : Part) (m : Member) (b : Batch) (h : p.tuning.batch = some b) :
    (restoreMember p m).tuning.batch = some (b.modify m.lane Member.finish) := by
  unfold restoreMember
  cases m.saved <;> simp only [Part.modifyMember] <;>
    (show Option.map _ p.tuning.batch = _; rw [h]; rfl)

/-- Members are restored: the batch keeps its origin and lanes, and every other member (R130). -/
theorem foldl_restoreMember_batch (l : List Member) : ∀ (p : Part) (b : Batch), p.tuning.batch = some b →
    ∃ e : Batch, (l.foldl restoreMember p).tuning.batch = some e ∧ e.origin = b.origin ∧
      e.members.map (·.lane) = b.members.map (·.lane) ∧
      ∀ m ∈ e.members, m.phase = .finished ∨ (m ∈ b.members ∧ ∀ x ∈ l, x.lane ≠ m.lane) := by
  induction l with
  | nil => intro p b h; exact ⟨b, h, rfl, rfl, fun m hm => Or.inr ⟨hm, by simp⟩⟩
  | cons x l ih =>
    intro p b h
    obtain ⟨e, h1, h2, h3, h4⟩ := ih _ _ (restoreMember_batch p x b h)
    refine ⟨e, h1, h2, h3.trans (Batch.modify_lanes _ _ _ fun _ => rfl), ?_⟩
    intro m hm
    rcases h4 m hm with h | ⟨h5, h6⟩
    · exact Or.inl h
    · simp only [Batch.modify, List.mem_map] at h5
      obtain ⟨y, hy, he⟩ := h5
      by_cases hl : y.lane = x.lane
      · rw [if_pos hl] at he; left; rw [← he]; rfl
      · rw [if_neg hl] at he
        subst he
        refine Or.inr ⟨hy, fun z hz => ?_⟩
        rcases List.mem_cons.mp hz with rfl | hz
        exacts [fun h => hl h.symm, h6 z hz]

/-- An aborted batch keeps its record, with every member FINISHED (R132, R133). -/
theorem abortBatch_record (p : Part) (b : Batch) (h : p.tuning.batch = some b) (hr : b.running = true) :
    ∃ e : Batch, (abortBatch p).tuning.batch = some e ∧ e.running = false ∧ e.origin = b.origin ∧
      e.members.map (·.lane) = b.members.map (·.lane) ∧ ∀ m ∈ e.members, m.phase = .finished := by
  obtain ⟨e, h1, h2, h3, h4⟩ := foldl_restoreMember_batch p.unfinished p b h
  refine ⟨{ e with running := false }, ?_, rfl, h2, h3, ?_⟩
  · unfold abortBatch
    rw [if_pos (by unfold Part.batchRunning; rw [h]; simpa using hr)]
    show Option.map _ (List.foldl restoreMember p p.unfinished).tuning.batch = _
    rw [h1]; rfl
  · intro m hm
    rcases h4 m hm with h5 | ⟨h5, h6⟩
    · exact h5
    · by_contra hne
      have : m ∈ p.unfinished := by
        unfold Part.unfinished; rw [h]; simp only [hr, if_true, List.mem_filter]
        exact ⟨h5, by simp [Member.isFinished, hne]⟩
      exact h6 m this rfl

end Sys2Proof.Machine
end

