-- ==== Sys2Proof/Laws/Bytes.lean ====
section
/-! SUPPORT. Bytes of numbers and back (R197): what the decoder reads is what the encoder wrote. -/

namespace Sys2Proof

theorem bytes2_length (x : Half) : (bytes2 x).length = 2 := rfl
theorem bytes4_length (x : Word) : (bytes4 x).length = 4 := rfl

/-- The two bytes of a number, put together, are the number. -/
theorem half_of_bytes (x : Half) : x.extractLsb' 8 8 ++ x.extractLsb' 0 8 = x := by
  apply BitVec.eq_of_getLsbD_eq
  intro i hi
  simp only [BitVec.getLsbD_append, BitVec.getLsbD_extractLsb']
  by_cases h : i < 8
  · simp [h]
  · simp [h, show i - 8 < 8 by omega, show 8 + (i - 8) = i by omega]

/-- The four bytes of a number, put together, are the number. -/
theorem word_of_bytes (x : Word) :
    (x.extractLsb' 24 8 ++ x.extractLsb' 16 8) ++ (x.extractLsb' 8 8 ++ x.extractLsb' 0 8) = x := by
  apply BitVec.eq_of_getLsbD_eq
  intro i hi
  simp only [BitVec.getLsbD_append, BitVec.getLsbD_extractLsb']
  by_cases h1 : i < 8
  · simp [h1, show i < 8 + 8 by omega]
  · by_cases h2 : i < 16
    · simp [h1, h2, show i - 8 < 8 by omega, show 8 + (i - 8) = i by omega]
    · by_cases h3 : i < 24
      · simp [h2, show i - 16 < 8 by omega, show 16 + (i - 16) = i by omega]
      · simp [h2, show ¬ i - 16 < 8 by omega, show i - 16 - 8 < 8 by omega, show 24 + (i - 16 - 8) = i by omega]

/-- A number put together from two bytes has these two bytes. -/
theorem bytes2_append (a b : Byte) : bytes2 (a ++ b) = [a, b] := by
  simp only [bytes2, List.cons.injEq, and_true]
  constructor <;>
  · apply BitVec.eq_of_getLsbD_eq
    intro i hi
    simp only [BitVec.getLsbD_append, BitVec.getLsbD_extractLsb']
    simp [hi]

/-- A number put together from four bytes has these four bytes. -/
theorem bytes4_append (a b c d : Byte) : bytes4 ((a ++ b) ++ (c ++ d)) = [a, b, c, d] := by
  simp only [bytes4, List.cons.injEq, and_true]
  refine ⟨?_, ?_, ?_, ?_⟩ <;>
  · apply BitVec.eq_of_getLsbD_eq
    intro i hi
    simp only [BitVec.getLsbD_append, BitVec.getLsbD_extractLsb']
    first
    | (simp [hi, show ¬ 24 + i < 16 by omega, show ¬ 24 + i - 16 < 8 by omega, show 24 + i - 16 - 8 = i by omega]; done)
    | (simp [hi, show ¬ 16 ≤ 8 + i by omega]; done)
    | simp [hi, show ¬ 16 ≤ i by omega]

/-- The two-byte number read where its bytes stand. -/
theorem halfAt_of_bytes (operand : List Byte) (i : Nat) (x : Half) (h0 : operand.getD i 0 = x.extractLsb' 8 8)
    (h1 : operand.getD (i + 1) 0 = x.extractLsb' 0 8) : halfAt operand i = x := by
  simp only [halfAt, byteAt, h0, h1, half_of_bytes]

/-- The four-byte number read where its bytes stand. -/
theorem wordAt_of_bytes (operand : List Byte) (i : Nat) (x : Word) (h0 : operand.getD i 0 = x.extractLsb' 24 8)
    (h1 : operand.getD (i + 1) 0 = x.extractLsb' 16 8) (h2 : operand.getD (i + 2) 0 = x.extractLsb' 8 8)
    (h3 : operand.getD (i + 3) 0 = x.extractLsb' 0 8) : wordAt operand i = x := by
  simp only [wordAt, byteAt, h0, h1, h2, h3, word_of_bytes]

end Sys2Proof
end

