-- ==== Sys2Proof/Laws/Encoder.lean ====
section
/-! SUPPORT. The encoder pair (R61): what `takeEncoder` does with each pair of levels. -/

namespace Sys2Proof.Machine

theorem Encoder.forward_ne_backward (e : Encoder) : e.forward ≠ e.backward := by
  obtain ⟨a, b⟩ := e
  revert a b
  decide

/-- A step back undoes a step forward. -/
theorem Encoder.backward_forward (e : Encoder) : e.forward.backward = e := by
  obtain ⟨a, b⟩ := e
  simp [Encoder.forward, Encoder.backward]

/-- A step forward undoes a step back. -/
theorem Encoder.forward_backward (e : Encoder) : e.backward.forward = e := by
  obtain ⟨a, b⟩ := e
  simp [Encoder.forward, Encoder.backward]

/-- A change of one channel is the step forward or the step back. -/
theorem Encoder.changes_one (e levels : Encoder)
    (h : levels.a ≠ e.a ∧ levels.b = e.b ∨ levels.a = e.a ∧ levels.b ≠ e.b) :
    levels = e.forward ∨ levels = e.backward := by
  obtain ⟨a, b⟩ := e
  obtain ⟨c, d⟩ := levels
  revert a b c d
  decide

theorem takeEncoder_forward (p : Part) :
    takeEncoder p.encoder.forward p = forwardStep (p.setEncoder p.encoder.forward) := if_pos rfl

theorem takeEncoder_backward (p : Part) :
    takeEncoder p.encoder.backward p = backwardStep (p.setEncoder p.encoder.backward) := by
  rw [takeEncoder, if_neg p.encoder.forward_ne_backward.symm, if_pos rfl]

/-- A change of both channels at once, or of neither, is no step (R61). -/
theorem takeEncoder_of_no_step (levels : Encoder) (p : Part)
    (h : levels.a ≠ p.encoder.a ∧ levels.b ≠ p.encoder.b ∨ levels = p.encoder) :
    takeEncoder levels p = p.setEncoder levels := by
  have differs : levels ≠ p.encoder.forward ∧ levels ≠ p.encoder.backward := by
    revert h
    generalize p.encoder = e
    obtain ⟨a, b⟩ := e
    obtain ⟨c, d⟩ := levels
    revert a b c d
    decide
  rw [takeEncoder, if_neg differs.1, if_neg differs.2]

end Sys2Proof.Machine
end

