-- ==== Sys2Proof/Laws/Reactions.lean ====
section
/-! SUPPORT. What an event handed to the reaction map can change (R173 to R175, R179): the run state, ROUTE_HOLD, the
attention cause ROUTE, the line records and the tallies. -/

namespace Sys2Proof.Machine

/-! ## Routes serve an event -/

/-- The holds and causes of a reaction are another's, but for ROUTE_HOLD and ROUTE. -/
def Reaction.fitsRoutes (r q : Reaction) : Prop :=
  q.holds = { r.holds with routeHold := q.holds.routeHold } ∧
    q.attention = { r.attention with route := q.attention.route } ∧
    (r.runState = .stopped → q.runState = .stopped)

theorem Reaction.fitsRoutes_refl (r : Reaction) : r.fitsRoutes r := ⟨rfl, rfl, id⟩

theorem Reaction.fitsRoutes_trans {a b c : Reaction} (h : a.fitsRoutes b) (k : b.fitsRoutes c) : a.fitsRoutes c := by
  obtain ⟨h1, h2, h3⟩ := h
  obtain ⟨k1, k2, k3⟩ := k
  refine ⟨?_, ?_, fun x => k3 (h3 x)⟩
  · rw [k1, h1]
  · rw [k2, h2]

/-- A task changes no hold but ROUTE_HOLD, no cause but ROUTE, and leaves STOPPED. -/
theorem performTask_fits (p : Part) (t : Task) (r : Reaction) : r.fitsRoutes (performTask p t r).1 := by
  cases t with
  | attend => exact ⟨rfl, rfl, id⟩
  | holdFeed => exact ⟨rfl, rfl, id⟩
  | stopAtClear => exact ⟨rfl, rfl, fun h => by simp [performTask, RunState.stopAtClear, h]⟩
  | pulseLines _ _ => exact ⟨rfl, rfl, id⟩
  | setLines _ => exact ⟨rfl, rfl, id⟩
  | clearLines _ => exact ⟨rfl, rfl, id⟩
  | follow _ => exact ⟨rfl, rfl, id⟩
  | tallyStep i =>
    simp only [performTask, stepTally]
    split
    · exact ⟨rfl, rfl, id⟩
    · exact ⟨rfl, rfl, id⟩

theorem serveRoutes_fits (p : Part) (e : Event) (routes : List Route) (r : Reaction) :
    r.fitsRoutes (serveRoutes p e routes r).1 := by
  induction routes generalizing r with
  | nil => exact r.fitsRoutes_refl
  | cons route rest ih =>
    simp only [serveRoutes]
    refine Reaction.fitsRoutes_trans ?_ (ih _)
    split
    · exact performTask_fits _ _ _
    · exact r.fitsRoutes_refl

theorem serveEvents_fits (p : Part) (fuel : Nat) (events : List Event) (r : Reaction) :
    r.fitsRoutes (serveEvents p fuel events r) := by
  induction fuel generalizing events r with
  | zero => exact r.fitsRoutes_refl
  | succ k ih =>
    cases events with
    | nil => exact r.fitsRoutes_refl
    | cons e rest => exact Reaction.fitsRoutes_trans (serveRoutes_fits _ _ _ _) (ih _ _)

/-- Routes that do not fire on an event leave everything as it is. -/
theorem serveRoutes_of_none (p : Part) (e : Event) (routes : List Route) (r : Reaction)
    (h : ∀ route ∈ routes, route.fires e = false) : serveRoutes p e routes r = (r, []) := by
  induction routes generalizing r with
  | nil => rfl
  | cons route rest ih =>
    have hr := h route (by simp)
    have rest' := ih r (fun x hx => h x (by simp [hx]))
    simp [serveRoutes, hr, rest']

/-- Only the routes that fire act. -/
theorem serveRoutes_filter (p : Part) (e : Event) (routes : List Route) (r : Reaction) :
    serveRoutes p e routes r = serveRoutes p e (routes.filter fun x => x.fires e) r := by
  induction routes generalizing r with
  | nil => rfl
  | cons route rest ih =>
    by_cases hr : route.fires e = true
    · simp [serveRoutes, hr, ih]
    · simp [serveRoutes, hr, ih]

/-! ## The routes that fire on an event -/

/-- A task looks at the passage of records and at the STOP line, and at nothing else of the part. -/
theorem performTask_congr (p q : Part) (t : Task) (r : Reaction) (h : p.hides = q.hides)
    (hs : p.feed.stopLine = q.feed.stopLine) :
    performTask p t r = performTask q t r := by
  cases t <;> simp only [performTask, Part.anyInPassage, hs]
  rw [h]

/-- A task raises nothing, or is a TALLY_STEP that raises that tally's TALLY_REACHED. -/
theorem performTask_events (p : Part) (t : Task) (r : Reaction) :
    (performTask p t r).2 = [] ∨ ∃ k c, t = .tallyStep k ∧ (performTask p t r).2 = [.tallyReached k c] := by
  cases t <;> try (left; rfl)
  rename_i k
  simp only [performTask, stepTally]
  split
  · left; rfl
  · split
    · right; exact ⟨_, _, rfl, rfl⟩
    · left; rfl

/-- Events on which no route fires change nothing. -/
theorem serveEvents_of_none (p : Part) (fuel : Nat) : ∀ (es : List Event) (r : Reaction),
    (∀ e ∈ es, ∀ route ∈ p.routes.toList, route.fires e = false) → serveEvents p fuel es r = r := by
  induction fuel with
  | zero => intro es r _; rfl
  | succ k ih =>
    intro es r h
    cases es with
    | nil => rfl
    | cons e rest =>
      simp only [serveEvents]
      rw [serveRoutes_of_none p e _ r (h e (by simp))]
      simp only [List.append_nil]
      exact ih _ _ fun x hx => h x (by simp [hx])

/-- The routes that fire on an event, taken by their index in ascending order. -/
theorem firing_routes (e : Event) (v : Vector Route 16) (fires : Fin 16 → Bool)
    (h : ∀ k : Fin 16, (v[k.val]).fires e = fires k) :
    (v.toList.filter fun x => x.fires e) = ((List.finRange 16).filter fires).map fun k => v[k.val] := by
  have byIndex : v.toList = (List.finRange 16).map fun k => v[k.val] := by
    apply List.ext_getElem <;> simp
  rw [byIndex, List.filter_map]
  congr 2
  exact funext h

/-- Where one route fires on an event, its task is all that happens. -/
theorem serveRoutes_one (p : Part) (e : Event) (v : Vector Route 16) (i : Fin 16) (r : Reaction)
    (hi : (v[i.val]).fires e = true) (hn : ∀ k : Fin 16, k ≠ i → (v[k.val]).fires e = false) :
    serveRoutes p e v.toList r = performTask p (v[i.val]).task r := by
  have alone : ∀ i : Fin 16, ((List.finRange 16).filter fun k => decide (k = i)) = [i] := by decide
  rw [serveRoutes_filter, firing_routes e v (fun k => decide (k = i)), alone]
  · simp [serveRoutes, hi]
  · intro k
    rcases eq_or_ne k i with rfl | h
    · simpa using hi
    · simp [hn k h, h]

/-- Where two routes fire on an event, the task of the smaller index acts first and the other on what it left. -/
theorem serveRoutes_two (p : Part) (e : Event) (v : Vector Route 16) (i j : Fin 16) (r : Reaction) (hij : i < j)
    (hi : (v[i.val]).fires e = true) (hj : (v[j.val]).fires e = true)
    (hn : ∀ k : Fin 16, k ≠ i → k ≠ j → (v[k.val]).fires e = false) :
    serveRoutes p e v.toList r = ((performTask p (v[j.val]).task (performTask p (v[i.val]).task r).1).1,
      (performTask p (v[i.val]).task r).2 ++ (performTask p (v[j.val]).task (performTask p (v[i.val]).task r).1).2) := by
  have ascending : ∀ i j : Fin 16, i < j → ((List.finRange 16).filter fun k => decide (k = i ∨ k = j)) = [i, j] := by
    decide
  rw [serveRoutes_filter, firing_routes e v (fun k => decide (k = i ∨ k = j)), ascending i j hij]
  · simp [serveRoutes, hi, hj]
  · intro k
    rcases eq_or_ne k i with rfl | h
    · simpa using hi
    · rcases eq_or_ne k j with rfl | h'
      · simpa using hj
      · simp [hn k h h', h, h']

/-! ## An event -/

/-- An event changes nothing but what routes act on, and leaves STOPPED. -/
theorem raise_onlyRoutes (e : Event) (p : Part) : onlyRoutes p (raise e p) := by
  obtain ⟨h1, h2, _⟩ := serveEvents_fits p eventFuel [e] p.reaction
  show raise e p = _
  unfold raise
  generalize serveEvents p eventFuel [e] p.reaction = r at h1 h2
  simp only [Part.reaction] at h1 h2
  simp only [Part.withReaction]
  rw [← h1, ← h2]

/-- With no route that fires on it, an event changes nothing. -/
theorem raise_of_none (e : Event) (p : Part) (h : ∀ route ∈ p.routes.toList, route.fires e = false) :
    raise e p = p := by
  unfold raise
  have served : serveEvents p eventFuel [e] p.reaction = p.reaction := by
    simp [serveEvents, eventFuel, serveRoutes_of_none p e _ p.reaction h]
  rw [served]
  rfl

/-- Where every route is disabled, an event changes nothing. -/
theorem raise_of_disabled (e : Event) (p : Part) (h : ∀ i : Fin 16, (p.routes[i.val]).enabled = false) :
    raise e p = p := by
  apply raise_of_none
  intro route hr
  obtain ⟨i, hi, rfl⟩ := List.mem_iff_getElem.mp hr
  have := h ⟨i, by simpa using hi⟩
  simp only [Vector.getElem_toList]
  simp [Route.fires, this]

theorem raise_stopped (e : Event) (p : Part) (h : p.feed.runState = .stopped) :
    (raise e p).feed.runState = .stopped := (serveEvents_fits p eventFuel [e] p.reaction).2.2 h

/-! Each field an event leaves. -/

@[simp] theorem raise_articles (e : Event) (p : Part) : (raise e p).articles = p.articles := rfl
@[simp] theorem raise_hides (e : Event) (p : Part) : (raise e p).hides = p.hides := rfl
@[simp] theorem raise_nextTicket (e : Event) (p : Part) : (raise e p).nextTicket = p.nextTicket := rfl
@[simp] theorem raise_unbound (e : Event) (p : Part) : (raise e p).unbound = p.unbound := rfl
@[simp] theorem raise_eye (e : Event) (p : Part) : (raise e p).eye = p.eye := rfl
@[simp] theorem raise_gap (e : Event) (p : Part) : (raise e p).gap = p.gap := rfl
@[simp] theorem raise_lanes (e : Event) (p : Part) : (raise e p).lanes = p.lanes := rfl
@[simp] theorem raise_scanPeriod (e : Event) (p : Part) : (raise e p).scanPeriod = p.scanPeriod := rfl
@[simp] theorem raise_tuning (e : Event) (p : Part) : (raise e p).tuning = p.tuning := rfl
@[simp] theorem raise_pressure (e : Event) (p : Part) : (raise e p).pressure = p.pressure := rfl
@[simp] theorem raise_bus (e : Event) (p : Part) : (raise e p).bus = p.bus := rfl
@[simp] theorem raise_routes (e : Event) (p : Part) : (raise e p).routes = p.routes := rfl
@[simp] theorem raise_settings (e : Event) (p : Part) : (raise e p).settings = p.settings := rfl
@[simp] theorem raise_freeCount (e : Event) (p : Part) : (raise e p).freeCount = p.freeCount := rfl
@[simp] theorem raise_encoder (e : Event) (p : Part) : (raise e p).encoder = p.encoder := rfl
@[simp] theorem raise_feed_position (e : Event) (p : Part) : (raise e p).feed.position = p.feed.position := rfl
@[simp] theorem raise_feed_backwardRun (e : Event) (p : Part) : (raise e p).feed.backwardRun = p.feed.backwardRun := rfl
@[simp] theorem raise_feed_stopLine (e : Event) (p : Part) : (raise e p).feed.stopLine = p.feed.stopLine := rfl
@[simp] theorem raise_port_acceptIn (e : Event) (p : Part) : (raise e p).port.acceptIn = p.port.acceptIn := rfl
@[simp] theorem raise_port_slot (e : Event) (p : Part) : (raise e p).port.slot = p.port.slot := rfl
@[simp] theorem raise_port_attentionMask (e : Event) (p : Part) : (raise e p).port.attentionMask = p.port.attentionMask := rfl
@[simp] theorem raise_port_shortBits (e : Event) (p : Part) : (raise e p).port.shortBits = p.port.shortBits := rfl
@[simp] theorem raise_port_shiftedOut (e : Event) (p : Part) : (raise e p).port.shiftedOut = p.port.shiftedOut := rfl
@[simp] theorem raise_holds_stopLine (e : Event) (p : Part) : (raise e p).feed.holds.stopLine = p.feed.holds.stopLine := by
  rw [raise_onlyRoutes e p]
@[simp] theorem raise_holds_stopRecovery (e : Event) (p : Part) : (raise e p).feed.holds.stopRecovery = p.feed.holds.stopRecovery := by
  rw [raise_onlyRoutes e p]
@[simp] theorem raise_holds_hostHold (e : Event) (p : Part) : (raise e p).feed.holds.hostHold = p.feed.holds.hostHold := by
  rw [raise_onlyRoutes e p]
@[simp] theorem raise_holds_unboundEdge (e : Event) (p : Part) : (raise e p).feed.holds.unboundEdge = p.feed.holds.unboundEdge := by
  rw [raise_onlyRoutes e p]
@[simp] theorem raise_holds_overlength (e : Event) (p : Part) : (raise e p).feed.holds.overlength = p.feed.holds.overlength := by
  rw [raise_onlyRoutes e p]
@[simp] theorem raise_holds_hideAborted (e : Event) (p : Part) : (raise e p).feed.holds.hideAborted = p.feed.holds.hideAborted := by
  rw [raise_onlyRoutes e p]
@[simp] theorem raise_holds_gapNotReady (e : Event) (p : Part) : (raise e p).feed.holds.gapNotReady = p.feed.holds.gapNotReady := by
  rw [raise_onlyRoutes e p]
@[simp] theorem raise_holds_gapFault (e : Event) (p : Part) : (raise e p).feed.holds.gapFault = p.feed.holds.gapFault := by
  rw [raise_onlyRoutes e p]
@[simp] theorem raise_holds_tuning (e : Event) (p : Part) : (raise e p).feed.holds.tuning = p.feed.holds.tuning := by
  rw [raise_onlyRoutes e p]
@[simp] theorem raise_holds_reverse (e : Event) (p : Part) : (raise e p).feed.holds.reverse = p.feed.holds.reverse := by
  rw [raise_onlyRoutes e p]
@[simp] theorem raise_attention_restarted (e : Event) (p : Part) :
    (raise e p).port.attention.restarted = p.port.attention.restarted := by
  rw [raise_onlyRoutes e p]
@[simp] theorem raise_attention_hideDone (e : Event) (p : Part) :
    (raise e p).port.attention.hideDone = p.port.attention.hideDone := by
  rw [raise_onlyRoutes e p]
@[simp] theorem raise_attention_unboundEdge (e : Event) (p : Part) :
    (raise e p).port.attention.unboundEdge = p.port.attention.unboundEdge := by
  rw [raise_onlyRoutes e p]
@[simp] theorem raise_attention_overlength (e : Event) (p : Part) :
    (raise e p).port.attention.overlength = p.port.attention.overlength := by
  rw [raise_onlyRoutes e p]
@[simp] theorem raise_attention_articleGone (e : Event) (p : Part) :
    (raise e p).port.attention.articleGone = p.port.attention.articleGone := by
  rw [raise_onlyRoutes e p]
@[simp] theorem raise_attention_tuneDone (e : Event) (p : Part) :
    (raise e p).port.attention.tuneDone = p.port.attention.tuneDone := by
  rw [raise_onlyRoutes e p]
@[simp] theorem raise_attention_gapFault (e : Event) (p : Part) :
    (raise e p).port.attention.gapFault = p.port.attention.gapFault := by
  rw [raise_onlyRoutes e p]
@[simp] theorem raise_attention_boardFault (e : Event) (p : Part) :
    (raise e p).port.attention.boardFault = p.port.attention.boardFault := by
  rw [raise_onlyRoutes e p]
@[simp] theorem raise_attention_laneFault (e : Event) (p : Part) :
    (raise e p).port.attention.laneFault = p.port.attention.laneFault := by
  rw [raise_onlyRoutes e p]
@[simp] theorem raise_attention_stop (e : Event) (p : Part) :
    (raise e p).port.attention.stop = p.port.attention.stop := by
  rw [raise_onlyRoutes e p]

@[simp] theorem raise_lane (e : Event) (p : Part) (n : LaneNo) : (raise e p).lane n = p.lane n := rfl
@[simp] theorem raise_laneTuning (e : Event) (p : Part) (n : LaneNo) :
    (raise e p).laneTuning n = p.laneTuning n := rfl
@[simp] theorem raise_drive (e : Event) (p : Part) (n : LaneNo) : (raise e p).drive n = p.drive n := rfl
@[simp] theorem raise_wanted (e : Event) (p : Part) (n : LaneNo) : (raise e p).wanted n = p.wanted n := rfl

/-! ## Several events -/

/-- Several events change nothing but what routes act on. -/
theorem raiseAll_onlyRoutes (events : List Event) (p : Part) : onlyRoutes p (raiseAll events p) := by
  induction events generalizing p with
  | nil => rfl
  | cons e rest ih =>
    have h1 := raise_onlyRoutes e p
    have h2 := ih (raise e p)
    unfold onlyRoutes at h1 h2 ⊢
    simp only [raiseAll]
    rw [h2, h1]

theorem raiseAll_of_disabled (events : List Event) (p : Part) (h : ∀ i : Fin 16, (p.routes[i.val]).enabled = false) :
    raiseAll events p = p := by
  induction events generalizing p with
  | nil => rfl
  | cons e rest ih =>
    simp only [raiseAll]
    rw [raise_of_disabled e p h]
    exact ih p h

theorem raiseAll_stopped (events : List Event) (p : Part) (h : p.feed.runState = .stopped) :
    (raiseAll events p).feed.runState = .stopped := by
  induction events generalizing p with
  | nil => exact h
  | cons e rest ih => exact ih _ (raise_stopped e p h)

@[simp] theorem raiseAll_articles (events : List Event) (p : Part) : (raiseAll events p).articles = p.articles := by
  rw [raiseAll_onlyRoutes events p]
@[simp] theorem raiseAll_hides (events : List Event) (p : Part) : (raiseAll events p).hides = p.hides := by
  rw [raiseAll_onlyRoutes events p]
@[simp] theorem raiseAll_nextTicket (events : List Event) (p : Part) : (raiseAll events p).nextTicket = p.nextTicket := by
  rw [raiseAll_onlyRoutes events p]
@[simp] theorem raiseAll_unbound (events : List Event) (p : Part) : (raiseAll events p).unbound = p.unbound := by
  rw [raiseAll_onlyRoutes events p]
@[simp] theorem raiseAll_eye (events : List Event) (p : Part) : (raiseAll events p).eye = p.eye := by
  rw [raiseAll_onlyRoutes events p]
@[simp] theorem raiseAll_gap (events : List Event) (p : Part) : (raiseAll events p).gap = p.gap := by
  rw [raiseAll_onlyRoutes events p]
@[simp] theorem raiseAll_lanes (events : List Event) (p : Part) : (raiseAll events p).lanes = p.lanes := by
  rw [raiseAll_onlyRoutes events p]
@[simp] theorem raiseAll_scanPeriod (events : List Event) (p : Part) : (raiseAll events p).scanPeriod = p.scanPeriod := by
  rw [raiseAll_onlyRoutes events p]
@[simp] theorem raiseAll_tuning (events : List Event) (p : Part) : (raiseAll events p).tuning = p.tuning := by
  rw [raiseAll_onlyRoutes events p]
@[simp] theorem raiseAll_pressure (events : List Event) (p : Part) : (raiseAll events p).pressure = p.pressure := by
  rw [raiseAll_onlyRoutes events p]
@[simp] theorem raiseAll_bus (events : List Event) (p : Part) : (raiseAll events p).bus = p.bus := by
  rw [raiseAll_onlyRoutes events p]
@[simp] theorem raiseAll_routes (events : List Event) (p : Part) : (raiseAll events p).routes = p.routes := by
  rw [raiseAll_onlyRoutes events p]
@[simp] theorem raiseAll_settings (events : List Event) (p : Part) : (raiseAll events p).settings = p.settings := by
  rw [raiseAll_onlyRoutes events p]
@[simp] theorem raiseAll_freeCount (events : List Event) (p : Part) : (raiseAll events p).freeCount = p.freeCount := by
  rw [raiseAll_onlyRoutes events p]
@[simp] theorem raiseAll_encoder (events : List Event) (p : Part) : (raiseAll events p).encoder = p.encoder := by
  rw [raiseAll_onlyRoutes events p]
@[simp] theorem raiseAll_feed_position (events : List Event) (p : Part) :
    (raiseAll events p).feed.position = p.feed.position := by
  rw [raiseAll_onlyRoutes events p]
@[simp] theorem raiseAll_feed_backwardRun (events : List Event) (p : Part) :
    (raiseAll events p).feed.backwardRun = p.feed.backwardRun := by
  rw [raiseAll_onlyRoutes events p]
@[simp] theorem raiseAll_feed_stopLine (events : List Event) (p : Part) :
    (raiseAll events p).feed.stopLine = p.feed.stopLine := by
  rw [raiseAll_onlyRoutes events p]
@[simp] theorem raiseAll_port_acceptIn (events : List Event) (p : Part) :
    (raiseAll events p).port.acceptIn = p.port.acceptIn := by
  rw [raiseAll_onlyRoutes events p]
@[simp] theorem raiseAll_port_slot (events : List Event) (p : Part) :
    (raiseAll events p).port.slot = p.port.slot := by
  rw [raiseAll_onlyRoutes events p]
@[simp] theorem raiseAll_port_attentionMask (events : List Event) (p : Part) :
    (raiseAll events p).port.attentionMask = p.port.attentionMask := by
  rw [raiseAll_onlyRoutes events p]
@[simp] theorem raiseAll_port_shortBits (events : List Event) (p : Part) :
    (raiseAll events p).port.shortBits = p.port.shortBits := by
  rw [raiseAll_onlyRoutes events p]
@[simp] theorem raiseAll_port_shiftedOut (events : List Event) (p : Part) :
    (raiseAll events p).port.shiftedOut = p.port.shiftedOut := by
  rw [raiseAll_onlyRoutes events p]
@[simp] theorem raiseAll_holds_stopLine (events : List Event) (p : Part) :
    (raiseAll events p).feed.holds.stopLine = p.feed.holds.stopLine := by
  rw [raiseAll_onlyRoutes events p]
@[simp] theorem raiseAll_holds_stopRecovery (events : List Event) (p : Part) :
    (raiseAll events p).feed.holds.stopRecovery = p.feed.holds.stopRecovery := by
  rw [raiseAll_onlyRoutes events p]
@[simp] theorem raiseAll_holds_hostHold (events : List Event) (p : Part) :
    (raiseAll events p).feed.holds.hostHold = p.feed.holds.hostHold := by
  rw [raiseAll_onlyRoutes events p]
@[simp] theorem raiseAll_holds_unboundEdge (events : List Event) (p : Part) :
    (raiseAll events p).feed.holds.unboundEdge = p.feed.holds.unboundEdge := by
  rw [raiseAll_onlyRoutes events p]
@[simp] theorem raiseAll_holds_overlength (events : List Event) (p : Part) :
    (raiseAll events p).feed.holds.overlength = p.feed.holds.overlength := by
  rw [raiseAll_onlyRoutes events p]
@[simp] theorem raiseAll_holds_hideAborted (events : List Event) (p : Part) :
    (raiseAll events p).feed.holds.hideAborted = p.feed.holds.hideAborted := by
  rw [raiseAll_onlyRoutes events p]
@[simp] theorem raiseAll_holds_gapNotReady (events : List Event) (p : Part) :
    (raiseAll events p).feed.holds.gapNotReady = p.feed.holds.gapNotReady := by
  rw [raiseAll_onlyRoutes events p]
@[simp] theorem raiseAll_holds_gapFault (events : List Event) (p : Part) :
    (raiseAll events p).feed.holds.gapFault = p.feed.holds.gapFault := by
  rw [raiseAll_onlyRoutes events p]
@[simp] theorem raiseAll_holds_tuning (events : List Event) (p : Part) :
    (raiseAll events p).feed.holds.tuning = p.feed.holds.tuning := by
  rw [raiseAll_onlyRoutes events p]
@[simp] theorem raiseAll_holds_reverse (events : List Event) (p : Part) :
    (raiseAll events p).feed.holds.reverse = p.feed.holds.reverse := by
  rw [raiseAll_onlyRoutes events p]
@[simp] theorem raiseAll_attention_restarted (events : List Event) (p : Part) :
    (raiseAll events p).port.attention.restarted = p.port.attention.restarted := by
  rw [raiseAll_onlyRoutes events p]
@[simp] theorem raiseAll_attention_hideDone (events : List Event) (p : Part) :
    (raiseAll events p).port.attention.hideDone = p.port.attention.hideDone := by
  rw [raiseAll_onlyRoutes events p]
@[simp] theorem raiseAll_attention_unboundEdge (events : List Event) (p : Part) :
    (raiseAll events p).port.attention.unboundEdge = p.port.attention.unboundEdge := by
  rw [raiseAll_onlyRoutes events p]
@[simp] theorem raiseAll_attention_overlength (events : List Event) (p : Part) :
    (raiseAll events p).port.attention.overlength = p.port.attention.overlength := by
  rw [raiseAll_onlyRoutes events p]
@[simp] theorem raiseAll_attention_articleGone (events : List Event) (p : Part) :
    (raiseAll events p).port.attention.articleGone = p.port.attention.articleGone := by
  rw [raiseAll_onlyRoutes events p]
@[simp] theorem raiseAll_attention_tuneDone (events : List Event) (p : Part) :
    (raiseAll events p).port.attention.tuneDone = p.port.attention.tuneDone := by
  rw [raiseAll_onlyRoutes events p]
@[simp] theorem raiseAll_attention_gapFault (events : List Event) (p : Part) :
    (raiseAll events p).port.attention.gapFault = p.port.attention.gapFault := by
  rw [raiseAll_onlyRoutes events p]
@[simp] theorem raiseAll_attention_boardFault (events : List Event) (p : Part) :
    (raiseAll events p).port.attention.boardFault = p.port.attention.boardFault := by
  rw [raiseAll_onlyRoutes events p]
@[simp] theorem raiseAll_attention_laneFault (events : List Event) (p : Part) :
    (raiseAll events p).port.attention.laneFault = p.port.attention.laneFault := by
  rw [raiseAll_onlyRoutes events p]
@[simp] theorem raiseAll_attention_stop (events : List Event) (p : Part) :
    (raiseAll events p).port.attention.stop = p.port.attention.stop := by
  rw [raiseAll_onlyRoutes events p]

/-! ## PER_HIDE tallies -/

/-- The PER_HIDE comparison changes nothing but what routes act on. -/
theorem comparePerHideTallies_onlyRoutes (p : Part) : onlyRoutes p (comparePerHideTallies p) := by
  have h := raiseAll_onlyRoutes (perHideEvents p) (clearPerHideTallies p)
  unfold onlyRoutes at h ⊢
  unfold comparePerHideTallies
  rw [h]
  rfl

end Sys2Proof.Machine
end

