-- ==== Sys2Proof/Laws/Gap.lean ====
section
/-! SUPPORT. What a recompute of the lane pressures changes (R144 to R146, R156), and the operations of the gap axis
that other blocks hand on to. -/

namespace Sys2Proof.Machine

/-! ## A recompute -/

@[simp] theorem recompute_articles (p : Part) : (recompute p).articles = p.articles := by simp only [recompute]
@[simp] theorem recompute_hides (p : Part) : (recompute p).hides = p.hides := by simp only [recompute]
@[simp] theorem recompute_nextTicket (p : Part) : (recompute p).nextTicket = p.nextTicket := by simp only [recompute]
@[simp] theorem recompute_unbound (p : Part) : (recompute p).unbound = p.unbound := by simp only [recompute]
@[simp] theorem recompute_eye (p : Part) : (recompute p).eye = p.eye := by simp only [recompute]
@[simp] theorem recompute_feed (p : Part) : (recompute p).feed = p.feed := by simp only [recompute]
@[simp] theorem recompute_gap (p : Part) : (recompute p).gap = p.gap := by simp only [recompute]
@[simp] theorem recompute_lanes (p : Part) : (recompute p).lanes = p.lanes := by simp only [recompute]
@[simp] theorem recompute_scanPeriod (p : Part) : (recompute p).scanPeriod = p.scanPeriod := by simp only [recompute]
@[simp] theorem recompute_tuning (p : Part) : (recompute p).tuning = p.tuning := by simp only [recompute]
@[simp] theorem recompute_routes (p : Part) : (recompute p).routes = p.routes := by simp only [recompute]
@[simp] theorem recompute_lines (p : Part) : (recompute p).lines = p.lines := by simp only [recompute]
@[simp] theorem recompute_tallies (p : Part) : (recompute p).tallies = p.tallies := by simp only [recompute]
@[simp] theorem recompute_port (p : Part) : (recompute p).port = p.port := by simp only [recompute]
@[simp] theorem recompute_settings (p : Part) : (recompute p).settings = p.settings := by simp only [recompute]
@[simp] theorem recompute_freeCount (p : Part) : (recompute p).freeCount = p.freeCount := by simp only [recompute]
@[simp] theorem recompute_encoder (p : Part) : (recompute p).encoder = p.encoder := by simp only [recompute]
@[simp] theorem recompute_bus_boards (p : Part) : (recompute p).bus.boards = p.bus.boards := by simp only [recompute]
@[simp] theorem recompute_bus_master (p : Part) : (recompute p).bus.master = p.bus.master := by simp only [recompute]
@[simp] theorem recompute_bus_pointer (p : Part) : (recompute p).bus.pointer = p.bus.pointer := by simp only [recompute]
@[simp] theorem recompute_bus_cursor (p : Part) : (recompute p).bus.cursor = p.bus.cursor := by simp only [recompute]
@[simp] theorem recompute_bus_frameCount (p : Part) : (recompute p).bus.frameCount = p.bus.frameCount := by simp only [recompute]
@[simp] theorem recompute_bus_sessionLimit (p : Part) : (recompute p).bus.sessionLimit = p.bus.sessionLimit := by simp only [recompute]
@[simp] theorem recompute_bus_resetDrain (p : Part) : (recompute p).bus.resetDrain = p.bus.resetDrain := by simp only [recompute]
@[simp] theorem recompute_bus_selectTimer (p : Part) : (recompute p).bus.selectTimer = p.bus.selectTimer := by simp only [recompute]
@[simp] theorem recompute_bus_releaseTimer (p : Part) : (recompute p).bus.releaseTimer = p.bus.releaseTimer := by simp only [recompute]
@[simp] theorem recompute_bus_dueNext (p : Part) : (recompute p).bus.dueNext = p.bus.dueNext := by simp only [recompute]
@[simp] theorem recompute_bus_dueAfter (p : Part) : (recompute p).bus.dueAfter = p.bus.dueAfter := by simp only [recompute]
@[simp] theorem recompute_stopLevel (p : Part) : (recompute p).pressure.stopLevel = p.pressure.stopLevel := by
  simp only [recompute]
@[simp] theorem recompute_pressure_wanted (p : Part) : (recompute p).pressure.wanted = p.pressures := by simp only [recompute]
@[simp] theorem recompute_lane (p : Part) (n : LaneNo) : (recompute p).lane n = p.lane n := by simp only [Part.lane, recompute_lanes]
@[simp] theorem recompute_laneTuning (p : Part) (n : LaneNo) : (recompute p).laneTuning n = p.laneTuning n := by
  simp only [Part.laneTuning, recompute_tuning]

/-- The wanted pressures read the lanes, the hides, the settings and the STOP level, and nothing else. -/
theorem Part.pressureFor_congr {p q : Part} (hl : q.lanes = p.lanes) (hh : q.hides = p.hides)
    (hs : q.settings = p.settings) (hp : q.pressure.stopLevel = p.pressure.stopLevel) (n : LaneNo) :
    q.pressureFor q.contactSpan n = p.pressureFor p.contactSpan n := by
  have lane : ∀ m, q.lane m = p.lane m := fun m => by simp only [Part.lane, hl]
  have span : q.contactSpan = p.contactSpan := by simp only [Part.contactSpan, Part.contactSet, lane]
  have bridged : q.bridged n = p.bridged n := by simp only [Part.bridged, lane]
  have case : q.pressureCase n = p.pressureCase n := by simp only [Part.pressureCase, Part.splitting?, lane, hh, hp]
  have sum : ∀ f, q.splitSum q.contactSpan f n = p.splitSum p.contactSpan f n := fun f => by
    simp only [Part.splitSum, lane, bridged, span]
  simp only [Part.pressureFor, case, sum, hs]

theorem Part.pressures_congr {p q : Part} (hl : q.lanes = p.lanes) (hh : q.hides = p.hides)
    (hs : q.settings = p.settings) (hp : q.pressure.stopLevel = p.pressure.stopLevel) : q.pressures = p.pressures := by
  simp only [Part.pressures]
  congr 1
  funext n
  exact Part.pressureFor_congr hl hh hs hp n

/-- After a recompute every lane's wanted pressure is its case's. -/
theorem recompute_wanted (p : Part) (n : LaneNo) : (recompute p).wanted n = p.pressureFor p.contactSpan n := by
  simp [Part.wanted, Part.pressures]

theorem recompute_decides (p : Part) : wantedIsDecided (recompute p) := by
  show (recompute p).pressure.wanted = (recompute p).pressures
  rw [recompute_pressure_wanted]
  exact (Part.pressures_congr (by simp) (by simp) (by simp) (by simp)).symm

/-- A recompute hands on the lanes whose value changes: a SETTLED one waits (R156). -/
theorem recompute_drive (p : Part) (n : LaneNo) : (recompute p).drive n =
    if p.wanted n ≠ p.pressureFor p.contactSpan n ∧ (p.drive n).state = .settled
      then { p.drive n with state := .waiting } else p.drive n := by
  have values : (recompute p).drive n =
      if p.wanted n = p.pressureFor p.contactSpan n then p.drive n else (p.drive n).handOn := by
    simp only [recompute, handOnDrives, Part.drive, Part.wanted, Part.pressures, Vector.getElem_ofFn, Fin.eta]
    by_cases h : p.pressure.wanted[n.val] = p.pressureFor p.contactSpan n <;> simp [h]
  rw [values]
  by_cases h : p.wanted n = p.pressureFor p.contactSpan n
  · simp [h]
  · cases hs : (p.drive n).state <;> simp [h, hs, Drive.handOn]

theorem recompute_applied (p : Part) (n : LaneNo) : ((recompute p).drive n).applied = (p.drive n).applied := by
  rw [recompute_drive]; split <;> rfl

theorem recompute_retry (p : Part) (n : LaneNo) : ((recompute p).drive n).retry = (p.drive n).retry := by
  rw [recompute_drive]; split <;> rfl

/-- A lane that waits or is in flight stays so. -/
theorem recompute_state (p : Part) (n : LaneNo) (h : (p.drive n).state ≠ .settled) :
    ((recompute p).drive n).state = (p.drive n).state := by
  rw [recompute_drive, if_neg (fun x => h x.2)]

/-! ## Readiness and moves

`changesGap p q`: from `p` to `q` nothing has changed but the axis record and GAP_NOT_READY. -/

/-- From `p` to `q` nothing has changed but the axis record and GAP_NOT_READY. -/
def changesGap (p q : Part) : Prop :=
  q = { p with
    gap := q.gap
    feed := { p.feed with holds := { p.feed.holds with gapNotReady := q.feed.holds.gapNotReady } } }

theorem changesGap_refl (p : Part) : changesGap p p := rfl

theorem changesGap_trans {p q r : Part} (h : changesGap p q) (k : changesGap q r) : changesGap p r := by
  unfold changesGap at *
  rw [k, h]

/-- What the move operations keep of the axis record: last pair, excursion run. -/
def keepsPair (g k : GapAxis) : Prop := k.lastPair = g.lastPair ∧ k.excursionRun = g.excursionRun

theorem notReadyTest_changesGap (p : Part) : changesGap p (notReadyTest p) := rfl

theorem notReadyTest_holds (p : Part) : notReadyIsHeld (notReadyTest p) := rfl

theorem startMove_changesGap (g : GapTol) (p : Part) : changesGap p (startMove g p) := rfl

theorem stage_changesGap (p : Part) : changesGap p (stage p) := by
  unfold stage
  split
  · rfl
  · split <;> rfl

theorem startTest_changesGap (p : Part) : changesGap p (startTest p) := by
  unfold startTest
  split
  · exact startMove_changesGap _ _
  · rfl

theorem startPendingApply_changesGap (p : Part) : changesGap p (startPendingApply p) := by
  unfold startPendingApply
  dsimp only
  split <;> rfl

theorem gapHandOn_changesGap (p : Part) : changesGap p (gapHandOn p) := by
  unfold gapHandOn
  refine changesGap_trans (stage_changesGap p) ?_
  refine changesGap_trans ?_ (notReadyTest_changesGap _)
  split
  · exact startPendingApply_changesGap _
  · exact startTest_changesGap _

theorem gapHandOn_holds (p : Part) : notReadyIsHeld (gapHandOn p) := notReadyTest_holds _

theorem gapCleared_changesGap (p : Part) : changesGap p (gapCleared p) := by
  unfold gapCleared
  dsimp only
  refine changesGap_trans (stage_changesGap p) (changesGap_trans ?_ (notReadyTest_changesGap _))
  split
  · exact startPendingApply_changesGap _
  · split
    · exact startTest_changesGap _
    · split
      · split
        · exact startMove_changesGap _ _
        · rfl
      · rfl

theorem gapCleared_holds (p : Part) : notReadyIsHeld (gapCleared p) := notReadyTest_holds _

@[simp] theorem notReadyTest_articles (p : Part) : (notReadyTest p).articles = p.articles := by
  rw [notReadyTest_changesGap p]
@[simp] theorem notReadyTest_hides (p : Part) : (notReadyTest p).hides = p.hides := by
  rw [notReadyTest_changesGap p]
@[simp] theorem notReadyTest_nextTicket (p : Part) : (notReadyTest p).nextTicket = p.nextTicket := by
  rw [notReadyTest_changesGap p]
@[simp] theorem notReadyTest_unbound (p : Part) : (notReadyTest p).unbound = p.unbound := by
  rw [notReadyTest_changesGap p]
@[simp] theorem notReadyTest_eye (p : Part) : (notReadyTest p).eye = p.eye := by
  rw [notReadyTest_changesGap p]
@[simp] theorem notReadyTest_lanes (p : Part) : (notReadyTest p).lanes = p.lanes := by
  rw [notReadyTest_changesGap p]
@[simp] theorem notReadyTest_scanPeriod (p : Part) : (notReadyTest p).scanPeriod = p.scanPeriod := by
  rw [notReadyTest_changesGap p]
@[simp] theorem notReadyTest_tuning (p : Part) : (notReadyTest p).tuning = p.tuning := by
  rw [notReadyTest_changesGap p]
@[simp] theorem notReadyTest_pressure (p : Part) : (notReadyTest p).pressure = p.pressure := by
  rw [notReadyTest_changesGap p]
@[simp] theorem notReadyTest_bus (p : Part) : (notReadyTest p).bus = p.bus := by
  rw [notReadyTest_changesGap p]
@[simp] theorem notReadyTest_routes (p : Part) : (notReadyTest p).routes = p.routes := by
  rw [notReadyTest_changesGap p]
@[simp] theorem notReadyTest_lines (p : Part) : (notReadyTest p).lines = p.lines := by
  rw [notReadyTest_changesGap p]
@[simp] theorem notReadyTest_tallies (p : Part) : (notReadyTest p).tallies = p.tallies := by
  rw [notReadyTest_changesGap p]
@[simp] theorem notReadyTest_port (p : Part) : (notReadyTest p).port = p.port := by
  rw [notReadyTest_changesGap p]
@[simp] theorem notReadyTest_settings (p : Part) : (notReadyTest p).settings = p.settings := by
  rw [notReadyTest_changesGap p]
@[simp] theorem notReadyTest_freeCount (p : Part) : (notReadyTest p).freeCount = p.freeCount := by
  rw [notReadyTest_changesGap p]
@[simp] theorem notReadyTest_encoder (p : Part) : (notReadyTest p).encoder = p.encoder := by
  rw [notReadyTest_changesGap p]
@[simp] theorem notReadyTest_feed_position (p : Part) : (notReadyTest p).feed.position = p.feed.position := by
  rw [notReadyTest_changesGap p]
@[simp] theorem notReadyTest_feed_backwardRun (p : Part) : (notReadyTest p).feed.backwardRun = p.feed.backwardRun := by
  rw [notReadyTest_changesGap p]
@[simp] theorem notReadyTest_feed_runState (p : Part) : (notReadyTest p).feed.runState = p.feed.runState := by
  rw [notReadyTest_changesGap p]
@[simp] theorem notReadyTest_feed_stopLine (p : Part) : (notReadyTest p).feed.stopLine = p.feed.stopLine := by
  rw [notReadyTest_changesGap p]
@[simp] theorem notReadyTest_holds_stopLine (p : Part) :
    (notReadyTest p).feed.holds.stopLine = p.feed.holds.stopLine := by
  rw [notReadyTest_changesGap p]
@[simp] theorem notReadyTest_holds_stopRecovery (p : Part) :
    (notReadyTest p).feed.holds.stopRecovery = p.feed.holds.stopRecovery := by
  rw [notReadyTest_changesGap p]
@[simp] theorem notReadyTest_holds_hostHold (p : Part) :
    (notReadyTest p).feed.holds.hostHold = p.feed.holds.hostHold := by
  rw [notReadyTest_changesGap p]
@[simp] theorem notReadyTest_holds_routeHold (p : Part) :
    (notReadyTest p).feed.holds.routeHold = p.feed.holds.routeHold := by
  rw [notReadyTest_changesGap p]
@[simp] theorem notReadyTest_holds_unboundEdge (p : Part) :
    (notReadyTest p).feed.holds.unboundEdge = p.feed.holds.unboundEdge := by
  rw [notReadyTest_changesGap p]
@[simp] theorem notReadyTest_holds_overlength (p : Part) :
    (notReadyTest p).feed.holds.overlength = p.feed.holds.overlength := by
  rw [notReadyTest_changesGap p]
@[simp] theorem notReadyTest_holds_hideAborted (p : Part) :
    (notReadyTest p).feed.holds.hideAborted = p.feed.holds.hideAborted := by
  rw [notReadyTest_changesGap p]
@[simp] theorem notReadyTest_holds_gapFault (p : Part) :
    (notReadyTest p).feed.holds.gapFault = p.feed.holds.gapFault := by
  rw [notReadyTest_changesGap p]
@[simp] theorem notReadyTest_holds_tuning (p : Part) :
    (notReadyTest p).feed.holds.tuning = p.feed.holds.tuning := by
  rw [notReadyTest_changesGap p]
@[simp] theorem notReadyTest_holds_reverse (p : Part) :
    (notReadyTest p).feed.holds.reverse = p.feed.holds.reverse := by
  rw [notReadyTest_changesGap p]

@[simp] theorem startTest_articles (p : Part) : (startTest p).articles = p.articles := by
  rw [startTest_changesGap p]
@[simp] theorem startTest_hides (p : Part) : (startTest p).hides = p.hides := by
  rw [startTest_changesGap p]
@[simp] theorem startTest_nextTicket (p : Part) : (startTest p).nextTicket = p.nextTicket := by
  rw [startTest_changesGap p]
@[simp] theorem startTest_unbound (p : Part) : (startTest p).unbound = p.unbound := by
  rw [startTest_changesGap p]
@[simp] theorem startTest_eye (p : Part) : (startTest p).eye = p.eye := by
  rw [startTest_changesGap p]
@[simp] theorem startTest_lanes (p : Part) : (startTest p).lanes = p.lanes := by
  rw [startTest_changesGap p]
@[simp] theorem startTest_scanPeriod (p : Part) : (startTest p).scanPeriod = p.scanPeriod := by
  rw [startTest_changesGap p]
@[simp] theorem startTest_tuning (p : Part) : (startTest p).tuning = p.tuning := by
  rw [startTest_changesGap p]
@[simp] theorem startTest_pressure (p : Part) : (startTest p).pressure = p.pressure := by
  rw [startTest_changesGap p]
@[simp] theorem startTest_bus (p : Part) : (startTest p).bus = p.bus := by
  rw [startTest_changesGap p]
@[simp] theorem startTest_routes (p : Part) : (startTest p).routes = p.routes := by
  rw [startTest_changesGap p]
@[simp] theorem startTest_lines (p : Part) : (startTest p).lines = p.lines := by
  rw [startTest_changesGap p]
@[simp] theorem startTest_tallies (p : Part) : (startTest p).tallies = p.tallies := by
  rw [startTest_changesGap p]
@[simp] theorem startTest_port (p : Part) : (startTest p).port = p.port := by
  rw [startTest_changesGap p]
@[simp] theorem startTest_settings (p : Part) : (startTest p).settings = p.settings := by
  rw [startTest_changesGap p]
@[simp] theorem startTest_freeCount (p : Part) : (startTest p).freeCount = p.freeCount := by
  rw [startTest_changesGap p]
@[simp] theorem startTest_encoder (p : Part) : (startTest p).encoder = p.encoder := by
  rw [startTest_changesGap p]
@[simp] theorem startTest_feed_position (p : Part) : (startTest p).feed.position = p.feed.position := by
  rw [startTest_changesGap p]
@[simp] theorem startTest_feed_backwardRun (p : Part) : (startTest p).feed.backwardRun = p.feed.backwardRun := by
  rw [startTest_changesGap p]
@[simp] theorem startTest_feed_runState (p : Part) : (startTest p).feed.runState = p.feed.runState := by
  rw [startTest_changesGap p]
@[simp] theorem startTest_feed_stopLine (p : Part) : (startTest p).feed.stopLine = p.feed.stopLine := by
  rw [startTest_changesGap p]
@[simp] theorem startTest_holds_stopLine (p : Part) :
    (startTest p).feed.holds.stopLine = p.feed.holds.stopLine := by
  rw [startTest_changesGap p]
@[simp] theorem startTest_holds_stopRecovery (p : Part) :
    (startTest p).feed.holds.stopRecovery = p.feed.holds.stopRecovery := by
  rw [startTest_changesGap p]
@[simp] theorem startTest_holds_hostHold (p : Part) :
    (startTest p).feed.holds.hostHold = p.feed.holds.hostHold := by
  rw [startTest_changesGap p]
@[simp] theorem startTest_holds_routeHold (p : Part) :
    (startTest p).feed.holds.routeHold = p.feed.holds.routeHold := by
  rw [startTest_changesGap p]
@[simp] theorem startTest_holds_unboundEdge (p : Part) :
    (startTest p).feed.holds.unboundEdge = p.feed.holds.unboundEdge := by
  rw [startTest_changesGap p]
@[simp] theorem startTest_holds_overlength (p : Part) :
    (startTest p).feed.holds.overlength = p.feed.holds.overlength := by
  rw [startTest_changesGap p]
@[simp] theorem startTest_holds_hideAborted (p : Part) :
    (startTest p).feed.holds.hideAborted = p.feed.holds.hideAborted := by
  rw [startTest_changesGap p]
@[simp] theorem startTest_holds_gapFault (p : Part) :
    (startTest p).feed.holds.gapFault = p.feed.holds.gapFault := by
  rw [startTest_changesGap p]
@[simp] theorem startTest_holds_tuning (p : Part) :
    (startTest p).feed.holds.tuning = p.feed.holds.tuning := by
  rw [startTest_changesGap p]
@[simp] theorem startTest_holds_reverse (p : Part) :
    (startTest p).feed.holds.reverse = p.feed.holds.reverse := by
  rw [startTest_changesGap p]

@[simp] theorem stage_articles (p : Part) : (stage p).articles = p.articles := by
  rw [stage_changesGap p]
@[simp] theorem stage_hides (p : Part) : (stage p).hides = p.hides := by
  rw [stage_changesGap p]
@[simp] theorem stage_nextTicket (p : Part) : (stage p).nextTicket = p.nextTicket := by
  rw [stage_changesGap p]
@[simp] theorem stage_unbound (p : Part) : (stage p).unbound = p.unbound := by
  rw [stage_changesGap p]
@[simp] theorem stage_eye (p : Part) : (stage p).eye = p.eye := by
  rw [stage_changesGap p]
@[simp] theorem stage_lanes (p : Part) : (stage p).lanes = p.lanes := by
  rw [stage_changesGap p]
@[simp] theorem stage_scanPeriod (p : Part) : (stage p).scanPeriod = p.scanPeriod := by
  rw [stage_changesGap p]
@[simp] theorem stage_tuning (p : Part) : (stage p).tuning = p.tuning := by
  rw [stage_changesGap p]
@[simp] theorem stage_pressure (p : Part) : (stage p).pressure = p.pressure := by
  rw [stage_changesGap p]
@[simp] theorem stage_bus (p : Part) : (stage p).bus = p.bus := by
  rw [stage_changesGap p]
@[simp] theorem stage_routes (p : Part) : (stage p).routes = p.routes := by
  rw [stage_changesGap p]
@[simp] theorem stage_lines (p : Part) : (stage p).lines = p.lines := by
  rw [stage_changesGap p]
@[simp] theorem stage_tallies (p : Part) : (stage p).tallies = p.tallies := by
  rw [stage_changesGap p]
@[simp] theorem stage_port (p : Part) : (stage p).port = p.port := by
  rw [stage_changesGap p]
@[simp] theorem stage_settings (p : Part) : (stage p).settings = p.settings := by
  rw [stage_changesGap p]
@[simp] theorem stage_freeCount (p : Part) : (stage p).freeCount = p.freeCount := by
  rw [stage_changesGap p]
@[simp] theorem stage_encoder (p : Part) : (stage p).encoder = p.encoder := by
  rw [stage_changesGap p]
@[simp] theorem stage_feed_position (p : Part) : (stage p).feed.position = p.feed.position := by
  rw [stage_changesGap p]
@[simp] theorem stage_feed_backwardRun (p : Part) : (stage p).feed.backwardRun = p.feed.backwardRun := by
  rw [stage_changesGap p]
@[simp] theorem stage_feed_runState (p : Part) : (stage p).feed.runState = p.feed.runState := by
  rw [stage_changesGap p]
@[simp] theorem stage_feed_stopLine (p : Part) : (stage p).feed.stopLine = p.feed.stopLine := by
  rw [stage_changesGap p]
@[simp] theorem stage_holds_stopLine (p : Part) :
    (stage p).feed.holds.stopLine = p.feed.holds.stopLine := by
  rw [stage_changesGap p]
@[simp] theorem stage_holds_stopRecovery (p : Part) :
    (stage p).feed.holds.stopRecovery = p.feed.holds.stopRecovery := by
  rw [stage_changesGap p]
@[simp] theorem stage_holds_hostHold (p : Part) :
    (stage p).feed.holds.hostHold = p.feed.holds.hostHold := by
  rw [stage_changesGap p]
@[simp] theorem stage_holds_routeHold (p : Part) :
    (stage p).feed.holds.routeHold = p.feed.holds.routeHold := by
  rw [stage_changesGap p]
@[simp] theorem stage_holds_unboundEdge (p : Part) :
    (stage p).feed.holds.unboundEdge = p.feed.holds.unboundEdge := by
  rw [stage_changesGap p]
@[simp] theorem stage_holds_overlength (p : Part) :
    (stage p).feed.holds.overlength = p.feed.holds.overlength := by
  rw [stage_changesGap p]
@[simp] theorem stage_holds_hideAborted (p : Part) :
    (stage p).feed.holds.hideAborted = p.feed.holds.hideAborted := by
  rw [stage_changesGap p]
@[simp] theorem stage_holds_gapFault (p : Part) :
    (stage p).feed.holds.gapFault = p.feed.holds.gapFault := by
  rw [stage_changesGap p]
@[simp] theorem stage_holds_tuning (p : Part) :
    (stage p).feed.holds.tuning = p.feed.holds.tuning := by
  rw [stage_changesGap p]
@[simp] theorem stage_holds_reverse (p : Part) :
    (stage p).feed.holds.reverse = p.feed.holds.reverse := by
  rw [stage_changesGap p]

@[simp] theorem gapHandOn_articles (p : Part) : (gapHandOn p).articles = p.articles := by
  rw [gapHandOn_changesGap p]
@[simp] theorem gapHandOn_hides (p : Part) : (gapHandOn p).hides = p.hides := by
  rw [gapHandOn_changesGap p]
@[simp] theorem gapHandOn_nextTicket (p : Part) : (gapHandOn p).nextTicket = p.nextTicket := by
  rw [gapHandOn_changesGap p]
@[simp] theorem gapHandOn_unbound (p : Part) : (gapHandOn p).unbound = p.unbound := by
  rw [gapHandOn_changesGap p]
@[simp] theorem gapHandOn_eye (p : Part) : (gapHandOn p).eye = p.eye := by
  rw [gapHandOn_changesGap p]
@[simp] theorem gapHandOn_lanes (p : Part) : (gapHandOn p).lanes = p.lanes := by
  rw [gapHandOn_changesGap p]
@[simp] theorem gapHandOn_scanPeriod (p : Part) : (gapHandOn p).scanPeriod = p.scanPeriod := by
  rw [gapHandOn_changesGap p]
@[simp] theorem gapHandOn_tuning (p : Part) : (gapHandOn p).tuning = p.tuning := by
  rw [gapHandOn_changesGap p]
@[simp] theorem gapHandOn_pressure (p : Part) : (gapHandOn p).pressure = p.pressure := by
  rw [gapHandOn_changesGap p]
@[simp] theorem gapHandOn_bus (p : Part) : (gapHandOn p).bus = p.bus := by
  rw [gapHandOn_changesGap p]
@[simp] theorem gapHandOn_routes (p : Part) : (gapHandOn p).routes = p.routes := by
  rw [gapHandOn_changesGap p]
@[simp] theorem gapHandOn_lines (p : Part) : (gapHandOn p).lines = p.lines := by
  rw [gapHandOn_changesGap p]
@[simp] theorem gapHandOn_tallies (p : Part) : (gapHandOn p).tallies = p.tallies := by
  rw [gapHandOn_changesGap p]
@[simp] theorem gapHandOn_port (p : Part) : (gapHandOn p).port = p.port := by
  rw [gapHandOn_changesGap p]
@[simp] theorem gapHandOn_settings (p : Part) : (gapHandOn p).settings = p.settings := by
  rw [gapHandOn_changesGap p]
@[simp] theorem gapHandOn_freeCount (p : Part) : (gapHandOn p).freeCount = p.freeCount := by
  rw [gapHandOn_changesGap p]
@[simp] theorem gapHandOn_encoder (p : Part) : (gapHandOn p).encoder = p.encoder := by
  rw [gapHandOn_changesGap p]
@[simp] theorem gapHandOn_feed_position (p : Part) : (gapHandOn p).feed.position = p.feed.position := by
  rw [gapHandOn_changesGap p]
@[simp] theorem gapHandOn_feed_backwardRun (p : Part) : (gapHandOn p).feed.backwardRun = p.feed.backwardRun := by
  rw [gapHandOn_changesGap p]
@[simp] theorem gapHandOn_feed_runState (p : Part) : (gapHandOn p).feed.runState = p.feed.runState := by
  rw [gapHandOn_changesGap p]
@[simp] theorem gapHandOn_feed_stopLine (p : Part) : (gapHandOn p).feed.stopLine = p.feed.stopLine := by
  rw [gapHandOn_changesGap p]
@[simp] theorem gapHandOn_holds_stopLine (p : Part) :
    (gapHandOn p).feed.holds.stopLine = p.feed.holds.stopLine := by
  rw [gapHandOn_changesGap p]
@[simp] theorem gapHandOn_holds_stopRecovery (p : Part) :
    (gapHandOn p).feed.holds.stopRecovery = p.feed.holds.stopRecovery := by
  rw [gapHandOn_changesGap p]
@[simp] theorem gapHandOn_holds_hostHold (p : Part) :
    (gapHandOn p).feed.holds.hostHold = p.feed.holds.hostHold := by
  rw [gapHandOn_changesGap p]
@[simp] theorem gapHandOn_holds_routeHold (p : Part) :
    (gapHandOn p).feed.holds.routeHold = p.feed.holds.routeHold := by
  rw [gapHandOn_changesGap p]
@[simp] theorem gapHandOn_holds_unboundEdge (p : Part) :
    (gapHandOn p).feed.holds.unboundEdge = p.feed.holds.unboundEdge := by
  rw [gapHandOn_changesGap p]
@[simp] theorem gapHandOn_holds_overlength (p : Part) :
    (gapHandOn p).feed.holds.overlength = p.feed.holds.overlength := by
  rw [gapHandOn_changesGap p]
@[simp] theorem gapHandOn_holds_hideAborted (p : Part) :
    (gapHandOn p).feed.holds.hideAborted = p.feed.holds.hideAborted := by
  rw [gapHandOn_changesGap p]
@[simp] theorem gapHandOn_holds_gapFault (p : Part) :
    (gapHandOn p).feed.holds.gapFault = p.feed.holds.gapFault := by
  rw [gapHandOn_changesGap p]
@[simp] theorem gapHandOn_holds_tuning (p : Part) :
    (gapHandOn p).feed.holds.tuning = p.feed.holds.tuning := by
  rw [gapHandOn_changesGap p]
@[simp] theorem gapHandOn_holds_reverse (p : Part) :
    (gapHandOn p).feed.holds.reverse = p.feed.holds.reverse := by
  rw [gapHandOn_changesGap p]

@[simp] theorem gapCleared_articles (p : Part) : (gapCleared p).articles = p.articles := by
  rw [gapCleared_changesGap p]
@[simp] theorem gapCleared_hides (p : Part) : (gapCleared p).hides = p.hides := by
  rw [gapCleared_changesGap p]
@[simp] theorem gapCleared_nextTicket (p : Part) : (gapCleared p).nextTicket = p.nextTicket := by
  rw [gapCleared_changesGap p]
@[simp] theorem gapCleared_unbound (p : Part) : (gapCleared p).unbound = p.unbound := by
  rw [gapCleared_changesGap p]
@[simp] theorem gapCleared_eye (p : Part) : (gapCleared p).eye = p.eye := by
  rw [gapCleared_changesGap p]
@[simp] theorem gapCleared_lanes (p : Part) : (gapCleared p).lanes = p.lanes := by
  rw [gapCleared_changesGap p]
@[simp] theorem gapCleared_scanPeriod (p : Part) : (gapCleared p).scanPeriod = p.scanPeriod := by
  rw [gapCleared_changesGap p]
@[simp] theorem gapCleared_tuning (p : Part) : (gapCleared p).tuning = p.tuning := by
  rw [gapCleared_changesGap p]
@[simp] theorem gapCleared_pressure (p : Part) : (gapCleared p).pressure = p.pressure := by
  rw [gapCleared_changesGap p]
@[simp] theorem gapCleared_bus (p : Part) : (gapCleared p).bus = p.bus := by
  rw [gapCleared_changesGap p]
@[simp] theorem gapCleared_routes (p : Part) : (gapCleared p).routes = p.routes := by
  rw [gapCleared_changesGap p]
@[simp] theorem gapCleared_lines (p : Part) : (gapCleared p).lines = p.lines := by
  rw [gapCleared_changesGap p]
@[simp] theorem gapCleared_tallies (p : Part) : (gapCleared p).tallies = p.tallies := by
  rw [gapCleared_changesGap p]
@[simp] theorem gapCleared_port (p : Part) : (gapCleared p).port = p.port := by
  rw [gapCleared_changesGap p]
@[simp] theorem gapCleared_settings (p : Part) : (gapCleared p).settings = p.settings := by
  rw [gapCleared_changesGap p]
@[simp] theorem gapCleared_freeCount (p : Part) : (gapCleared p).freeCount = p.freeCount := by
  rw [gapCleared_changesGap p]
@[simp] theorem gapCleared_encoder (p : Part) : (gapCleared p).encoder = p.encoder := by
  rw [gapCleared_changesGap p]
@[simp] theorem gapCleared_feed_position (p : Part) : (gapCleared p).feed.position = p.feed.position := by
  rw [gapCleared_changesGap p]
@[simp] theorem gapCleared_feed_backwardRun (p : Part) : (gapCleared p).feed.backwardRun = p.feed.backwardRun := by
  rw [gapCleared_changesGap p]
@[simp] theorem gapCleared_feed_runState (p : Part) : (gapCleared p).feed.runState = p.feed.runState := by
  rw [gapCleared_changesGap p]
@[simp] theorem gapCleared_feed_stopLine (p : Part) : (gapCleared p).feed.stopLine = p.feed.stopLine := by
  rw [gapCleared_changesGap p]
@[simp] theorem gapCleared_holds_stopLine (p : Part) :
    (gapCleared p).feed.holds.stopLine = p.feed.holds.stopLine := by
  rw [gapCleared_changesGap p]
@[simp] theorem gapCleared_holds_stopRecovery (p : Part) :
    (gapCleared p).feed.holds.stopRecovery = p.feed.holds.stopRecovery := by
  rw [gapCleared_changesGap p]
@[simp] theorem gapCleared_holds_hostHold (p : Part) :
    (gapCleared p).feed.holds.hostHold = p.feed.holds.hostHold := by
  rw [gapCleared_changesGap p]
@[simp] theorem gapCleared_holds_routeHold (p : Part) :
    (gapCleared p).feed.holds.routeHold = p.feed.holds.routeHold := by
  rw [gapCleared_changesGap p]
@[simp] theorem gapCleared_holds_unboundEdge (p : Part) :
    (gapCleared p).feed.holds.unboundEdge = p.feed.holds.unboundEdge := by
  rw [gapCleared_changesGap p]
@[simp] theorem gapCleared_holds_overlength (p : Part) :
    (gapCleared p).feed.holds.overlength = p.feed.holds.overlength := by
  rw [gapCleared_changesGap p]
@[simp] theorem gapCleared_holds_hideAborted (p : Part) :
    (gapCleared p).feed.holds.hideAborted = p.feed.holds.hideAborted := by
  rw [gapCleared_changesGap p]
@[simp] theorem gapCleared_holds_gapFault (p : Part) :
    (gapCleared p).feed.holds.gapFault = p.feed.holds.gapFault := by
  rw [gapCleared_changesGap p]
@[simp] theorem gapCleared_holds_tuning (p : Part) :
    (gapCleared p).feed.holds.tuning = p.feed.holds.tuning := by
  rw [gapCleared_changesGap p]
@[simp] theorem gapCleared_holds_reverse (p : Part) :
    (gapCleared p).feed.holds.reverse = p.feed.holds.reverse := by
  rw [gapCleared_changesGap p]

@[simp] theorem startMove_articles (g : GapTol) (p : Part) : (startMove g p).articles = p.articles := by
  rw [startMove_changesGap g p]
@[simp] theorem startMove_hides (g : GapTol) (p : Part) : (startMove g p).hides = p.hides := by
  rw [startMove_changesGap g p]
@[simp] theorem startMove_nextTicket (g : GapTol) (p : Part) : (startMove g p).nextTicket = p.nextTicket := by
  rw [startMove_changesGap g p]
@[simp] theorem startMove_unbound (g : GapTol) (p : Part) : (startMove g p).unbound = p.unbound := by
  rw [startMove_changesGap g p]
@[simp] theorem startMove_eye (g : GapTol) (p : Part) : (startMove g p).eye = p.eye := by
  rw [startMove_changesGap g p]
@[simp] theorem startMove_lanes (g : GapTol) (p : Part) : (startMove g p).lanes = p.lanes := by
  rw [startMove_changesGap g p]
@[simp] theorem startMove_scanPeriod (g : GapTol) (p : Part) : (startMove g p).scanPeriod = p.scanPeriod := by
  rw [startMove_changesGap g p]
@[simp] theorem startMove_tuning (g : GapTol) (p : Part) : (startMove g p).tuning = p.tuning := by
  rw [startMove_changesGap g p]
@[simp] theorem startMove_pressure (g : GapTol) (p : Part) : (startMove g p).pressure = p.pressure := by
  rw [startMove_changesGap g p]
@[simp] theorem startMove_bus (g : GapTol) (p : Part) : (startMove g p).bus = p.bus := by
  rw [startMove_changesGap g p]
@[simp] theorem startMove_routes (g : GapTol) (p : Part) : (startMove g p).routes = p.routes := by
  rw [startMove_changesGap g p]
@[simp] theorem startMove_lines (g : GapTol) (p : Part) : (startMove g p).lines = p.lines := by
  rw [startMove_changesGap g p]
@[simp] theorem startMove_tallies (g : GapTol) (p : Part) : (startMove g p).tallies = p.tallies := by
  rw [startMove_changesGap g p]
@[simp] theorem startMove_port (g : GapTol) (p : Part) : (startMove g p).port = p.port := by
  rw [startMove_changesGap g p]
@[simp] theorem startMove_settings (g : GapTol) (p : Part) : (startMove g p).settings = p.settings := by
  rw [startMove_changesGap g p]
@[simp] theorem startMove_freeCount (g : GapTol) (p : Part) : (startMove g p).freeCount = p.freeCount := by
  rw [startMove_changesGap g p]
@[simp] theorem startMove_encoder (g : GapTol) (p : Part) : (startMove g p).encoder = p.encoder := by
  rw [startMove_changesGap g p]
@[simp] theorem startMove_feed_position (g : GapTol) (p : Part) : (startMove g p).feed.position = p.feed.position := by
  rw [startMove_changesGap g p]
@[simp] theorem startMove_feed_backwardRun (g : GapTol) (p : Part) : (startMove g p).feed.backwardRun = p.feed.backwardRun := by
  rw [startMove_changesGap g p]
@[simp] theorem startMove_feed_runState (g : GapTol) (p : Part) : (startMove g p).feed.runState = p.feed.runState := by
  rw [startMove_changesGap g p]
@[simp] theorem startMove_feed_stopLine (g : GapTol) (p : Part) : (startMove g p).feed.stopLine = p.feed.stopLine := by
  rw [startMove_changesGap g p]
@[simp] theorem startMove_holds_stopLine (g : GapTol) (p : Part) :
    (startMove g p).feed.holds.stopLine = p.feed.holds.stopLine := by
  rw [startMove_changesGap g p]
@[simp] theorem startMove_holds_stopRecovery (g : GapTol) (p : Part) :
    (startMove g p).feed.holds.stopRecovery = p.feed.holds.stopRecovery := by
  rw [startMove_changesGap g p]
@[simp] theorem startMove_holds_hostHold (g : GapTol) (p : Part) :
    (startMove g p).feed.holds.hostHold = p.feed.holds.hostHold := by
  rw [startMove_changesGap g p]
@[simp] theorem startMove_holds_routeHold (g : GapTol) (p : Part) :
    (startMove g p).feed.holds.routeHold = p.feed.holds.routeHold := by
  rw [startMove_changesGap g p]
@[simp] theorem startMove_holds_unboundEdge (g : GapTol) (p : Part) :
    (startMove g p).feed.holds.unboundEdge = p.feed.holds.unboundEdge := by
  rw [startMove_changesGap g p]
@[simp] theorem startMove_holds_overlength (g : GapTol) (p : Part) :
    (startMove g p).feed.holds.overlength = p.feed.holds.overlength := by
  rw [startMove_changesGap g p]
@[simp] theorem startMove_holds_hideAborted (g : GapTol) (p : Part) :
    (startMove g p).feed.holds.hideAborted = p.feed.holds.hideAborted := by
  rw [startMove_changesGap g p]
@[simp] theorem startMove_holds_gapFault (g : GapTol) (p : Part) :
    (startMove g p).feed.holds.gapFault = p.feed.holds.gapFault := by
  rw [startMove_changesGap g p]
@[simp] theorem startMove_holds_tuning (g : GapTol) (p : Part) :
    (startMove g p).feed.holds.tuning = p.feed.holds.tuning := by
  rw [startMove_changesGap g p]
@[simp] theorem startMove_holds_reverse (g : GapTol) (p : Part) :
    (startMove g p).feed.holds.reverse = p.feed.holds.reverse := by
  rw [startMove_changesGap g p]

@[simp] theorem notReadyTest_gap_state (p : Part) : (notReadyTest p).gap.state = p.gap.state := rfl
@[simp] theorem notReadyTest_gap_active (p : Part) : (notReadyTest p).gap.active = p.gap.active := rfl
@[simp] theorem notReadyTest_gap_staged (p : Part) : (notReadyTest p).gap.staged = p.gap.staged := rfl
@[simp] theorem notReadyTest_gap_target (p : Part) : (notReadyTest p).gap.target = p.gap.target := rfl
@[simp] theorem notReadyTest_gap_settle (p : Part) : (notReadyTest p).gap.settle = p.gap.settle := rfl
@[simp] theorem notReadyTest_gap_lastPair (p : Part) : (notReadyTest p).gap.lastPair = p.gap.lastPair := rfl
@[simp] theorem notReadyTest_gap_moveTimer (p : Part) : (notReadyTest p).gap.moveTimer = p.gap.moveTimer := rfl
@[simp] theorem notReadyTest_gap_excursionRun (p : Part) : (notReadyTest p).gap.excursionRun = p.gap.excursionRun := rfl
@[simp] theorem notReadyTest_gap_applyPending (p : Part) : (notReadyTest p).gap.applyPending = p.gap.applyPending := rfl
@[simp] theorem notReadyTest_gap_jackOrder (p : Part) : (notReadyTest p).gap.jackOrder = p.gap.jackOrder := rfl
@[simp] theorem notReadyTest_gap_jackOrders (p : Part) : (notReadyTest p).gap.jackOrders = p.gap.jackOrders := rfl

end Sys2Proof.Machine
end

