-- ==== Sys2Proof/Laws/Tables.lean ====
section
/-! SUPPORT. Looking up the two tables: what a changed, added or removed record does to the records found by code or
ticket; and the counts and pin releases built on them. -/

namespace Sys2Proof.Machine

/-! ## Looking up a list by a number -/

section Lookup

variable {α : Type}

theorem find?_map_other (l : List α) (key : α → Nat) (c o : Nat) (f : α → α) (hf : ∀ a, key (f a) = key a)
    (h : o ≠ c) :
    (l.map fun a => if key a == c then f a else a).find? (fun a => key a == o) = l.find? fun a => key a == o := by
  induction l with
  | nil => rfl
  | cons a t ih =>
    simp only [List.map_cons, List.find?_cons, ih]
    by_cases hc : key a = c
    · have : (c == o) = false := by simp [Ne.symm h]
      simp [hc, hf, this]
    · by_cases ho : key a = o <;> simp [hc, ho]
      have : ¬ o = c := h
      simp [this, ho]

theorem find?_map_hit (l : List α) (key : α → Nat) (c : Nat) (f : α → α) (hf : ∀ a, key (f a) = key a) :
    (l.map fun a => if key a == c then f a else a).find? (fun a => key a == c) =
      (l.find? fun a => key a == c).map f := by
  induction l with
  | nil => rfl
  | cons a t ih =>
    simp only [List.map_cons, List.find?_cons, ih]
    by_cases hc : key a = c
    · simp [hc, hf]
    · have : (key a == c) = false := by simp [hc]
      simp [this]

/-- A change that keeps every key changes what is found as it changes the record. -/
theorem find?_map_all (l : List α) (key : α → Nat) (c : Nat) (f : α → α) (hf : ∀ a, key (f a) = key a) :
    (l.map f).find? (fun a => key a == c) = (l.find? fun a => key a == c).map f := by
  induction l with
  | nil => rfl
  | cons a t ih =>
    simp only [List.map_cons, List.find?_cons, ih, hf]
    by_cases hc : key a = c
    · simp [hc]
    · have : (key a == c) = false := by simp [hc]
      simp [this]

theorem find?_remove_other (l : List α) (key : α → Nat) (c o : Nat) (h : o ≠ c) :
    (l.filter fun a => !(key a == c)).find? (fun a => key a == o) = l.find? fun a => key a == o := by
  rw [List.find?_filter]
  congr 1
  funext a
  by_cases ha : key a = o <;> simp [ha, h]

theorem find?_remove_hit (l : List α) (key : α → Nat) (c : Nat) :
    (l.filter fun a => !(key a == c)).find? (fun a => key a == c) = none := by
  rw [List.find?_filter, List.find?_eq_none]
  simp

end Lookup

/-! ## The article table -/

theorem Part.plan?_code {p : Part} {code : Nat} {a : Plan} (h : p.plan? code = some a) : a.code = code := by
  simpa using List.find?_some h

theorem Part.plan?_mem {p : Part} {code : Nat} {a : Plan} (h : p.plan? code = some a) : a ∈ p.articles :=
  List.mem_of_find?_eq_some h

theorem Part.plan?_modifyPlan_other (p : Part) (code other : Nat) (f : Plan → Plan) (hf : ∀ a, (f a).code = a.code)
    (h : other ≠ code) : (p.modifyPlan code f).plan? other = p.plan? other :=
  find?_map_other p.articles Plan.code code other f hf h

theorem Part.plan?_modifyPlan_hit (p : Part) (code : Nat) (f : Plan → Plan) (hf : ∀ a, (f a).code = a.code) :
    (p.modifyPlan code f).plan? code = (p.plan? code).map f :=
  find?_map_hit p.articles Plan.code code f hf

theorem find?_insertPlan_other (a : Plan) (l : List Plan) (other : Nat) (h : other ≠ a.code) :
    (insertPlan a l).find? (fun b => b.code == other) = l.find? fun b => b.code == other := by
  have ha : (a.code == other) = false := by simp [Ne.symm h]
  induction l with
  | nil => simp [insertPlan, ha]
  | cons b t ih =>
    simp only [insertPlan]
    split
    · simp [List.find?_cons, ha]
    · simp only [List.find?_cons, ih]

theorem find?_insertPlan_hit (a : Plan) (l : List Plan) (h : l.find? (fun b => b.code == a.code) = none) :
    (insertPlan a l).find? (fun b => b.code == a.code) = some a := by
  induction l with
  | nil => simp [insertPlan]
  | cons b t ih =>
    have hb : (b.code == a.code) = false := by
      rw [List.find?_eq_none] at h
      simpa using h b (by simp)
    have ht : t.find? (fun b => b.code == a.code) = none := by simpa [List.find?_cons, hb] using h
    simp only [insertPlan]
    split
    · simp
    · simp [hb, ih ht]

/-- Inserting a record adds it, in front of the records of larger codes. -/
theorem mem_insertPlan (a b : Plan) (l : List Plan) : b ∈ insertPlan a l ↔ b = a ∨ b ∈ l := by
  induction l with
  | nil => simp [insertPlan]
  | cons c t ih =>
    simp only [insertPlan]
    split
    · simp
    · simp only [List.mem_cons, ih]; tauto

theorem length_insertPlan (a : Plan) (l : List Plan) : (insertPlan a l).length = l.length + 1 := by
  induction l with
  | nil => rfl
  | cons c t ih =>
    simp only [insertPlan]
    split
    · rfl
    · simp [ih]

/-- The table stays in ascending code order. -/
theorem insertPlan_ascending (a : Plan) (l : List Plan) (h : l.Pairwise fun x y => x.code < y.code)
    (ha : ∀ b ∈ l, b.code ≠ a.code) : (insertPlan a l).Pairwise fun x y => x.code < y.code := by
  induction l with
  | nil => simp [insertPlan]
  | cons c t ih =>
    obtain ⟨hc, ht⟩ := List.pairwise_cons.mp h
    simp only [insertPlan]
    split
    · rename_i hlt
      refine List.pairwise_cons.mpr ⟨fun b hb => ?_, h⟩
      rcases List.mem_cons.mp hb with rfl | hb
      · exact hlt
      · exact Nat.lt_trans hlt (hc b hb)
    · rename_i hlt
      refine List.pairwise_cons.mpr ⟨fun b hb => ?_, ih ht (fun b hb => ha b (by simp [hb]))⟩
      rcases (mem_insertPlan a b t).mp hb with rfl | hb
      · have := ha c (by simp)
        omega
      · exact hc b hb

/-- The record a pin claim looks at, its code 0 standing for the default article (R15). -/
theorem Part.claim_lookup (p : Part) (code : Half) :
    (if code.toNat = 0 then p.defaultPlan? else p.plan? code.toNat) =
      if code = 0 then p.articles.find? (·.mark) else p.plan? code.toNat := by
  by_cases hc : code = 0
  · subst hc; rfl
  · have : code.toNat ≠ 0 := fun e => hc (BitVec.eq_of_toNat_eq (by simpa using e))
    rw [if_neg this, if_neg hc]

/-- The decision of a pin claim (R15), by the record found. -/
theorem Part.claim_notFound (p : Part) (code : Half)
    (h : (if code = 0 then p.articles.find? (·.mark) else p.plan? code.toNat) = none) :
    p.claim code.toNat = .error .notFound := by
  unfold Part.claim
  rw [p.claim_lookup, h]

theorem Part.claim_retiring (p : Part) (code : Half) (a : Plan)
    (h : (if code = 0 then p.articles.find? (·.mark) else p.plan? code.toNat) = some a) (hs : a.state = .retiring) :
    p.claim code.toNat = .error .retiring := by
  unfold Part.claim
  rw [p.claim_lookup, h]
  simp only [hs]

theorem Part.claim_active (p : Part) (code : Half) (a : Plan)
    (h : (if code = 0 then p.articles.find? (·.mark) else p.plan? code.toNat) = some a) (hs : a.state = .active) :
    p.claim code.toNat = .ok a.code := by
  unfold Part.claim
  rw [p.claim_lookup, h]
  simp only [hs]

/-- A pin release changes the article table and, where the record goes, adds ARTICLE_GONE (R16). -/
theorem releasePin_eq (code : Nat) (p : Part) : releasePin code p = { p with
    articles := (releasePin code p).articles, port := (releasePin code p).port } := by
  unfold releasePin
  split
  · rfl
  · split <;> rfl

theorem releasePin_other (code other : Nat) (p : Part) (h : other ≠ code) :
    (releasePin code p).plan? other = p.plan? other := by
  unfold releasePin
  split
  · rfl
  · split
    · exact find?_remove_other p.articles Plan.code code other h
    · exact Part.plan?_modifyPlan_other p code other _ (fun _ => rfl) h

theorem releasePin_kept (code : Nat) (p : Part) (b : Plan) (h : p.plan? code = some b)
    (hb : b.state = .active ∨ b.pins - 1 ≠ 0) :
    (releasePin code p).plan? code = some { b with pins := b.pins - 1 } ∧ (releasePin code p).port = p.port := by
  have hn : ¬(b.state = .retiring ∧ b.unpin.pins = 0) := by
    rintro ⟨h1, h2⟩
    rcases hb with hb | hb
    · simp [h1] at hb
    · exact hb h2
  unfold releasePin
  simp only [h, if_neg hn]
  refine ⟨?_, rfl⟩
  rw [Part.plan?_modifyPlan_hit p code Plan.unpin (fun _ => rfl), h]
  rfl

theorem releasePin_gone (code : Nat) (p : Part) (b : Plan) (h : p.plan? code = some b) (h1 : b.state = .retiring)
    (h2 : b.pins - 1 = 0) :
    (releasePin code p).plan? code = none ∧
      (releasePin code p).port = { p.port with attention := { p.port.attention with articleGone := true } } := by
  unfold releasePin
  simp only [h, if_pos (show b.state = .retiring ∧ b.unpin.pins = 0 from ⟨h1, h2⟩)]
  exact ⟨find?_remove_hit p.articles Plan.code code, rfl⟩

/-! ## The hide table -/

theorem Part.hide?_ticket {p : Part} {ticket : Nat} {h : Hide} (e : p.hide? ticket = some h) : h.ticket = ticket := by
  simpa using List.find?_some e

theorem Part.hide?_mem {p : Part} {ticket : Nat} {h : Hide} (e : p.hide? ticket = some h) : h ∈ p.hides :=
  List.mem_of_find?_eq_some e

theorem Part.hide?_modifyHide_other (p : Part) (ticket other : Nat) (f : Hide → Hide)
    (hf : ∀ h, (f h).ticket = h.ticket) (h : other ≠ ticket) :
    (p.modifyHide ticket f).hide? other = p.hide? other :=
  find?_map_other p.hides Hide.ticket ticket other f hf h

theorem Part.hide?_modifyHide_hit (p : Part) (ticket : Nat) (f : Hide → Hide) (hf : ∀ h, (f h).ticket = h.ticket) :
    (p.modifyHide ticket f).hide? ticket = (p.hide? ticket).map f :=
  find?_map_hit p.hides Hide.ticket ticket f hf

/-- In a table of distinct tickets a record is the one found by its ticket. -/
theorem Part.hide?_of_mem {p : Part} {h : Hide} (hn : (p.hides.map (·.ticket)).Nodup) (hm : h ∈ p.hides) :
    p.hide? h.ticket = some h := by
  unfold Part.hide?
  induction hl : p.hides generalizing p with
  | nil => simp [hl] at hm
  | cons a t ih =>
    rw [hl] at hm hn
    simp only [List.map_cons, List.nodup_cons] at hn
    rcases List.mem_cons.mp hm with rfl | hm
    · simp
    · have hne : a.ticket ≠ h.ticket := fun e => hn.1 (e ▸ List.mem_map_of_mem (f := Hide.ticket) hm)
      rw [List.find?_cons_of_neg (by simpa using hne)]
      exact ih (p := { p with hides := t }) hn.2 hm rfl

end Sys2Proof.Machine
end

