-- ==== Sys2Proof/Laws/Frame.lean ====
section
/-! SUPPORT. What the operations of the hide table, the gap axis and lane tuning leave alone, whatever they are handed:
`SameBase`. And how a hide record may change: `Hide.follows`. -/

namespace Sys2Proof.Machine

/-! ## The base that most operations leave -/

/-- From `p` to `q` these items have not changed. -/
structure SameBase (p q : Part) : Prop where
  nextTicket : q.nextTicket = p.nextTicket
  unbound : q.unbound = p.unbound
  eye : q.eye = p.eye
  encoder : q.encoder = p.encoder
  position : q.feed.position = p.feed.position
  backwardRun : q.feed.backwardRun = p.feed.backwardRun
  stopLine : q.feed.stopLine = p.feed.stopLine
  scanPeriod : q.scanPeriod = p.scanPeriod
  stopLevel : q.pressure.stopLevel = p.pressure.stopLevel
  routes : q.routes = p.routes
  settings : q.settings = p.settings
  freeCount : q.freeCount = p.freeCount
  slot : q.port.slot = p.port.slot
  acceptIn : q.port.acceptIn = p.port.acceptIn
  attentionMask : q.port.attentionMask = p.port.attentionMask
  shiftedOut : q.port.shiftedOut = p.port.shiftedOut
  shortBits : q.port.shortBits = p.port.shortBits
  boards : q.bus.boards = p.bus.boards
  master : q.bus.master = p.bus.master
  pointer : q.bus.pointer = p.bus.pointer
  cursor : q.bus.cursor = p.bus.cursor
  frameCount : q.bus.frameCount = p.bus.frameCount
  sessionLimit : q.bus.sessionLimit = p.bus.sessionLimit
  resetDrain : q.bus.resetDrain = p.bus.resetDrain
  selectTimer : q.bus.selectTimer = p.bus.selectTimer
  releaseTimer : q.bus.releaseTimer = p.bus.releaseTimer
  dueNext : q.bus.dueNext = p.bus.dueNext
  dueAfter : q.bus.dueAfter = p.bus.dueAfter
  lastPair : q.gap.lastPair = p.gap.lastPair
  active : q.gap.active = p.gap.active
  holdStopLine : q.feed.holds.stopLine = p.feed.holds.stopLine
  holdStopRecovery : q.feed.holds.stopRecovery = p.feed.holds.stopRecovery
  holdHost : q.feed.holds.hostHold = p.feed.holds.hostHold
  holdGapFault : q.feed.holds.gapFault = p.feed.holds.gapFault
  holdReverse : q.feed.holds.reverse = p.feed.holds.reverse
  restarted : q.port.attention.restarted = p.port.attention.restarted
  attentionGapFault : q.port.attention.gapFault = p.port.attention.gapFault
  attentionStop : q.port.attention.stop = p.port.attention.stop

theorem SameBase.refl (p : Part) : SameBase p p := by
  constructor <;> rfl

theorem SameBase.trans {p q r : Part} (h : SameBase p q) (k : SameBase q r) : SameBase p r := by
  constructor
  · exact k.nextTicket.trans h.nextTicket
  · exact k.unbound.trans h.unbound
  · exact k.eye.trans h.eye
  · exact k.encoder.trans h.encoder
  · exact k.position.trans h.position
  · exact k.backwardRun.trans h.backwardRun
  · exact k.stopLine.trans h.stopLine
  · exact k.scanPeriod.trans h.scanPeriod
  · exact k.stopLevel.trans h.stopLevel
  · exact k.routes.trans h.routes
  · exact k.settings.trans h.settings
  · exact k.freeCount.trans h.freeCount
  · exact k.slot.trans h.slot
  · exact k.acceptIn.trans h.acceptIn
  · exact k.attentionMask.trans h.attentionMask
  · exact k.shiftedOut.trans h.shiftedOut
  · exact k.shortBits.trans h.shortBits
  · exact k.boards.trans h.boards
  · exact k.master.trans h.master
  · exact k.pointer.trans h.pointer
  · exact k.cursor.trans h.cursor
  · exact k.frameCount.trans h.frameCount
  · exact k.sessionLimit.trans h.sessionLimit
  · exact k.resetDrain.trans h.resetDrain
  · exact k.selectTimer.trans h.selectTimer
  · exact k.releaseTimer.trans h.releaseTimer
  · exact k.dueNext.trans h.dueNext
  · exact k.dueAfter.trans h.dueAfter
  · exact k.lastPair.trans h.lastPair
  · exact k.active.trans h.active
  · exact k.holdStopLine.trans h.holdStopLine
  · exact k.holdStopRecovery.trans h.holdStopRecovery
  · exact k.holdHost.trans h.holdHost
  · exact k.holdGapFault.trans h.holdGapFault
  · exact k.holdReverse.trans h.holdReverse
  · exact k.restarted.trans h.restarted
  · exact k.attentionGapFault.trans h.attentionGapFault
  · exact k.attentionStop.trans h.attentionStop

theorem SameBase.of_onlyRoutes {p q : Part} (h : onlyRoutes p q) : SameBase p q := by
  unfold onlyRoutes at h
  constructor <;> rw [h]

theorem raise_sameBase (e : Event) (p : Part) : SameBase p (raise e p) := .of_onlyRoutes (raise_onlyRoutes e p)

theorem raiseAll_sameBase (events : List Event) (p : Part) : SameBase p (raiseAll events p) :=
  .of_onlyRoutes (raiseAll_onlyRoutes events p)

theorem comparePerHideTallies_sameBase (p : Part) : SameBase p (comparePerHideTallies p) :=
  .of_onlyRoutes (comparePerHideTallies_onlyRoutes p)

theorem recompute_sameBase (p : Part) : SameBase p (recompute p) := by
  constructor <;> simp

theorem notReadyTest_sameBase (p : Part) : SameBase p (notReadyTest p) := by
  constructor <;> rfl

theorem startMove_sameBase (g : GapTol) (p : Part) : SameBase p (startMove g p) := by
  constructor <;> rfl

theorem stage_sameBase (p : Part) : SameBase p (stage p) := by
  unfold stage
  split
  · exact .refl p
  · split
    · exact .refl p
    · constructor <;> rfl

theorem startTest_sameBase (p : Part) : SameBase p (startTest p) := by
  unfold startTest
  split
  · exact startMove_sameBase _ _
  · exact .refl p

theorem startPendingApply_sameBase (p : Part) : SameBase p (startPendingApply p) := by
  have h : SameBase p (p.setGap { p.gap with applyPending := false }) := by constructor <;> rfl
  unfold startPendingApply
  dsimp only
  split
  · exact h.trans (startMove_sameBase _ _)
  · exact h

theorem gapHandOn_sameBase (p : Part) : SameBase p (gapHandOn p) := by
  unfold gapHandOn
  refine ((stage_sameBase p).trans ?_).trans (notReadyTest_sameBase _)
  split
  · exact startPendingApply_sameBase _
  · exact startTest_sameBase _

theorem gapCleared_sameBase (p : Part) : SameBase p (gapCleared p) := by
  unfold gapCleared
  dsimp only
  refine ((stage_sameBase p).trans ?_).trans (notReadyTest_sameBase _)
  split
  · exact startPendingApply_sameBase _
  · split
    · exact startTest_sameBase _
    · split
      · split
        · exact startMove_sameBase _ _
        · exact .refl _
      · exact .refl _

theorem modifyHide_sameBase (p : Part) (t : Nat) (f : Hide → Hide) : SameBase p (p.modifyHide t f) := by
  constructor <;> rfl

theorem modifyPlan_sameBase (p : Part) (c : Nat) (f : Plan → Plan) : SameBase p (p.modifyPlan c f) := by
  constructor <;> rfl

theorem modifyMember_sameBase (p : Part) (n : LaneNo) (f : Member → Member) : SameBase p (p.modifyMember n f) := by
  constructor <;> rfl

theorem setLane_sameBase (p : Part) (n : LaneNo) (l : Lane) : SameBase p (p.setLane n l) := by
  constructor <;> rfl

theorem setLaneTuning_sameBase (p : Part) (n : LaneNo) (t : LaneTuning) : SameBase p (p.setLaneTuning n t) := by
  constructor <;> rfl

theorem setDrive_sameBase (p : Part) (n : LaneNo) (d : Drive) : SameBase p (p.setDrive n d) := by
  constructor <;> rfl

theorem setRunState_sameBase (p : Part) (r : RunState) : SameBase p (p.setRunState r) := by
  constructor <;> rfl

theorem endExcursionRun_sameBase (p : Part) : SameBase p (endExcursionRun p) := by
  constructor <;> rfl

theorem clearPerHideTallies_sameBase (p : Part) : SameBase p (clearPerHideTallies p) := by
  constructor <;> rfl

/-! ## Lane tuning -/

theorem startBatch_sameBase (o : Origin) (lanes : List LaneNo) (p : Part) : SameBase p (startBatch o lanes p) := by
  unfold startBatch
  refine SameBase.trans ?_ (recompute_sameBase _)
  constructor <;> rfl

/-- The formation test does nothing, drops requests, or starts an AUTOMATIC batch (R135). -/
theorem formationTest_cases (p : Part) : formationTest p = p ∨ formationTest p = dropUnqualified p ∨
    formationTest p = startBatch .automatic (dropUnqualified p).requests (dropUnqualified p) := by
  by_cases h : p.formationDue = true
  · by_cases k : (dropUnqualified p).requests.isEmpty = true
    · right; left
      simp only [formationTest, h, k, if_true]
    · right; right
      simp only [formationTest, h, k, if_true, Bool.false_eq_true, if_false]
  · left
    simp only [formationTest, h, Bool.false_eq_true, if_false]

theorem dropUnqualified_sameBase (p : Part) : SameBase p (dropUnqualified p) := by
  constructor <;> simp only [dropUnqualified, Part.setTuning]

theorem formationTest_sameBase (p : Part) : SameBase p (formationTest p) := by
  rcases formationTest_cases p with h | h | h <;> rw [h]
  · exact .refl p
  · exact dropUnqualified_sameBase p
  · exact (dropUnqualified_sameBase p).trans (startBatch_sameBase _ _ _)

theorem endBatch_sameBase (p : Part) : SameBase p (endBatch p) := by
  constructor <;> rfl

theorem completeBatch_sameBase (p : Part) : SameBase p (completeBatch p) := by
  unfold completeBatch
  split
  · refine SameBase.trans ?_ (formationTest_sameBase _)
    constructor <;> rfl
  · exact .refl p

theorem restoreMember_sameBase (p : Part) (m : Member) : SameBase p (restoreMember p m) := by
  unfold restoreMember
  split <;> constructor <;> rfl

theorem withdraw_sameBase (n : LaneNo) (p : Part) : SameBase p (withdraw n p) := by
  unfold withdraw
  split
  · split
    · exact .refl p
    · exact restoreMember_sameBase _ _
  · exact .refl p

theorem foldl_sameBase {α : Type} (f : Part → α → Part) (h : ∀ p a, SameBase p (f p a)) (l : List α) (p : Part) :
    SameBase p (l.foldl f p) := by
  induction l generalizing p with
  | nil => exact .refl p
  | cons a t ih => exact (h p a).trans (ih _)

theorem abortBatch_sameBase (p : Part) : SameBase p (abortBatch p) := by
  unfold abortBatch
  split
  · exact (foldl_sameBase _ restoreMember_sameBase _ p).trans (endBatch_sameBase _)
  · exact .refl p

theorem addRequest_sameBase (n : LaneNo) (p : Part) : SameBase p (addRequest n p) := by
  unfold addRequest
  split
  · exact .refl p
  · exact (setLaneTuning_sameBase _ _ _).trans (formationTest_sameBase _)

theorem driftRequest_sameBase (n : LaneNo) (p : Part) : SameBase p (driftRequest n p) := by
  unfold driftRequest
  split
  · exact addRequest_sameBase _ _
  · exact .refl p

theorem failMember_sameBase (m : Member) (k : TuneErrorKind) (p : Part) : SameBase p (failMember m k p) := by
  have told : ∀ l, SameBase p (raise (.tuneError m.lane k) (recompute (p.setLane m.lane l))) := fun l =>
    ((setLane_sameBase p _ _).trans (recompute_sameBase _)).trans (raise_sameBase _ _)
  have held : ∀ q, SameBase p q → ∀ x,
      SameBase p (if q.tuning.batch.map (·.origin) = some .automatic then q.setLaneTuning m.lane x else q) := by
    intro q h x
    split
    · exact h.trans (setLaneTuning_sameBase _ _ _)
    · exact h
  unfold failMember
  exact (held _ (told _) _).trans (modifyMember_sameBase _ _ _)

theorem succeedMember_sameBase (m : Member) (a : Nat) (p : Part) : SameBase p (succeedMember m a p) :=
  ((setLane_sameBase _ _ _).trans (recompute_sameBase _)).trans (modifyMember_sameBase _ _ _)

theorem setOffset_sameBase (m : Member) (g a : Nat) (p : Part) : SameBase p (setOffset m g a p) := by
  unfold setOffset
  dsimp only
  split
  · exact failMember_sameBase _ _ _
  · exact (setLane_sameBase _ _ _).trans (modifyMember_sameBase _ _ _)

theorem closePhase_sameBase (m : Member) (a : Nat) (p : Part) : SameBase p (closePhase m a p) := by
  unfold closePhase
  split
  · unfold closeGain
    dsimp only
    repeat' split
    all_goals first
      | exact (setLane_sameBase _ _ _).trans (modifyMember_sameBase _ _ _)
      | exact setOffset_sameBase _ _ _ _
      | exact failMember_sameBase _ _ _
  · split
    · exact failMember_sameBase _ _ _
    · exact setOffset_sameBase _ _ _ _
  · split
    · exact succeedMember_sameBase _ _ _
    · exact failMember_sameBase _ _ _
  · exact .refl p

theorem handReading_sameBase (n : LaneNo) (c : Nat) (k : Bool) (p : Part) : SameBase p (handReading n c k p) := by
  unfold handReading
  split
  · exact .refl p
  · split
    · exact .refl p
    · dsimp only
      split
      · exact modifyMember_sameBase _ _ _
      · exact (closePhase_sameBase _ _ _).trans (completeBatch_sameBase _)

/-! ## The marks of a hide -/

theorem stopAtClearTest_sameBase (p : Part) : SameBase p (stopAtClearTest p) := by
  unfold stopAtClearTest
  split
  · exact setRunState_sameBase _ _
  · exact .refl p

theorem crossApproach_sameBase (t : Nat) (p : Part) : SameBase p (crossApproach t p) := by
  unfold crossApproach
  have stop : ∀ q, SameBase q (stopBeforeNext q) := by
    intro q
    unfold stopBeforeNext
    split
    · exact setRunState_sameBase _ _
    · exact .refl q
  exact ((modifyHide_sameBase p t _).trans (notReadyTest_sameBase _)).trans (stop _)

theorem becomeSplitting_sameBase (h : Hide) (p : Part) : SameBase p (becomeSplitting h p) := by
  unfold becomeSplitting
  exact ((((((modifyHide_sameBase p _ _).trans (endExcursionRun_sameBase _)).trans (gapHandOn_sameBase _)).trans
    (recompute_sameBase _)).trans (clearPerHideTallies_sameBase _)).trans (raise_sameBase _ _)).trans
    (stopAtClearTest_sameBase _)

theorem crossKnife_sameBase (h : Hide) (p : Part) : SameBase p (crossKnife h p) := by
  unfold crossKnife
  split
  · exact modifyHide_sameBase _ _ _
  · exact becomeSplitting_sameBase _ _

theorem promoteWaiting_sameBase (p : Part) : SameBase p (promoteWaiting p) := by
  unfold promoteWaiting
  split
  · exact .refl p
  · split
    · exact becomeSplitting_sameBase _ _
    · exact .refl p

theorem attend_sameBase (p : Part) (a : Attention) (h1 : a ≠ .restarted) (h2 : a ≠ .gapFault) (h3 : a ≠ .stop) :
    SameBase p (p.attend a) := by
  cases a <;> first | contradiction | (constructor <;> rfl)

theorem clearRecord_sameBase (h : Hide) (p : Part) : SameBase p (clearRecord h p) := by
  unfold clearRecord
  exact (((((((((modifyHide_sameBase p _ _).trans (modifyPlan_sameBase _ _ _)).trans (endExcursionRun_sameBase _)).trans
    (comparePerHideTallies_sameBase _)).trans (attend_sameBase _ .hideDone (by simp) (by simp) (by simp))).trans
    (raiseAll_sameBase _ _)).trans (promoteWaiting_sameBase _)).trans ((gapCleared_sameBase _).trans
    (formationTest_sameBase _))).trans (recompute_sameBase _)).trans (stopAtClearTest_sameBase _)

theorem crossMaximum_sameBase (h : Hide) (p : Part) : SameBase p (crossMaximum h p) := by
  unfold crossMaximum
  refine SameBase.trans ?_ (raise_sameBase _ _)
  constructor <;> rfl

theorem testMarks_sameBase (t : Nat) (p : Part) : SameBase p (testMarks t p) := by
  have a : ∀ q, SameBase q (testApproach t q) := by
    intro q
    unfold testApproach
    repeat' split
    all_goals first | exact .refl q | exact crossApproach_sameBase _ _
  have k : ∀ q, SameBase q (testKnife t q) := by
    intro q
    unfold testKnife
    repeat' split
    all_goals first | exact .refl q | exact crossKnife_sameBase _ _
  have e : ∀ q, SameBase q (testTrail t q) := by
    intro q
    unfold testTrail
    repeat' split
    all_goals first | exact .refl q | exact clearRecord_sameBase _ _
  have m : ∀ q, SameBase q (testMaximum t q) := by
    intro q
    unfold testMaximum
    repeat' split
    all_goals first | exact .refl q | exact crossMaximum_sameBase _ _
  exact (((a p).trans (k _)).trans (e _)).trans (m _)

theorem testAllMarks_sameBase (p : Part) : SameBase p (testAllMarks p) := by
  unfold testAllMarks
  exact foldl_sameBase _ (fun q t => testMarks_sameBase t q) _ p

theorem bindHide_sameBase (t : Nat) (l : Pos) (e : Option Pos) (p : Part) : SameBase p (bindHide t l e p) := by
  unfold bindHide
  split
  · exact .refl p
  · exact ((((modifyHide_sameBase p _ _).trans (gapHandOn_sameBase _)).trans (raise_sameBase _ _)).trans
      (stopAtClearTest_sameBase _)).trans (testMarks_sameBase _ _)

/-! ## Lanes -/

theorem attributeContact_sameBase (n : LaneNo) (p : Part) : SameBase p (attributeContact n p) := by
  unfold attributeContact
  split
  · exact modifyHide_sameBase _ _ _
  · split
    · exact .refl p
    · exact raise_sameBase _ _

theorem attributeBottom_sameBase (p : Part) : SameBase p (attributeBottom p) := by
  unfold attributeBottom
  split
  · exact modifyHide_sameBase _ _ _
  · exact .refl p

theorem reseed_sameBase (n : LaneNo) (p : Part) : SameBase p (reseed n p) :=
  ((setLane_sameBase p _ _).trans (recompute_sameBase _)).trans (raise_sameBase _ _)

theorem reseedTest_sameBase (n : LaneNo) (p : Part) : SameBase p (reseedTest n p) := by
  unfold reseedTest
  split
  · exact reseed_sameBase _ _
  · exact .refl p

theorem forwardLanes_sameBase (p : Part) : SameBase p (forwardLanes p) := by
  unfold forwardLanes
  refine foldl_sameBase _ (fun q n => ?_) _ p
  unfold forwardLane
  split
  · exact (setLane_sameBase _ _ _).trans (reseedTest_sameBase _ _)
  · exact .refl q

theorem faultLane_sameBase (n : LaneNo) (k : LaneFaultKind) (p : Part) : SameBase p (faultLane n k p) := by
  unfold faultLane
  exact (((((setLane_sameBase p _ _).trans (withdraw_sameBase _ _)).trans (recompute_sameBase _)).trans
    (raise_sameBase _ _)).trans (attend_sameBase _ .laneFault (by simp) (by simp) (by simp))).trans
    (completeBatch_sameBase _)

theorem filterReference_sameBase (n : LaneNo) (p : Part) : SameBase p (filterReference n p) := by
  unfold filterReference
  split
  · exact .refl p
  · dsimp only
    split
    · exact setLane_sameBase _ _ _
    · exact (setLane_sameBase _ _ _).trans (driftRequest_sameBase _ _)

theorem handOnContact_sameBase (n : LaneNo) (c : Option ContactChange) (p : Part) :
    SameBase p (handOnContact n c p) := by
  unfold handOnContact
  split
  · exact .refl p
  · exact ((attributeContact_sameBase _ _).trans (recompute_sameBase _)).trans (raise_sameBase _ _)
  · exact ((attributeBottom_sameBase _).trans (recompute_sameBase _)).trans (raise_sameBase _ _)
  · exact recompute_sameBase _
  · exact recompute_sameBase _

theorem takeReading_sameBase (n : LaneNo) (raw : Nat) (p : Part) : SameBase p (takeReading n raw p) := by
  have past : ∀ q, SameBase q (pastRailCheck n raw q) := by
    intro q
    unfold pastRailCheck
    dsimp only
    repeat' split
    · exact setLane_sameBase _ _ _
    · unfold senseReading
      dsimp only
      split
      · exact ((setLane_sameBase _ _ _).trans (handOnContact_sameBase _ _ _)).trans (filterReference_sameBase _ _)
      · exact (setLane_sameBase _ _ _).trans (handOnContact_sameBase _ _ _)
    · exact handReading_sameBase _ _ _ _
    · exact .refl q
  unfold takeReading
  dsimp only
  repeat' split
  · exact (setLane_sameBase _ _ _).trans (faultLane_sameBase _ _ _)
  · exact (setLane_sameBase _ _ _).trans (past _)
  · exact (setLane_sameBase _ _ _).trans (past _)

/-! ## How a hide record changes -/

/-- The record keeps its ticket, tag, article, origin, lead, trail and snapshot, and does not return to ANNOUNCED. -/
structure Hide.follows (a b : Hide) : Prop where
  ticket : b.ticket = a.ticket
  tag : b.tag = a.tag
  article : b.article = a.article
  unannounced : b.unannounced = a.unannounced
  lead : b.lead = a.lead
  trail : b.trail = a.trail
  snapshot : b.snapshot = a.snapshot
  announced : a.state ≠ .announced → b.state ≠ .announced

theorem Hide.follows_refl (a : Hide) : a.follows a := ⟨rfl, rfl, rfl, rfl, rfl, rfl, rfl, id⟩

theorem Hide.follows_trans {a b c : Hide} (h : a.follows b) (k : b.follows c) : a.follows c :=
  ⟨k.ticket.trans h.ticket, k.tag.trans h.tag, k.article.trans h.article, k.unannounced.trans h.unannounced,
    k.lead.trans h.lead, k.trail.trans h.trail, k.snapshot.trans h.snapshot, fun x => k.announced (h.announced x)⟩

/-- The records of two tables, in order, each following the other's. -/
def hidesFollow (p q : Part) : Prop := List.Forall₂ Hide.follows p.hides q.hides

theorem hidesFollow_of_eq {p q : Part} (h : q.hides = p.hides) : hidesFollow p q := by
  unfold hidesFollow
  rw [h]
  exact List.forall₂_same.mpr fun a _ => a.follows_refl

theorem forall₂_trans {l m n : List Hide} (h : List.Forall₂ Hide.follows l m) (k : List.Forall₂ Hide.follows m n) :
    List.Forall₂ Hide.follows l n := by
  induction h generalizing n with
  | nil => cases k; exact .nil
  | cons hxy _ ih =>
    cases k with
    | cons hyz k => exact .cons (Hide.follows_trans hxy hyz) (ih k)

theorem hidesFollow_refl (p : Part) : hidesFollow p p := hidesFollow_of_eq rfl

theorem hidesFollow_trans {p q r : Part} (h : hidesFollow p q) (k : hidesFollow q r) : hidesFollow p r :=
  forall₂_trans h k

theorem hidesFollow_modifyHide (p : Part) (t : Nat) (f : Hide → Hide) (hf : ∀ h ∈ p.hides, h.ticket = t → h.follows (f h)) :
    hidesFollow p (p.modifyHide t f) := by
  show List.Forall₂ _ p.hides (p.hides.map _)
  rw [List.forall₂_map_right_iff]
  refine List.forall₂_same.mpr fun a ha => ?_
  split
  · rename_i e
    exact hf a ha (by simpa using e)
  · exact a.follows_refl

theorem hidesFollow_length {p q : Part} (h : hidesFollow p q) : q.hides.length = p.hides.length :=
  (List.Forall₂.length_eq h).symm

theorem hidesFollow_hide? {p q : Part} (h : hidesFollow p q) (t : Nat) (a : Hide) (ha : p.hide? t = some a) :
    ∃ b, q.hide? t = some b ∧ a.follows b := by
  unfold hidesFollow at h
  unfold Part.hide? at ha ⊢
  generalize p.hides = l at h ha
  generalize q.hides = m at h
  induction h with
  | nil => simp at ha
  | @cons x y l m hxy _ ih =>
    simp only [List.find?_cons] at ha ⊢
    rw [hxy.ticket]
    by_cases hx : x.ticket = t
    · have e : (x.ticket == t) = true := by simp [hx]
      rw [e] at ha ⊢
      exact ⟨y, rfl, Option.some.inj ha ▸ hxy⟩
    · have e : (x.ticket == t) = false := by simp [hx]
      rw [e] at ha ⊢
      exact ih ha

end Sys2Proof.Machine
end

