-- ==== Sys2Proof/Laws/HideTable.lean ====
section
/-! SUPPORT. The operations of the hide table on the records themselves, and what they leave of the lanes and the
article table. -/

namespace Sys2Proof.Machine

/-! ## Tickets -/

/-- The ticket found is the first one from `t` on that no record holds, in the counter's order, within the fuel: every one
passed over is held (R23). -/
theorem freeTicket_eq_iterate (used : List Nat) (fuel t : Nat) :
    ∃ skipped : Nat, skipped ≤ fuel ∧ freeTicket used fuel t = nextTicketAfter^[skipped] t ∧
      ∀ j : Nat, j < skipped → nextTicketAfter^[j] t ∈ used := by
  induction fuel generalizing t with
  | zero => exact ⟨0, Nat.le_refl _, rfl, fun _ h => absurd h (Nat.not_lt_zero _)⟩
  | succ k ih =>
    unfold freeTicket
    split
    case isTrue held =>
      obtain ⟨n, hn, eq, below⟩ := ih (nextTicketAfter t)
      refine ⟨n + 1, Nat.succ_le_succ hn, eq, fun j hj => ?_⟩
      cases j with
      | zero => exact held
      | succ j => exact below j (Nat.lt_of_succ_lt_succ hj)
    case isFalse free => exact ⟨0, Nat.zero_le _, rfl, fun _ h => absurd h (Nat.not_lt_zero _)⟩

/-! ## What hands on leaves the records as they are -/

@[simp] theorem formationTest_hides (p : Part) : (formationTest p).hides = p.hides := by
  rcases formationTest_cases p with h | h | h <;> rw [h]
  · simp only [dropUnqualified, Part.setTuning]
  · simp only [startBatch, recompute_hides, Part.putHold_hides, dropUnqualified, Part.setTuning]

@[simp] theorem formationTest_articles (p : Part) : (formationTest p).articles = p.articles := by
  rcases formationTest_cases p with h | h | h <;> rw [h]
  · simp only [dropUnqualified, Part.setTuning]
  · simp only [startBatch, recompute_articles, Part.putHold_articles, dropUnqualified, Part.setTuning]

@[simp] theorem formationTest_gap (p : Part) : (formationTest p).gap = p.gap := by
  rcases formationTest_cases p with h | h | h <;> rw [h]
  · simp only [dropUnqualified, Part.setTuning]
  · simp only [startBatch, recompute_gap, Part.putHold_gap, dropUnqualified, Part.setTuning]

@[simp] theorem formationTest_port (p : Part) : (formationTest p).port = p.port := by
  rcases formationTest_cases p with h | h | h <;> rw [h]
  · simp only [dropUnqualified, Part.setTuning]
  · simp only [startBatch, recompute_port, Part.putHold_port, dropUnqualified, Part.setTuning]

@[simp] theorem formationTest_lines (p : Part) : (formationTest p).lines = p.lines := by
  rcases formationTest_cases p with h | h | h <;> rw [h]
  · simp only [dropUnqualified, Part.setTuning]
  · simp only [startBatch, recompute_lines, Part.putHold_lines, dropUnqualified, Part.setTuning]

@[simp] theorem formationTest_tallies (p : Part) : (formationTest p).tallies = p.tallies := by
  rcases formationTest_cases p with h | h | h <;> rw [h]
  · simp only [dropUnqualified, Part.setTuning]
  · simp only [startBatch, recompute_tallies, Part.putHold_tallies, dropUnqualified, Part.setTuning]

/-- The feed unit after a formation test: TUNING may have been added, nothing else. -/
theorem formationTest_feed (p : Part) : (formationTest p).feed = { p.feed with
    holds := { p.feed.holds with tuning := (formationTest p).feed.holds.tuning } } := by
  rcases formationTest_cases p with h | h | h <;> rw [h]
  · simp only [dropUnqualified, Part.setTuning]
  · simp only [startBatch, recompute_feed, Part.putHold_feed, dropUnqualified, Part.setTuning, HoldSet.put]

@[simp] theorem stopAtClearTest_hides (p : Part) : (stopAtClearTest p).hides = p.hides := by
  unfold stopAtClearTest; split <;> rfl
@[simp] theorem stopAtClearTest_articles (p : Part) : (stopAtClearTest p).articles = p.articles := by
  unfold stopAtClearTest; split <;> rfl
@[simp] theorem stopAtClearTest_lanes (p : Part) : (stopAtClearTest p).lanes = p.lanes := by
  unfold stopAtClearTest; split <;> rfl
@[simp] theorem stopAtClearTest_tuning (p : Part) : (stopAtClearTest p).tuning = p.tuning := by
  unfold stopAtClearTest; split <;> rfl
@[simp] theorem stopAtClearTest_gap (p : Part) : (stopAtClearTest p).gap = p.gap := by
  unfold stopAtClearTest; split <;> rfl
@[simp] theorem stopAtClearTest_pressure (p : Part) : (stopAtClearTest p).pressure = p.pressure := by
  unfold stopAtClearTest; split <;> rfl
@[simp] theorem stopAtClearTest_bus (p : Part) : (stopAtClearTest p).bus = p.bus := by
  unfold stopAtClearTest; split <;> rfl
@[simp] theorem stopAtClearTest_port (p : Part) : (stopAtClearTest p).port = p.port := by
  unfold stopAtClearTest; split <;> rfl
@[simp] theorem stopAtClearTest_lines (p : Part) : (stopAtClearTest p).lines = p.lines := by
  unfold stopAtClearTest; split <;> rfl
@[simp] theorem stopAtClearTest_tallies (p : Part) : (stopAtClearTest p).tallies = p.tallies := by
  unfold stopAtClearTest; split <;> rfl
@[simp] theorem stopAtClearTest_holds (p : Part) : (stopAtClearTest p).feed.holds = p.feed.holds := by
  unfold stopAtClearTest; split <;> rfl
@[simp] theorem stopAtClearTest_settings (p : Part) : (stopAtClearTest p).settings = p.settings := by
  unfold stopAtClearTest; split <;> rfl

/-! ## A record becomes SPLITTING -/

theorem becomeSplitting_hides (h : Hide) (p : Part) : (becomeSplitting h p).hides =
    p.hides.map fun x => if x.ticket == h.ticket
      then x.split (!p.gap.idleOn (h.snapshot.map (·.splitGap))) else x := by
  simp only [becomeSplitting, stopAtClearTest_hides, raise_hides, clearPerHideTallies, Part.setTallies,
    recompute_hides, gapHandOn_hides, endExcursionRun, Part.setGap]
  rfl

theorem becomeSplitting_lanes (h : Hide) (p : Part) : (becomeSplitting h p).lanes = p.lanes := by
  simp [becomeSplitting, clearPerHideTallies, Part.setTallies, endExcursionRun, Part.setGap]

theorem becomeSplitting_tuning (h : Hide) (p : Part) : (becomeSplitting h p).tuning = p.tuning := by
  simp [becomeSplitting, clearPerHideTallies, Part.setTallies, endExcursionRun, Part.setGap]

theorem becomeSplitting_articles (h : Hide) (p : Part) : (becomeSplitting h p).articles = p.articles := by
  simp [becomeSplitting, clearPerHideTallies, Part.setTallies, endExcursionRun, Part.setGap]

/-- Every wanted pressure is then the value of its case. -/
theorem becomeSplitting_decides (h : Hide) (p : Part) : wantedIsDecided (becomeSplitting h p) := by
  unfold wantedIsDecided becomeSplitting
  rw [stopAtClearTest_pressure, raise_pressure]
  simp only [clearPerHideTallies, Part.setTallies]
  rw [recompute_pressure_wanted]
  refine (Part.pressures_congr ?_ ?_ ?_ ?_).symm
  · simp
  · simp
  · simp
  · simp

/-- With no other SPLITTING record the table has a SPLITTING record after the crossing (R33). -/
theorem Part.splitting?_isSome (p : Part) : p.splitting?.isSome = true ↔ ∃ h ∈ p.hides, h.state = .splitting := by
  simp [Part.splitting?]

/-! ## The records follow -/

theorem hidesFollow_becomeSplitting (h : Hide) (p : Part) : hidesFollow p (becomeSplitting h p) := by
  unfold hidesFollow
  rw [becomeSplitting_hides]
  exact hidesFollow_modifyHide p h.ticket _ fun x _ _ => ⟨rfl, rfl, rfl, rfl, rfl, rfl, rfl, fun _ => by simp [Hide.split]⟩

theorem hidesFollow_crossKnife (h : Hide) (p : Part) : hidesFollow p (crossKnife h p) := by
  unfold crossKnife
  split
  · exact hidesFollow_modifyHide p _ _ fun x _ _ => ⟨rfl, rfl, rfl, rfl, rfl, rfl, rfl, id⟩
  · exact hidesFollow_becomeSplitting h p

theorem hidesFollow_promoteWaiting (p : Part) : hidesFollow p (promoteWaiting p) := by
  unfold promoteWaiting
  split
  · exact hidesFollow_refl p
  · split
    · exact hidesFollow_becomeSplitting _ p
    · exact hidesFollow_refl p

theorem comparePerHideTallies_hides (p : Part) : (comparePerHideTallies p).hides = p.hides := by
  rw [comparePerHideTallies_onlyRoutes p]

theorem clearRecord_hides (h : Hide) (p : Part) : ∃ q : Part,
    q.hides = p.hides.map (fun x => if x.ticket == h.ticket then x.clear else x) ∧
      (clearRecord h p).hides = (promoteWaiting q).hides ∧ SameBase p q := by
  refine ⟨raiseAll h.clearedEvents ((comparePerHideTallies (endExcursionRun
    ((p.modifyHide h.ticket Hide.clear).modifyPlan h.article Plan.countCleared))).attend .hideDone), ?_, ?_, ?_⟩
  rotate_left
  · unfold clearRecord
    rw [stopAtClearTest_hides, recompute_hides, formationTest_hides, gapCleared_hides]
  · exact (((((modifyHide_sameBase p _ _).trans (modifyPlan_sameBase _ _ _)).trans (endExcursionRun_sameBase _)).trans
      (comparePerHideTallies_sameBase _)).trans (attend_sameBase _ .hideDone (by simp) (by simp) (by simp))).trans
      (raiseAll_sameBase _ _)
  · rw [raiseAll_hides, Part.attend_hides, comparePerHideTallies_hides]
    rfl

theorem hidesFollow_clearRecord (h : Hide) (p : Part) : hidesFollow p (clearRecord h p) := by
  obtain ⟨q, hq, hc, _⟩ := clearRecord_hides h p
  have first : hidesFollow p q := by
    unfold hidesFollow
    rw [hq]
    exact hidesFollow_modifyHide p h.ticket Hide.clear fun x _ _ =>
      ⟨rfl, rfl, rfl, rfl, rfl, rfl, rfl, fun _ => by simp [Hide.clear]⟩
  have second := hidesFollow_promoteWaiting q
  unfold hidesFollow at second ⊢
  rw [hc]
  exact forall₂_trans first second

theorem hidesFollow_crossMaximum (h : Hide) (p : Part) : hidesFollow p (crossMaximum h p) :=
  hidesFollow_trans
    (hidesFollow_modifyHide p h.ticket (fun x => { x with overlength := true }) fun _ _ _ =>
      ⟨rfl, rfl, rfl, rfl, rfl, rfl, rfl, id⟩)
    (hidesFollow_of_eq rfl)

theorem hidesFollow_crossApproach (t : Nat) (p : Part) : hidesFollow p (crossApproach t p) := by
  refine hidesFollow_trans
    (hidesFollow_modifyHide p t (fun x => { x with approachReached := true }) fun x _ _ =>
      ⟨rfl, rfl, rfl, rfl, rfl, rfl, rfl, id⟩) (hidesFollow_of_eq ?_)
  unfold crossApproach stopBeforeNext
  split <;> rfl

theorem hidesFollow_testMarks (t : Nat) (p : Part) : hidesFollow p (testMarks t p) := by
  have a : ∀ q, hidesFollow q (testApproach t q) := by
    intro q
    unfold testApproach
    split
    · split
      · exact hidesFollow_crossApproach _ q
      · exact hidesFollow_refl q
    · exact hidesFollow_refl q
  have k : ∀ q, hidesFollow q (testKnife t q) := by
    intro q
    unfold testKnife
    split
    · split
      · exact hidesFollow_crossKnife _ q
      · exact hidesFollow_refl q
    · exact hidesFollow_refl q
  have e : ∀ q, hidesFollow q (testTrail t q) := by
    intro q
    unfold testTrail
    split
    · split
      · exact hidesFollow_clearRecord _ q
      · exact hidesFollow_refl q
    · exact hidesFollow_refl q
  have m : ∀ q, hidesFollow q (testMaximum t q) := by
    intro q
    unfold testMaximum
    split
    · split
      · exact hidesFollow_crossMaximum _ q
      · exact hidesFollow_refl q
    · exact hidesFollow_refl q
  exact hidesFollow_trans (hidesFollow_trans (hidesFollow_trans (a p) (k _)) (e _)) (m _)

/-- A record that is bound to a lead is in the table afterwards with that lead, trail and snapshot, and has left
ANNOUNCED (R28, R30). -/
theorem bindHide_hide? (ticket : Nat) (lead : Pos) (trail : Option Pos) (p : Part) (h : Hide)
    (e : p.hide? ticket = some h) :
    ∃ b, (bindHide ticket lead trail p).hide? ticket = some b ∧ b.state ≠ .announced ∧ b.lead = some lead ∧
      b.trail = trail ∧ b.snapshot = (p.plan? h.article).map (·.fields) ∧ b.tag = h.tag ∧ b.article = h.article ∧
      b.unannounced = h.unannounced := by
  unfold bindHide
  simp only [e]
  have bound := Part.hide?_modifyHide_hit p ticket
    (fun x => x.bind lead trail ((p.plan? h.article).map (·.fields))) (fun _ => rfl)
  rw [e, Option.map_some] at bound
  generalize p.modifyHide ticket (fun x => x.bind lead trail ((p.plan? h.article).map (·.fields))) = q at bound ⊢
  have told : hidesFollow q (stopAtClearTest (raise (.hideEntering ticket h.article) (gapHandOn q))) :=
    hidesFollow_of_eq (by simp)
  obtain ⟨b, hb, f⟩ := hidesFollow_hide? (hidesFollow_trans told (hidesFollow_testMarks ticket _)) ticket _ bound
  exact ⟨b, hb, f.announced (by simp [Hide.bind]), f.lead, f.trail, f.snapshot, f.tag, f.article, f.unannounced⟩

theorem bindHide_length (ticket : Nat) (lead : Pos) (trail : Option Pos) (p : Part) :
    (bindHide ticket lead trail p).hides.length = p.hides.length := by
  unfold bindHide
  split
  · rfl
  · rw [hidesFollow_length (hidesFollow_testMarks ticket _)]
    simp [Part.modifyHide, Part.setHides]

end Sys2Proof.Machine
end

