-- ==== Sys2Proof/Laws/Layouts.lean ====
section
/-! SUPPORT. Bytes of flags (12): the flag in each bit. -/

namespace Sys2Proof.Machine

/-- A number made of flags, the first in its lowest bit, has each flag in its place. -/
theorem testBit_flags (flags : List Bool) (i : Nat) :
    (flags.foldr (fun (b : Bool) (n : Nat) => 2 * n + b.toNat) 0).testBit i = flags.getD i false := by
  induction flags generalizing i with
  | nil => simp
  | cons b rest ih =>
    cases i with
    | zero => cases b <;> simp [Nat.testBit_zero]
    | succ i =>
      have half : (2 * rest.foldr (fun (b : Bool) (n : Nat) => 2 * n + b.toNat) 0 + b.toNat) / 2 =
          rest.foldr (fun (b : Bool) (n : Nat) => 2 * n + b.toNat) 0 := by
        have := b.toNat_lt
        omega
      rw [List.foldr, Nat.testBit_succ, half, ih]
      simp

/-- Bit n of a byte of flags is its flag n; a bit beyond the last flag is clear. -/
theorem flagByte_getLsbD (flags : List Bool) (i : Nat) (h : flags.length ≤ 8) :
    (flagByte flags).getLsbD i = flags.getD i false := by
  rw [flagByte, BitVec.getLsbD_ofNat, testBit_flags]
  by_cases inByte : i < 8
  · simp [inByte]
  · rw [List.getD_eq_default _ _ (by omega)]
    simp

end Sys2Proof.Machine
end

