-- ==== Sys2Proof/Tests/Slice0.lean ====
section
/-! SUPPORT. Tests of the model's own: the well-formedness check refuses an ill-formed term of each kind, frames written
out from chapter 12 decode to their commands, and, for each statement of Certificates/Slice0/Obligations.lean that has
hypotheses, a concrete state and operands that meet them, clause by clause (`test_meets_<statement>`). -/

open Sys2Proof Sys2Proof.Machine

/-! ## Small states -/

/-- The machine after reset, with frames accepted. -/
def tReady : State := { State.reset with port := { State.reset.port with acceptIn := none } }

/-- Plan fields with a reject limit. -/
def tFields (rejectLimit : Nat) : PlanFields := ⟨100, 5, 240, 300, 120, 80, 60, 2, rejectLimit⟩

/-- A plan of a code. -/
def tPlan (code : Nat) (state : PlanState) (mark : Bool) (pins : Nat) : Plan :=
  ⟨code, tFields 2, state, mark, pins, 0, 0⟩

/-- A hide record on article 1, in a state, with an edge at position 0. -/
def tHide (ticket : Nat) (state : HideState) : Hide :=
  { newHide ticket 7 1 false with state := state, lead := some 0, snapshot := some (tFields 2) }

/-- A machine with these tables. -/
def tTables (plans : List Plan) (hides : List Hide) : State := { tReady with articles := plans, hides := hides }

/-- A machine whose feed stands at a position. -/
def tAt (position : Pos) (s : State) : State := { s with feed := { s.feed with position := position } }

/-- A machine with another axis state, target and settle count. -/
def tAxis (state : AxisState) (target : Option GapTol) (settle : Nat) : State :=
  { tReady with gap := { tReady.gap with state := state, target := target, settle := settle } }

/-- A machine with another gap axis. -/
def tGap (f : GapAxis → GapAxis) : State := { tReady with gap := f tReady.gap }

/-- A machine with another record for lane 0. -/
def tLane (f : Lane → Lane) : State := { tReady with toPart := tReady.toPart.setLane 0 (f (tReady.lane 0)) }

/-- A machine with another bus master state. -/
def tMaster (m : MasterState) : State := { tReady with bus := { tReady.bus with master := m } }

/-- A machine with another eye state. -/
def tEye (e : EyeState) : State := { tReady with eye := { tReady.eye with state := e } }

/-- A machine with another run state and STOP level. -/
def tRun (r : RunState) (stop : Bool) : State :=
  { tReady with feed := { tReady.feed with runState := r, stopLine := stop } }

/-- A running batch of lane 0 in a phase. -/
def tBatch (phase : Phase) (readings : Nat) : Batch :=
  ⟨true, .host, [⟨0, phase, readings, 0, none, false, some ⟨⟨16, 0⟩, 0, false, .untuned⟩⟩]⟩

/-- A machine with a batch record, lane 0 TUNING. -/
def tTuning (b : Batch) : State :=
  let s := tLane fun l => { l with tune := .tuning }
  { s with tuning := { s.tuning with batch := some b } }

/-- The machine settings of power-on, as operands. -/
def tSettings : SettingsOperands := ⟨8500, 40000, 600, 50, 1500, 0, 0, 100, 80, 40, 5, 0, 5, 80, 20, 8, 4⟩

/-- Plan operands, each field at the low end of its range or near it. -/
def tPlanLow : PlanOperands := ⟨50, 2, 50, 0, 0, 0, 0, 1, 0⟩

/-! ## The well-formedness check -/

theorem test_eyeForceLead_refused : Instr.wellFormed (.eyeForceLead 2) = false := by decide
theorem test_eyeForceTail_refused : Instr.wellFormed (.eyeForceTail 1) = false := by decide
theorem test_malformed_of_whole_frame_refused : Instr.wellFormed (.malformedFrame 0x37 0) = false := by decide
theorem test_malformed_of_fetch_refused : Instr.wellFormed (.malformedFrame 0x01 3) = false := by decide
theorem test_approach_ticket_refused : Instr.wellFormed (.approachPointCrossing 0) = false := by decide
theorem test_knife_ticket_refused : Instr.wellFormed (.knifeLineCrossing 0) = false := by decide
theorem test_trail_ticket_refused : Instr.wellFormed (.trailMarkCrossing 0) = false := by decide
theorem test_maximum_ticket_refused : Instr.wellFormed (.maximumLengthCrossing 0) = false := by decide
theorem test_gaugePair_refused :
    Instr.wellFormed (.gaugePair 1001 0) = false ∧ Instr.wellFormed (.gaugePair 0 1001) = false := by decide
theorem test_moveCompletion_refused :
    Instr.wellFormed (.moveCompletion 1001 0) = false ∧ Instr.wellFormed (.moveCompletion 0 1001) = false := by decide
theorem test_wellFormed_at_bounds : Instr.wellFormed (.gaugePair 1000 1000) = true ∧
    Instr.wellFormed (.eyeForceTail 2) = true ∧ Instr.wellFormed (.eyeForceLead 1) = true ∧
    Instr.wellFormed (.knifeLineCrossing 1) = true ∧ Instr.wellFormed (.malformedFrame 0x37 8) = true := by decide

/-! ## Frames of chapter 12 -/

theorem test_frame_articleRead : decodeFrame [0x12, 0x02, 0x01] 0 = .articleRead 0x0201 := by decide
theorem test_frame_articleWrite :
    decodeFrame [0x11, 0x00, 0x07, 0x00, 0xB4, 0x05, 0x00, 0xF0, 0x01, 0x2C, 0x00, 0x78, 0x00, 0x50, 0x3C, 0x02,
      0x00, 0x02, 0x01] 0 = .articleWrite 7 ⟨180, 5, 240, 300, 120, 80, 60, 2, 2⟩ 1 := by decide
theorem test_frame_hideAnnounce :
    decodeFrame [0x21, 0x12, 0x34, 0x56, 0x78, 0x00, 0x09] 0 = .hideAnnounce 0x12345678 9 := by decide
theorem test_frame_feedClearHold : decodeFrame [0x36, 0x04, 0x10] 0 = .feedClearHold 0x0410 := by decide
theorem test_frame_eyeForce :
    decodeFrame [0x38, 0x01] 0 = .eyeForceLead 1 ∧ decodeFrame [0x38, 0x02] 0 = .eyeForceTail 2 := by decide
theorem test_frame_gapSet : decodeFrame [0x41, 0x01, 0x2C] 0 = .gapSet 300 := by decide
theorem test_frame_lanePark : decodeFrame [0x51, 0x1F] 0 = .lanePark 31 := by decide
theorem test_frame_tuneStart : decodeFrame [0x61, 0x80, 0x00, 0x00, 0x01] 0 = .tuneStart 0x80000001 := by decide
theorem test_frame_boardRecover : decodeFrame [0x71, 0x03] 0 = .boardRecover 3 := by decide
theorem test_frame_routeWrite :
    decodeFrame [0x81, 0x0F, 0x01, 0x01, 0x00, 0x00, 0x00, 0xFF, 0x03, 0x05, 0x0A, 0x00] 0 =
      .routeWrite 15 ⟨1, 1, 0xFF, 3, 5, 10, 0⟩ := by decide
theorem test_frame_lineWrite : decodeFrame [0x91, 0x02, 0x01, 0x01, 0x00] 0 = .lineWrite 2 1 1 0 := by decide
theorem test_frame_tallyWrite :
    decodeFrame [0xA2, 0x01, 0x00, 0x00, 0x01, 0x00, 0x01, 0x04] 0 = .tallyWrite 1 256 1 4 := by decide
theorem test_frame_machineReset : decodeFrame [0xB1] 0 = .machineReset := by decide
theorem test_frame_fetch : decodeFrame [0x01, 0, 0, 0] 5 = .linkFetch 3 := by decide
theorem test_frame_malformed : decodeFrame [0x12, 0x02] 0 = .malformedFrame 0x12 8 ∧
    decodeFrame [0x12, 0x02, 0x01] 3 = .malformedFrame 0x12 19 ∧ decodeFrame [0xFF] 0 = .malformedFrame 0xFF 0 := by
  decide
theorem test_frame_disregarded : decodeFrame [] 7 = .frameDisregarded 7 := by decide

/-! ## What the statements assume can be met: the port -/

theorem test_meets_IdleStepPassesTime :
    tReady.pending = [] ∧ tReady.dueTimers = [] ∧
      Part.dueTimers { tReady.toPart with port := { tReady.port with acceptIn := some 0 } } = [.acceptance] ∧
      Part.dueTimers { tReady.toPart with
        port := { tReady.port with acceptIn := some 0 }, bus := { tReady.bus with selectTimer := some 0 } } =
          [.select, .acceptance] := by decide

theorem test_meets_EarlyFramesAreDisregarded :
    State.reset.port.acceptIn.isSome = true ∧ (encodeFrame .feedRead).isSome = true ∧ encodeFrame (.linkFetch 1) = none ∧
      (7 : Nat) < 8 ∧ (8 : Nat) ≤ 8 ∧ tReady.port.acceptIn = none := by decide

theorem test_short_frame_carries_status_bits :
    (disregard 3 tReady.toPart).port.shortBits =
      [tReady.statusByte.getLsbD 7, tReady.statusByte.getLsbD 6, tReady.statusByte.getLsbD 5] ∧
      (disregard 2 State.reset.toPart).port.shortBits = [false, false] := by decide

theorem test_meets_FramesAreDecoded :
    (7 : Nat) < 8 ∧ tReady.port.acceptIn = none ∧ (0x37 : Byte) ≠ Header.fetch ∧
      ¬(operandLength 0x37 = some [(0 : Byte)].length ∧ (0 : Nat) = 0) ∧
      ¬(operandLength 0x37 = some ([] : List Byte).length ∧ (1 : Nat) = 0) ∧
      operandLength 0x37 = some ([] : List Byte).length ∧ operandLength 0xFF = none := by decide

theorem test_meets_DecodeOfEncodeIsCommand :
    Instr.wellFormed (.gapSet 65535) = true ∧ encodeFrame (.gapSet 65535) = some [0x41, 0xFF, 0xFF] ∧
      Instr.wellFormed (.eyeForceTail 2) = true ∧ encodeFrame (.eyeForceTail 2) = some [0x38, 0x02] := by decide

theorem test_meets_FetchReturnsStoredResult : tReady.port.acceptIn = none ∧ (0 : Nat) + 3 < 4 := by decide

theorem test_meets_AttentionIsReadAndMasked :
    tReady.port.acceptIn = none ∧ (2047 : Half).toNat < 2 ^ 11 ∧ 2 ^ 11 ≤ (2048 : Half).toNat ∧
      tReady.attnActive = true ∧
      Part.attnActive { tReady.toPart with port := { tReady.port with attention := AttentionSet.empty } } = false := by decide

theorem test_meets_WriteSettingsDecides :
    settingsOperand { tSettings with scanPeriod := 1 } = none ∧ settingsOperand tSettings = some Settings.powerOn ∧
      tReady.feed.runState = .stopped ∧ (∀ h ∈ tReady.hides, h.state ≠ .entering ∧ h.state ≠ .splitting) ∧
      tReady.feed.holds.hideAborted = false ∧ tReady.feed.holds.stopRecovery = false ∧
      (tRun .running false).feed.runState ≠ .stopped ∧ Settings.powerOn = tReady.settings ∧
      (settingsOperand { tSettings with eyePolarity := 1 }).map (·.eyePolarity) = some .darkLow ∧
      (settingsOperand { tSettings with leadDebounce := 20 }).map (·.leadDebounce) = some 20 ∧
      (settingsOperand { tSettings with gapMethod := 0 }).map (·.gapMethod) = some .atClear ∧
      (settingsOperand { tSettings with idlePressure := 81 }).map (·.idlePressure) = some 81 ∧
      reached (0 + BitVec.ofNat 32 20) 20 = true ∧ reached (0 + BitVec.ofNat 32 20) 19 = false ∧
      (tAt 20 (tEye (.leadPending 0))).feed.position = 20 ∧ (tAt 600 (tEye (.tailPending 0))).eye.state = .tailPending 0 ∧
      (tEye (.discard (some 0))).feed.runState = .stopped ∧
      (∃ h ∈ (tTables [] [tHide 1 .entering]).hides, h.state = .entering ∨ h.state = .splitting) ∧
      (tRun .stopped true).feed.holds.hideAborted = false := by decide

theorem test_meets_SettingsHaveTheirRanges :
    (settingsOperand { tSettings with throatLength := 3000, gapFilter := 2500 }).isSome = true ∧
      (settingsOperand { tSettings with throatLength := 3000, gapFilter := 2501 }).isSome = false ∧
      (laneSettingsOperand ⟨8, 0, 1, 15, 256, 5000, 12, 8, 1⟩).isSome = true ∧
      (laneSettingsOperand ⟨8, 0, 1, 15, 256, 4999, 12, 8, 1⟩).isSome = false ∧
      calibrationOperand ⟨0, 255, 65535⟩ = some none ∧ calibrationOperand ⟨1, 16, 1023⟩ = some (some ⟨16, 1023⟩) ∧
      calibrationOperand ⟨2, 1, 0⟩ = none ∧ calibrationOperand ⟨1, 17, 0⟩ = none := by decide

theorem test_meets_MachineResetKeepsAndClears :
    tReady.port.acceptIn = none ∧ tReady.batchRunning = false ∧ tReady.settings.gapMethod = .atClear ∧
      tReady.feed.stopLine = false ∧
      (tTuning (tBatch .offset 0)).batchRunning = true ∧
      ((tBatch .offset 0).members.map (·.lane)).Nodup ∧
      (∃ m ∈ (tBatch .offset 0).members, m.phase ≠ .finished ∧ m.saved.isSome = true) ∧
      (∃ m ∈ (tBatch .finished 0).members, m.phase = .finished) ∧
      (tGap fun g => { g with staged := some ⟨100, 5⟩ }).gap.staged = some ⟨100, 5⟩ ∧
      (tAxis .moving (some ⟨100, 5⟩) 0).gap.state = .moving ∧ (tReady.drive 0).state = .waiting ∧
      ((tLane fun l => { l with service := .faulted .drive }).lane 0).service = .faulted .drive ∧
      tReady.tuning.batch = none ∧ (tTuning (tBatch .offset 0)).tuning.batch = some (tBatch .offset 0) ∧
      ({ tBatch .finished 0 with running := false } : Batch).running = false ∧
      (tMaster .releasing).bus.master = .releasing ∧ (tMaster (.selecting 3)).bus.master = .selecting 3 ∧
      (tMaster (.opened 3)).bus.master = .opened 3 ∧ (tMaster (.draining 0)).bus.dueNext = none ∧
      (tMaster (.draining 0)).bus.dueAfter = none ∧ (tMaster .idle).bus.master = .idle := by decide

theorem test_meets_FullResetGivesPowerOnValues :
    tReady.freeCount = 0 ∧ tReady.encoder = ⟨false, false⟩ ∧ tReady.pending = [] := by decide

/-! ## Tables -/

theorem test_meets_PlanFieldsHaveTheirRanges :
    (planOperand tPlanLow).isSome = true ∧ (planOperand { tPlanLow with splitGap := 49 }).isSome = false ∧
      (planOperand ⟨800, 50, 400, 600, 300, 300, 200, 3, 1023⟩).isSome = true := by decide

theorem test_meets_ArticleWriteDecides :
    tReady.port.acceptIn = none ∧ planOperand { tPlanLow with edgeBand := 4 } = none ∧ yesNo 2 = none ∧
      planOperand tPlanLow = some ⟨50, 2, 50, 0, 0, 0, 0, 1, 0⟩ ∧ yesNo 1 = some true ∧
      (65534 : Half) ≠ 65535 ∧
      (tTables [tPlan 1 .retiring false 1] []).plan? (1 : Half).toNat = some (tPlan 1 .retiring false 1) ∧
      (tTables [tPlan 1 .active false 1] []).plan? (1 : Half).toNat = some (tPlan 1 .active false 1) ∧
      tReady.plan? (1 : Half).toNat = none ∧ tReady.articles.length < 64 ∧
      64 ≤ (tTables ((List.range 64).map fun i => tPlan (i + 2) .active false 0) []).articles.length ∧
      (tTables ((List.range 64).map fun i => tPlan (i + 2) .active false 0) []).plan? (1 : Half).toNat = none := by
  decide

theorem test_meets_ArticleRetireDecides :
    tReady.plan? (1 : Half).toNat = none ∧
      (tTables [tPlan 1 .retiring false 1] []).plan? (1 : Half).toNat = some (tPlan 1 .retiring false 1) ∧
      (tTables [tPlan 1 .active true 0] []).plan? (1 : Half).toNat = some (tPlan 1 .active true 0) ∧
      (tTables [tPlan 1 .active true 1] []).plan? (1 : Half).toNat = some (tPlan 1 .active true 1) := by decide

theorem test_meets_HideAnnounceDecides :
    8 ≤ (tTables [] (List.replicate 8 (tHide 1 .announced))).hides.length ∧ tReady.hides.length < 8 ∧
      tReady.articles.find? (·.mark) = none ∧
      (tTables [tPlan 1 .retiring false 1] []).plan? (1 : Half).toNat = some (tPlan 1 .retiring false 1) ∧
      (tTables [tPlan 1 .active true 0] []).articles.find? (·.mark) = some (tPlan 1 .active true 0) ∧
      tReady.unbound = none ∧ 1 ≤ tReady.nextTicket ∧ tReady.nextTicket ≤ 65535 ∧
      Part.ticket { (tTables [] [tHide 65535 .announced, tHide 1 .announced]).toPart with nextTicket := 65535 } = 2 ∧
      nextTicketAfter^[2] 65535 = 2 := by decide

theorem test_meets_HideAnnounceBindsUnboundEdge :
    let s := { tTables [tPlan 1 .active true 0] [] with unbound := some ⟨0, none⟩ }
    s.port.acceptIn = none ∧ s.hides.length < 8 ∧ (∀ h ∈ s.hides, h.ticket ≠ s.ticket) ∧
      s.articles.find? (·.mark) = some (tPlan 1 .active true 0) ∧
      s.plan? (1 : Half).toNat = some (tPlan 1 .active true 0) ∧ s.unbound = some ⟨0, none⟩ := by decide

theorem test_meets_HideAmendDecides :
    let s := tTables [tPlan 1 .retiring false 1, tPlan 2 .active true 0]
      [{ tHide 1 .announced with article := 1 }, tHide 2 .entering]
    s.hide? (3 : Half).toNat = none ∧ s.hide? (1 : Half).toNat = some { tHide 1 .announced with article := 1 } ∧
      (s.hide? (2 : Half).toNat).map (·.state) = some .entering ∧ s.plan? (3 : Half).toNat = none ∧
      (s.plan? (1 : Half).toNat).map (·.state) = some .retiring ∧
      s.articles.find? (·.mark) = some (tPlan 2 .active true 0) ∧ s.plan? 2 = some (tPlan 2 .active true 0) ∧
      s.plan? 1 = some (tPlan 1 .retiring false 1) := by decide

theorem test_meets_HideRetireDecides :
    let s := tTables [tPlan 1 .retiring false 1] [tHide 1 .announced, tHide 2 .splitting]
    s.hide? (3 : Half).toNat = none ∧ (s.hide? (2 : Half).toNat).map (·.state) = some .splitting ∧
      (s.hide? (1 : Half).toNat).map (·.state) = some .announced ∧ s.plan? 1 = some (tPlan 1 .retiring false 1) := by
  decide

theorem test_meets_HideAbortDecides :
    let s := tTables [tPlan 1 .active false 4]
      [tHide 1 .announced, tHide 2 .splitting, tHide 3 .cleared, tHide 4 .entering]
    s.port.acceptIn = none ∧ s.hide? (5 : Half).toNat = none ∧
      (s.hide? (1 : Half).toNat).map (·.state) = some .announced ∧
      (s.hide? (2 : Half).toNat).map (·.state) = some .splitting ∧
      (s.hide? (3 : Half).toNat).map (·.state) = some .cleared ∧
      (s.hide? (4 : Half).toNat).map (·.state) = some .entering ∧ (s.hides.map (·.ticket)).Nodup ∧
      (tHide 2 .splitting).state = .splitting ∧ (tHide 4 .entering).state ≠ .splitting := by decide

theorem test_meets_TableReadsFindTheirRecords :
    let s := tTables [tPlan 2 .active true 0, tPlan 5 .active false 0] [tHide 1 .announced]
    s.articles.find? (·.mark) = some (tPlan 2 .active true 0) ∧ s.articles.find? (·.code == 3) = none ∧
      s.articles.Pairwise (fun a b => a.code < b.code) ∧ (∀ b ∈ s.articles, b.code ≤ (5 : Half).toNat) ∧
      (∀ b ∈ s.articles, (4 : Half).toNat < b.code → 5 ≤ b.code) ∧ s.hide? (2 : Half).toNat = none ∧
      (s.hide? (1 : Half).toNat).isSome = true ∧ (∀ h ∈ s.hides, h.tag ≠ 8) ∧
      s.hides = [] ++ tHide 1 .announced :: [] ∧ (tHide 1 .announced).tag = 7 := by decide

/-! ## Feed, eye and marks -/

theorem test_meets_FeedRunStopAndHoldAct :
    (tRun .stopped true).port.acceptIn = none ∧ (tRun .stopped true).feed.stopLine = true ∧
      (tRun .running false).feed.stopLine = false := by decide

theorem test_meets_PendingStopsFollowTheirTables :
    (tRun .running false).feed.runState = .running ∧ (tRun .stopped false).feed.runState = .stopped ∧
      (tRun .stoppingAtClear false).feed.runState = .stoppingAtClear ∧
      (∃ h ∈ (tTables [] [tHide 1 .entering]).hides, h.state = .entering ∨ h.state = .splitting) ∧
      (∀ h ∈ (tTables [] [tHide 1 .announced]).hides, h.state ≠ .entering ∧ h.state ≠ .splitting) := by decide

theorem test_meets_FeedClearHoldDecides :
    2 ^ 11 ≤ (2048 : Half).toNat ∧
      ({ HoldSet.empty with stopLine := true } : HoldSet).bytes = bytes2 1 ∧
      ({ HoldSet.empty with stopRecovery := true } : HoldSet).bytes = bytes2 2 ∧ (tRun .stopped true).feed.stopLine = true ∧
      ({ HoldSet.empty with unboundEdge := true, reverse := true } : HoldSet).bytes = bytes2 0x0410 ∧
      ({ tReady.feed.holds with unboundEdge := true } : HoldSet).unboundEdge = true ∧
      ({ tReady with unbound := some ⟨0, none⟩ } : State).unbound = some ⟨0, none⟩ ∧
      ({ tReady.feed.holds with hideAborted := true } : HoldSet).has .hideAborted = true ∧
      ({ tReady.feed.holds with stopRecovery := true } : HoldSet).stopRecovery = true ∧
      ({ HoldSet.empty with hideAborted := true } : HoldSet).bytes = bytes2 64 ∧
      ({ HoldSet.empty with hideAborted := true, reverse := true } : HoldSet).minus { HoldSet.empty with hideAborted := true } =
        { HoldSet.empty with reverse := true } ∧
      (tEye (.tailPending 0)).eye.state = .tailPending 0 ∧ (tEye .body).eye.state = .body := by decide

theorem test_meets_FeedOutputsFollowTheRecords :
    (tTables [] [tHide 1 .entering, tHide 2 .splitting]).hides.find? (fun x => x.state == .splitting) =
        some (tHide 2 .splitting) ∧ (tHide 2 .splitting).snapshot = some (tFields 2) ∧
      (tTables [] [tHide 1 .entering]).hides.find? (fun x => x.state == .entering) = some (tHide 1 .entering) ∧
      (∀ x ∈ (tTables [] [tHide 1 .entering]).hides, x.state ≠ .splitting) ∧
      (tReady.line 3).mode = .routed ∧ (tReady.line 3).drive = .pushPull ∧
      (({ tReady.line 3 with mode := .direct, drive := .openDrain } : Line).mode = .direct) ∧
      Part.lineFollowed { tReady.toPart with
        routes := tReady.routes.set 15 ⟨true, .level .anyBlind, .lanes 0x80000000, .follow 8⟩ } 3 = true := by decide

theorem test_meets_EncoderStepsCount :
    ({ tReady.feed with backwardRun := 20 } : Feed).backwardRun = 20 ∧ tReady.feed.backwardRun ≠ 20 ∧
      tReady.eye.state = .clear ∧ (∀ h ∈ tReady.hides, h.state ≠ .entering ∧ h.state ≠ .splitting) ∧
      (∀ n : LaneNo, (tReady.lane n).contact = .empty) ∧
      tReady.encoder = ⟨false, false⟩ ∧
      (Encoder.mk true false).a ≠ tReady.encoder.a ∧ (Encoder.mk true false).b = tReady.encoder.b ∧
      (Encoder.mk true true).a ≠ tReady.encoder.a ∧ (Encoder.mk true true).b ≠ tReady.encoder.b := by decide

theorem test_meets_EyeTransitionsFollowTheirStates :
    ((tReady.settings.eyePolarity == .darkHigh) != tReady.eye.inputHigh) = true ∧
      (({ tReady.settings with eyePolarity := .darkLow } : Settings).eyePolarity == .darkHigh) = false := by decide

theorem test_meets_EdgesAreConfirmed :
    reached (0 + BitVec.ofNat 32 tReady.settings.leadDebounce) 50 = true ∧
      reached (0 + BitVec.ofNat 32 tReady.settings.leadDebounce) 49 = false ∧
      reached (0 + BitVec.ofNat 32 tReady.settings.gapFilter) 600 = true ∧
      reached (0 + BitVec.ofNat 32 tReady.settings.gapFilter) 599 = false ∧
      (tEye (.leadPending 0)).eye.state = .leadPending 0 ∧ (tEye (.tailPending 0)).eye.state = .tailPending 0 ∧
      (tEye (.discard (some 0))).eye.state = .discard (some 0) ∧ tReady.port.acceptIn = none ∧
      tReady.eye.state = .clear ∧ (tEye .body).eye.state = .body ∧ (0 : Byte) ≠ 1 ∧ (3 : Byte) ≠ 2 := by decide

theorem test_meets_ConfirmedLeadIsBoundAdoptedOrHeld :
    let adopting := { tTables [tPlan 1 .active true 0] [] with
      settings := { Settings.powerOn with unannouncedPolicy := .adopt } }
    ({ tReady with unbound := some ⟨0, none⟩ } : State).unbound.isSome = true ∧
      (tTables [] [tHide 1 .announced]).hides.find? (fun x => x.state == .announced) = some (tHide 1 .announced) ∧
      ((tTables [] [tHide 1 .announced]).hides.map (·.ticket)).Nodup ∧ adopting.unbound = none ∧
      (∀ h ∈ adopting.hides, h.state ≠ .announced) ∧
      adopting.articles.find? (·.mark) = some (tPlan 1 .active true 0) ∧
      adopting.plan? 1 = some (tPlan 1 .active true 0) ∧ adopting.hides.length < 8 ∧
      (∀ h ∈ adopting.hides, h.ticket ≠ adopting.ticket) ∧ tReady.settings.unannouncedPolicy = .refuse ∧
      (tTables [] [tHide 1 .announced]).hide? 1 = some (tHide 1 .announced) := by decide

theorem test_meets_ConfirmedTrailGoesToOldest :
    (tTables [] [tHide 1 .splitting]).hides = [] ++ tHide 1 .splitting :: [] ∧ (tHide 1 .splitting).trail = none ∧
      (∀ x ∈ tReady.hides, ¬((x.state = .entering ∨ x.state = .splitting) ∧ x.trail = none)) ∧
      ({ tReady with unbound := some ⟨0, none⟩ } : State).unbound = some ⟨0, none⟩ := by decide

theorem test_meets_StopLineStopsTheMachine :
    (tRun .running false).feed.stopLine = false ∧ (tRun .stopped true).feed.stopLine = true ∧
      ((tTables [] [tHide 1 .entering, tHide 2 .splitting]).hides.map (·.ticket)).Nodup ∧
      (tAxis .moving (some ⟨100, 5⟩) 0).gap.state = .moving ∧
      (tRun .running false).batchRunning = false ∧
      (tTuning (tBatch .offset 0)).batchRunning = true ∧ ((tBatch .offset 0).members.map (·.lane)).Nodup ∧
      (∃ m ∈ (tBatch .offset 0).members, m.phase ≠ .finished ∧ m.saved.isSome = true) ∧
      (tHide 1 .entering).state ≠ .splitting ∧ (tHide 1 .splitting).state = .splitting := by decide

theorem test_meets_ApproachAndMaximumMarksAct :
    let mark : Pos := 0 + BitVec.ofNat 32 Settings.powerOn.throatLength - BitVec.ofNat 32 Settings.powerOn.approachMargin
    let far : Pos := 0 + BitVec.ofNat 32 Settings.powerOn.maximumHideLength
    (tTables [] [tHide 1 .entering]).hide? (1 : Half).toNat = some (tHide 1 .entering) ∧
      (tHide 1 .entering).lead = some 0 ∧ (tHide 1 .entering).approachReached = false ∧
      (tHide 1 .entering).trail = none ∧ (tHide 1 .entering).overlength = false ∧
      reached mark 7000 = true ∧ reached mark 6999 = false ∧ reached far 40000 = true ∧ reached far 39999 = false := by
  decide

theorem test_meets_KnifeCrossingSplitsOrWaits :
    let mark : Pos := 0 + BitVec.ofNat 32 Settings.powerOn.throatLength
    (tHide 1 .entering).snapshot = some (tFields 2) ∧ (tHide 1 .entering).waiting = false ∧
      reached mark 8500 = true ∧ reached mark 8499 = false ∧
      (∃ x ∈ (tTables [] [tHide 1 .entering, tHide 2 .splitting]).hides, x.state = .splitting) ∧
      (∀ x ∈ (tTables [] [tHide 1 .entering]).hides, x.state ≠ .splitting) ∧
      (tTables [] [tHide 1 .entering]).hide? (2 : Half).toNat = none ∧
      (tTables [] [tHide 1 .entering]).hide? (1 : Half).toNat = some (tHide 1 .entering) ∧
      (tTables [] [{ tHide 1 .entering with waiting := true }]).hide? (1 : Half).toNat =
        some { tHide 1 .entering with waiting := true } := by decide

theorem test_meets_TrailCrossingClears :
    let h := { tHide 1 .splitting with trail := some 0 }
    (tTables [] [h]).hide? (1 : Half).toNat = some h ∧ h.snapshot = some (tFields 2) ∧
      reached (0 + BitVec.ofNat 32 Settings.powerOn.throatLength) 8500 = true ∧
      ((tTables [] [h]).hides.map (·.ticket)).Nodup ∧
      (∀ x ∈ (tTables [] [h]).hides, x.ticket ≠ h.ticket → x.state ≠ .splitting ∧ x.waiting = false) ∧
      reached (0 + BitVec.ofNat 32 Settings.powerOn.throatLength) 8499 = false ∧
      (tTables [] [h, { tHide 2 .entering with waiting := true }]).hide? (1 : Half).toNat = some h ∧
      (tTables [] [{ tHide 2 .entering with waiting := true }]).hides.find? (fun x => x.state == .entering && x.waiting) =
        some { tHide 2 .entering with waiting := true } ∧
      (∀ x ∈ (tTables [] [tHide 2 .entering]).hides, ¬(x.state = .entering ∧ x.waiting = true)) ∧
      (tRun .stoppingAtClear false).feed.runState = .stoppingAtClear ∧ tReady.feed.runState ≠ .stoppingAtClear := by decide

/-! ## Gap axis -/

theorem test_meets_GapCommandsDecide :
    let drifted := tGap fun g => { g with state := .idle, active := some ⟨100, 5⟩, lastPair := some (106, 100) }
    let host := { tReady with settings := { Settings.powerOn with gapMethod := .host },
                              gap := { tReady.gap with staged := some ⟨100, 5⟩ } }
    (49 : Half).toNat < 50 ∧ 50 ≤ (50 : Half).toNat ∧ (800 : Half).toNat ≤ 800 ∧ 800 < (801 : Half).toNat ∧
      (∃ h ∈ (tTables [] [tHide 1 .entering]).hides, h.state = .entering) ∧
      (∀ h ∈ tReady.hides, h.state ≠ .entering) ∧ tReady.settings.gapMethod = .atClear ∧
      host.settings.gapMethod = .host ∧ host.gap.staged = some ⟨100, 5⟩ ∧ host.gap.state = .stale ∧
      host.knifeOccupied = false ∧
      Part.knifeOccupied (tTables [] [tHide 1 .splitting]).toPart = true ∧
      (tAxis .fault (some ⟨100, 5⟩) 0).gap.state = .fault ∧
      (tAxis .fault (some ⟨100, 5⟩) 0).gap.target = some ⟨100, 5⟩ ∧
      (tAxis .fault (some ⟨100, 5⟩) 0).knifeOccupied = false ∧
      (tTables [] [{ tHide 1 .entering with approachReached := true }]).hides.find?
        (fun x => x.state == .entering && x.approachReached) = some { tHide 1 .entering with approachReached := true } ∧
      (tTables [] [tHide 1 .entering]).hides.find? (fun x => x.state == .entering) = some (tHide 1 .entering) ∧
      (tHide 1 .entering).snapshot = some (tFields 2) ∧ (tTables [] [tHide 1 .entering]).knifeOccupied = false ∧
      (tGap fun g => { g with applyPending := true }).gap.applyPending = true ∧
      drifted.gap.state = .idle ∧ drifted.gap.active = some ⟨100, 5⟩ ∧ drifted.gap.lastPair = some (106, 100) ∧
      drifted.knifeOccupied = false ∧ ¬106 ≤ 100 + 5 := by decide

theorem test_meets_GaugePairsSettleAndWatch :
    (∀ h ∈ tReady.hides, h.state ≠ .splitting) ∧
      (tTables [] [tHide 1 .splitting]).hides.find? (fun x => x.state == .splitting) = some (tHide 1 .splitting) ∧
      (tHide 1 .splitting).snapshot = some (tFields 2) ∧
      (tAxis .moving (some ⟨100, 5⟩) 2).gap.target = some ⟨100, 5⟩ ∧
      (tAxis .moving (some ⟨100, 5⟩) 2).gap.settle = 2 ∧ (tAxis .moving (some ⟨100, 5⟩) 1).gap.settle ≠ 2 ∧
      withinTolerance 100 5 105 95 = true ∧ withinTolerance 100 5 106 100 = false := by decide

theorem test_meets_MovesCompleteOrFault :
    let s := tAxis .moving (some ⟨100, 5⟩) 2
    s.gap.state = .moving ∧ s.gap.target = some ⟨100, 5⟩ ∧ s.gap.settle = 2 ∧
      withinTolerance 100 5 (95 : Half).toNat (105 : Half).toNat = true ∧ tReady.gap.state ≠ .moving ∧
      (tAxis .moving (some ⟨100, 5⟩) 1).gap.settle ≠ 2 ∧
      withinTolerance 100 5 (94 : Half).toNat (105 : Half).toNat = false ∧
      withinTolerance 100 5 (95 : Half).toNat (106 : Half).toNat = false := by decide

/-! ## Reads, lanes and tuning -/

theorem test_meets_ReadsAnswerTheirLayouts :
    let s := { tLane fun l => { l with tune := .tuned, contact := .bottomed } with hides := [tHide 1 .splitting] }
    let member := (tBatch .offset 7).members.find? fun m => m.lane == 0
    tReady.port.acceptIn = none ∧ (31 : Byte).toNat = (31 : LaneNo).val ∧ 32 ≤ (32 : Byte).toNat ∧
      (3 : Byte).toNat = (3 : Fin 4).val ∧ 4 ≤ (4 : Byte).toNat ∧ (15 : Byte).toNat = (15 : Fin 16).val ∧
      16 ≤ (16 : Byte).toNat ∧ s.contactSpan = some (0, 0) ∧ tReady.contactSpan = none ∧
      s.pressure.stopLevel = false ∧ (s.lane 0).seeing = true ∧ (tReady.lane 0).seeing = false ∧
      (Part.powerOn false true).pressure.stopLevel = true ∧ (∀ h ∈ tReady.hides, h.state ≠ .splitting) ∧
      s.hides.find? (fun x => x.state == .splitting) = some (tHide 1 .splitting) ∧
      (tHide 1 .splitting).snapshot = some (tFields 2) ∧ (0 : Byte).getLsbD 3 = false ∧ member.isSome = true ∧
      (tTuning (tBatch .offset 7)).tuning.batch = some (tBatch .offset 7) ∧ tReady.tuning.batch = none ∧
      (1 : Word).getLsbD 0 = ((tBatch .offset 7).members.any fun x => x.lane == 0) ∧
      (tMaster (.opened 3)).bus.master = .opened 3 ∧ (flagByte [true, false, true]).getLsbD 2 = true := by decide

theorem test_meets_LaneServiceCommandsDecide :
    ((tLane fun l => { l with service := .parked }).lane 0).service = .parked ∧
      ((tLane fun l => { l with service := .faulted .drive }).lane 0).service = .faulted .drive ∧
      ((tLane fun l => { l with service := .faulted .sensor }).lane 0).service = .faulted .sensor ∧
      ((tLane fun l => { l with service := .faulted .board }).lane 0).service = .faulted .board ∧
      ((tLane fun l => { l with tune := .tuning }).lane 0).tune = .tuning ∧ (tReady.lane 0).service = .inService ∧
      (tReady.lane 0).tune ≠ .tuning ∧ (0 : Byte).toNat = (0 : LaneNo).val ∧ 32 ≤ (32 : Byte).toNat := by decide

theorem test_meets_LaneAndTuneWritesDecide :
    laneSettingsOperand ⟨7, 0, 1, 1, 256, 0, 2, 1, 0⟩ = none ∧
      (laneSettingsOperand ⟨8, 0, 1, 1, 256, 5000, 2, 1, 0⟩).map (·.contactLimit) = some 5000 ∧
      calibrationOperand ⟨1, 1, 0⟩ = some (some ⟨1, 0⟩) ∧ calibrationOperand ⟨0, 0, 0⟩ = some none ∧
      ((tLane fun l => { l with contact := .contact, distance := 5000 }).lane 0).contact ≠ .empty ∧
      5000 ≤ ((tLane fun l => { l with contact := .contact, distance := 5000 }).lane 0).distance ∧
      ((tLane fun l => { l with tune := .tuning }).lane 0).tune = .tuning ∧
      (2 : Byte).toNat = TuneMode.off.code ∧ 256 ≤ (256 : Half).toNat ∧ (3072 : Half).toNat ≤ 3072 ∧
      2 < (3 : Byte).toNat ∧ (0 : Byte).toNat = 0 ∧
      ((tLane fun l => { l with contact := .contact, distance := 5000 }).lane 0).settings.contactLimit = 0 := by decide

theorem test_meets_ReadingsAreTaken :
    let railed := tLane fun l => { l with railCount := 3 }
    let tuned := tLane fun l => { l with tune := .tuned }
    (railed.lane 0).service = .inService ∧ (railed.lane 0).railCount + 1 = 4 ∧ (tuned.lane 0).seeing = true ∧
      (tuned.lane 0).seedPending = false ∧
      ((tLane fun l => { l with tune := .tuned, seedPending := true }).lane 0).seedPending = true ∧
      (tReady.lane 0).seeing = false ∧ (tReady.lane 0).tune ≠ .tuning ∧
      ((tLane fun l => { l with tune := .tuning }).lane 0).tune = .tuning ∧
      tReady.hides.find? (fun x => x.state == .splitting) = none ∧
      (tTables [] [tHide 1 .splitting]).hides.find? (fun x => x.state == .splitting) = some (tHide 1 .splitting) ∧
      tReady.feed.holds.hideAborted = false ∧ tReady.feed.holds.stopRecovery = false ∧
      ({ HoldSet.empty with hideAborted := true } : HoldSet).hideAborted = true ∧
      tReady.tuning.batch = none ∧ (tTuning (tBatch .offset 0)).tuning.batch = some (tBatch .offset 0) ∧
      (tBatch .offset 0).running = true ∧
      (tBatch .offset 0).members.find? (fun x => x.lane == 0) =
        some ⟨0, .offset, 0, 0, none, false, some ⟨⟨16, 0⟩, 0, false, .untuned⟩⟩ ∧
      (.offset : Phase) ≠ .finished ∧
      (∀ m ∈ (tBatch .offset 0).members, m.lane = 1 → m.phase = .finished) := by decide

theorem test_meets_ContactMachineCounts :
    let l := { Lane.powerOn with lastConditioned := 64 }
    l.contact = .empty ∧ ((64 : Nat) : Int) ≤ (l.lastConditioned : Int) - (l.reference : Int) ∧ 0 + 1 < 3 ∧
      l.settings.enterDebounce ≤ ({ l with enterCount := 2 } : Lane).enterCount + 1 ∧
      ({ l with contact := .contact } : Lane).contact = .contact ∧ (47 : Int) < 64 - 16 ∧
      ({ l with contact := .bottomed } : Lane).contact = .bottomed ∧ ¬(48 : Int) < 64 - 16 ∧ (3583 : Int) < 3600 - 16 := by
  decide

theorem test_meets_ReferencesFilterAndReseed :
    let lost := tLane fun l => { l with lastConditioned := 63, reference := 0 }
    let due := tLane fun l => { l with
      contact := .contact, distance := 5000, settings := { l.settings with contactLimit := 5000 } }
    ((lost.lane 0).lastConditioned : Int) - ((lost.lane 0).reference : Int) < (lost.lane 0).settings.contactThreshold ∧
      lost.halted 0 = false ∧ (lost.lane 0).reference ≤ 4095 ∧ (due.lane 0).contact ≠ .empty ∧
      (due.lane 0).settings.contactLimit ≠ 0 ∧ (due.lane 0).settings.contactLimit ≤ (due.lane 0).distance ∧
      (tLane fun l => { l with tune := .tuned, contact := .contact }).halted 0 = true ∧
      (tReady.lane 0).contact = .empty ∧ (tReady.lane 0).settings.contactLimit = 0 ∧
      (lost.laneTuning 0).requested = false ∧ (lost.laneTuning 0).settings.automatic = false ∧
      ¬(63 : Nat) ≥ 64 := by decide

theorem test_meets_TuneStartDecides :
    tReady.batchRunning = false ∧ tReady.knifeOccupied = false ∧
      (∀ h ∈ tReady.hides, h.state = .entering → h.approachReached = false) ∧
      (0x80000000 : Word).getLsbD 31 = true ∧ (tReady.laneTuning 31).settings.mode ≠ .off ∧
      (tReady.lane 31).service = .inService ∧ (∀ n : LaneNo, (0 : Word).getLsbD n.val = false) ∧
      (tTuning (tBatch .offset 0)).batchRunning = true ∧
      Part.knifeOccupied (tTables [] [tHide 1 .splitting]).toPart = true ∧
      (∃ h ∈ (tTables [] [{ tHide 1 .entering with approachReached := true }]).hides,
        h.state = .entering ∧ h.approachReached = true) := by decide

theorem test_meets_TuneAbortDecides :
    let b := tBatch .offset 0
    tReady.batchRunning = false ∧ (tTuning b).tuning.batch = some b ∧ b.running = true ∧
      (b.members.map (·.lane)).Nodup ∧ (∀ m ∈ b.members, m.phase ≠ .finished → m.saved.isSome = true) ∧
      (∀ n : LaneNo, ((tTuning b).laneTuning n).requested = false) ∧
      (Part.laneTuning ((tTuning b).setLaneTuning 1 { (tTuning b).laneTuning 1 with requested := true }) 1).requested = true := by decide

theorem test_meets_BatchEventsFollowTheirRules :
    let wish := tLane fun l => { l with tune := .tuned }
    let want := { wish.laneTuning 0 with
      requested := true, holdoff := some 1, settings := { (wish.laneTuning 0).settings with automatic := true } }
    let asked := { wish with toPart := wish.toPart.setLaneTuning 0 want }
    (∀ m ∈ (tBatch .finished 0).members, m.phase = .finished) ∧ (tBatch .finished 0).running = true ∧
      (∃ m ∈ (tBatch .verify 0).members, m.phase ≠ .finished) ∧ tReady.batchRunning = false ∧
      (∀ n : LaneNo, (tReady.laneTuning n).requested = false) ∧ (asked.laneTuning 0).requested = true ∧
      (asked.laneTuning 0).settings.automatic = true ∧ (asked.laneTuning 0).settings.mode ≠ .off ∧
      (asked.lane 0).service = .inService ∧ (asked.lane 0).tune = .tuned ∧ asked.batchRunning = false ∧
      asked.knifeOccupied = false ∧ (∀ h ∈ asked.hides, h.state = .entering → h.approachReached = false) ∧
      (asked.laneTuning 0).holdoff.isSome = true ∧ (tReady.laneTuning 0).holdoff = none ∧
      (∀ n : LaneNo, n ≠ 0 → (asked.laneTuning n).requested = false) ∧
      (asked.setLane 0 { asked.lane 0 with service := .parked }).batchRunning = false ∧
      ((asked.setLane 0 { asked.lane 0 with service := .parked }).laneTuning 0).requested = true ∧
      ((asked.setLane 0 { asked.lane 0 with service := .parked }).lane 0).service ≠ .inService := by decide

theorem test_meets_TuningPhasesClose :
    let m : Member := ⟨0, .gain 4 1 0, 7, 0, none, false, none⟩
    Part.member? (tTuning (tBatch .offset 7)).toPart 0 = some ((tBatch .offset 7).members.getD 0 m) ∧
      (tBatch .offset 7).members.all (fun x => !(x.phase == .finished)) = true ∧ 8 ≤ 7 + 1 ∧ ¬6 + 1 ≥ 8 ∧
      (512 - 512 * 10 / 100 ≤ 461 ∧ 461 ≤ 512 + 512 * 10 / 100) ∧
      ¬(512 - 512 * 10 / 100 ≤ 460 ∧ 460 ≤ 512 + 512 * 10 / 100) ∧ m.phase = .gain 4 1 0 ∧
      (if 2049 ≤ 2048 then 1 + 1 else 1) = 1 ∧ (if 2048 ≤ 2048 then 1 + 1 else 1) = 2 ∧ 2048 < 4098 / 2 ∧
      ({ m with phase := .verify } : Member).phase = .verify ∧ (tBatch .offset 7).origin = .host ∧
      ({ tBatch .offset 7 with origin := .automatic } : Batch).origin = .automatic ∧
      (∃ x ∈ (tBatch .verify 7).members, x.saved.isSome = true) ∧ (511 : Nat) < 512 ∧ m.clamped = false := by decide

/-! ## Pressures and the drive bus -/

theorem test_meets_PressuresFollowTheirCases :
    let s := tLane fun l => { l with tune := .tuned, contact := .contact }
    let p : Part := { s.toPart with hides := [tHide 1 .splitting] }
    p.pressure.stopLevel = false ∧ (p.lane 0).service = .inService ∧ (p.lane 0).tune = .tuned ∧
      (p.lane 0).contact ≠ .empty ∧ p.hides.find? (fun x => x.state == .splitting) = some (tHide 1 .splitting) ∧
      (tHide 1 .splitting).snapshot = some (tFields 2) ∧ ¬((tReady.lane 0).tune = .tuned) ∧
      (∀ h ∈ s.hides, h.state ≠ .splitting) ∧ (Part.powerOn false true).pressure.stopLevel = true := by decide

theorem test_meets_ArbiterSelectsInTurn :
    (tMaster .idle).bus.master = .idle ∧ (tMaster .releasing).bus.master = .releasing ∧
      (tMaster .releasing).bus.master ≠ .idle ∧ (∀ k, tReady.bus.boards[0] ≠ .faulted k) ∧
      (tReady.drive 0).state = .waiting ∧ (tReady.lane 0).service ≠ .faulted .drive ∧
      [tReady.bus.pointer + 1, tReady.bus.pointer + 2, tReady.bus.pointer + 3, tReady.bus.pointer].find?
        (fun _ => true) = some 1 ∧
      (Part.drive (tReady.setDrive 31 ⟨.settled, some 40, 0⟩) 31).state = .settled := by
  refine ⟨rfl, rfl, by decide, ?_, rfl, by decide, rfl, by decide⟩
  intro k h
  cases h

theorem test_meets_BoardsAnswerFaultAndRecover :
    (∀ b, (tMaster .idle).bus.master ≠ .selecting b) ∧ (tMaster (.selecting 3)).bus.master = .selecting 3 ∧
      4 ≤ (4 : Byte).toNat ∧ (3 : Byte).toNat = (3 : BoardNo).val ∧
      (tReady.bus.boards.set 3 (.faulted .timeout))[3] = .faulted .timeout ∧
      (tReady.lane 31).service ≠ .faulted .board ∧ (31 : LaneNo).val / 8 = (3 : BoardNo).val ∧
      (23 : LaneNo).val / 8 ≠ (3 : BoardNo).val := by decide

theorem test_meets_SlotsIssueFrames :
    (∀ b, (tMaster .idle).bus.master ≠ .opened b ∧ (tMaster .idle).bus.master ≠ .draining b) ∧
      (tMaster (.opened 0)).bus.master = .opened 0 ∧ (tMaster (.opened 0)).bus.dueNext = none ∧
      ((tMaster (.opened 0)).drive 0).state = .waiting ∧ (tMaster (.draining 3)).bus.master = .draining 3 ∧
      (30 : LaneNo).val = 8 * (3 : BoardNo).val + 2 * (3 : Fin 4).val ∧
      (31 : LaneNo).val = 8 * (3 : BoardNo).val + 2 * (3 : Fin 4).val + 1 := by decide

theorem test_meets_EchoesAreJudged :
    let f : BusFrame := ⟨3, some 40, none⟩
    let s := { tMaster (.opened 3) with bus := { (tMaster (.opened 3)).bus with
      dueNext := some f, drives := tReady.bus.drives.set 30 ⟨.inFlight 40, none, 1⟩ } }
    s.bus.dueNext = some f ∧ s.bus.resetDrain = false ∧ (15 : Fin 16).val = 4 * (3 : BoardNo).val + f.pair.val ∧
      (14 : Fin 16).val ≠ 4 * (3 : BoardNo).val + f.pair.val ∧ (s.drive 30).state = .inFlight 40 ∧
      (s.drive 30).retry = 1 ∧ (tMaster (.opened 3)).bus.dueNext = none ∧
      ({ s with bus := { s.bus with resetDrain := true } } : State).bus.resetDrain = true ∧
      ({ s with bus := { s.bus with resetDrain := true } } : State).bus.dueNext = some f ∧
      (30 : LaneNo).val / 8 = (3 : BoardNo).val ∧ (30 : LaneNo).val = 8 * (3 : BoardNo).val + 2 * f.pair.val ∧
      (31 : LaneNo).val = 8 * (3 : BoardNo).val + 2 * f.pair.val + 1 ∧
      (∀ kind ∈ [LaneFaultKind.sensor, LaneFaultKind.drive, LaneFaultKind.board],
        ((tLane fun l => { l with service := .faulted kind }).lane 0).service = .faulted kind) := by
  decide

/-! ## Reactions -/

theorem test_meets_ReactionCommandsDecide :
    let o : RouteOperands := ⟨1, 0, 1, 3, 15, 1, 0⟩
    16 ≤ (16 : Byte).toNat ∧ (15 : Byte).toNat = (15 : Fin 16).val ∧ (routeFieldsOperand o).isSome = true ∧
      routeFieldsOperand { o with lineSet := 16 } = none ∧ routeFieldsOperand { o with pulseWidth := 0 } = none ∧
      4 ≤ (4 : Byte).toNat ∧ (3 : Byte).toNat = (3 : Fin 4).val ∧ 16 ≤ (16 : Byte).toNat ∧ (15 : Byte).toNat < 16 ∧
      ((0 : Byte) = 0 ∧ (1 : Byte).getLsbD 0 = true) ∧ ((0 : Byte) = 0 ∧ (6 : Byte).getLsbD 0 = false) ∧
      routeFieldsOperand ⟨1, 35, 0, 6, 15, 0, 0⟩ = some ⟨true, .level .feedEnabled, .none, .follow 15⟩ ∧
      routeFieldsOperand ⟨0, 17, 15, 7, 0, 0, 3⟩ = some ⟨false, .event .tallyReached, .tallies 15, .tallyStep 3⟩ ∧
      routeFieldsOperand ⟨0, 17, 16, 7, 0, 0, 3⟩ = none ∧
      routeFieldsOperand ⟨1, 9, 65534, 4, 1, 0, 0⟩ = some ⟨true, .event .hideCleared, .article 65534, .setLines 1⟩ ∧
      routeFieldsOperand ⟨1, 9, 65535, 4, 1, 0, 0⟩ = none ∧ routeFieldsOperand ⟨1, 35, 0, 4, 1, 0, 0⟩ = none := by decide

theorem test_meets_EventsActThroughRoutes :
    let r : Route := ⟨true, .event .hideCleared, .article 0, .tallyStep 3⟩
    let e : Event := .hideCleared 1 1
    let p : Part := { tReady.toPart with routes := tReady.routes.set 15 r }
    (p.routes[15]).enabled = true ∧ (p.routes[15]).source = .event e.kind ∧ (p.routes[15]).filter.passes e = true ∧
      (∀ j : Fin 16, j ≠ 15 → (p.routes[j.val]).enabled = false) ∧ (p.routes[15]).task = .tallyStep 3 ∧
      (p.tallies[3]).frozen = false ∧ e.kind ≠ .tallyReached := by decide

theorem test_meets_RoutesActInAscendingOrder :
    let e : Event := .gapMoveDone 100
    let p : Part := { tReady.toPart with routes := (tReady.routes.set 0
      ⟨true, .event .gapMoveDone, .none, .tallyStep 0⟩).set 15 ⟨true, .event .tallyReached, .tallies 1, .attend⟩ }
    let q : Part := { tReady.toPart with routes := (tReady.routes.set 0
      ⟨true, .event .gapMoveDone, .none, .setLines 1⟩).set 15 ⟨true, .event .gapMoveDone, .none, .clearLines 1⟩ }
    (p.routes[0]).source = .event e.kind ∧ (p.routes[15]).source = .event .tallyReached ∧
      (p.routes[15]).filter = .tallies 1 ∧ (∀ k : Fin 16, k ≠ 0 → k ≠ 15 → (p.routes[k.val]).enabled = false) ∧
      (p.tallies[0]).frozen = false ∧ (q.routes[15]).source = .event e.kind ∧ (q.routes[15]).filter.passes e = true ∧
      (0 : Fin 16) < 15 ∧ e.kind ≠ .tallyReached := by decide

theorem test_meets_two_routes_on_a_tally :
    let e : Event := .tallyReached 2 5
    let p : Part := { tReady.toPart with routes := (tReady.routes.set 0
      ⟨true, .event .tallyReached, .tallies 4, .tallyStep 3⟩).set 15 ⟨true, .event .tallyReached, .tallies 4, .attend⟩ }
    (p.routes[0]).source = .event e.kind ∧ (p.routes[0]).filter.passes e = true ∧
      (p.routes[15]).filter.passes e = true ∧ (p.routes[0]).filter.passes (.tallyReached 3 9) = false ∧
      (p.routes[15]).filter.passes (.tallyReached 3 9) = false := by decide

/-! ## Invariants -/

theorem test_meets_StepsKeepTheBusRecords : settledMeansApplied tReady.toPart ∧ busRecordFits tReady.toPart := by
  refine ⟨fun n => ?_, by decide, by decide, by decide, by decide, by decide, fun n => ?_⟩ <;> revert n <;> decide

theorem test_meets_StepsKeepAxisHoldsAndLanes :
    gapRecordFits tReady.toPart ∧ holdsMirrorTheirBlocks tReady.toPart ∧ laneRecordsFit tReady.toPart := by
  refine ⟨by unfold gapRecordFits; decide, by unfold holdsMirrorTheirBlocks; decide, fun n => ?_⟩
  unfold laneRecordFits
  revert n
  decide

theorem test_meets_StepsKeepTablesAndWantedPressures :
    tablesAgree (tTables [tPlan 1 .retiring false 1] [tHide 1 .splitting]).toPart ∧
      wantedIsDecided tReady.toPart ∧ notReadyIsHeld tReady.toPart := by
  refine ⟨by unfold tablesAgree; decide, by unfold wantedIsDecided; decide, rfl⟩

/-! ## Steps of the worked passages (13_worked_passages.md) -/

/-- What is asked of the next state of a command. -/
def tNext (c : Instr) (s : State) (ask : State → Bool) : Bool :=
  match exec c s with
  | .next t => ask t
  | .fault _ => false
  | .refused _ => false

/-- A plan of the passages: split gap, tolerance, feed speed, base pressure, reject limit. -/
def tPassage (code gap tol speed base limit : Nat) : Plan :=
  ⟨code, ⟨gap, tol, speed, base, 0, 0, 0, 1, limit⟩, .active, false, 1, 0, 0⟩

/-- A record of the passages bound to a lead. -/
def tBound (ticket : Nat) (a : Plan) (state : HideState) (lead : Pos) (trail : Option Pos) : Hide :=
  { newHide ticket 0 a.code false with state := state, lead := some lead, trail := trail, snapshot := some a.fields }

/-- "Two articles back to back": the trailing mark of ticket 50. -/
theorem test_passage_back_to_back :
    tNext (.trailMarkCrossing 50)
      (tAt 308500 { tTables [tPassage 210 220 4 220 300 0, tPassage 305 305 5 180 340 0]
        [tBound 50 (tPassage 210 220 4 220 300 0) .splitting 291500 (some 300000),
          tBound 51 (tPassage 305 305 5 180 340 0) .entering 302000 none] with
        gap := { tReady.gap with state := .idle, active := some ⟨220, 4⟩, staged := some ⟨220, 4⟩ } })
      (fun t => (t.hide? 50).map (fun h => (h.state, h.verdict)) == some (.cleared, some .none) &&
        (t.hide? 51).map (·.state) == some .entering && t.gap.state == .moving && t.gap.target == some ⟨305, 5⟩ &&
        t.gap.staged == some ⟨305, 5⟩ && t.speedReference == 180 && t.feed.holds == HoldSet.empty) = true := by decide

/-- "An unannounced hide under REFUSE": the announce that takes the unbound edge. -/
theorem test_passage_unannounced :
    tNext (.hideAnnounce 0x0D11 305)
      (tAt 400008 { tTables [tPassage 305 305 5 180 340 0] [] with
        nextTicket := 71
        unbound := some ⟨399950, none⟩
        eye := ⟨true, .body⟩ })
      (fun t => (t.hide? 71).map (fun h => (h.state, h.lead, h.approachReached)) == some (.entering, some 399950, false) &&
        t.unbound == none && t.speedReference == 180 && t.gap.staged == some ⟨305, 5⟩ && t.eye.state == .body &&
        t.port.slot.reply == [0, 71, 1, 49, 2] && t.nextTicket == 72) = true := by decide

/-- "A rejected hide, a per-hide tally and a pulse": the trailing mark of ticket 80. -/
theorem test_passage_rejected :
    tNext (.trailMarkCrossing 80)
      (tAt 8500 { tTables [tPassage 410 220 4 220 300 12]
        [{ tBound 80 (tPassage 410 220 4 220 300 12) .splitting 0 (some 0) with bottomEvents := 14 }] with
        tallies := tReady.tallies.set 2 ⟨6, 5, .perHide, false, false, false⟩
        routes := ((tReady.routes.set 4 ⟨true, .event .tallyReached, .tallies 4, .pulseLines 4 50⟩).set 7
          ⟨true, .event .hideReject, .article 410, .pulseLines 4 200⟩).set 8
          ⟨true, .event .hideReject, .article 410, .setLines 2⟩ })
      (fun t => (t.hide? 80).map (fun h => (h.state, h.verdict)) == some (.cleared, some .reject) &&
        (t.tallies[2]).count == 0 && (t.line 2).pulse == some 200000 && (t.line 1).latched &&
        t.port.attention.hideDone && (t.plan? 410).map (·.cleared) == some 1) = true := by decide

/-- "An emergency stop during splitting": the assertion. -/
theorem test_passage_stop :
    tNext .stopAssertion
      { tTables [tPassage 210 220 4 220 300 0, tPassage 305 305 5 180 340 0]
        [tBound 100 (tPassage 210 220 4 220 300 0) .splitting 0 none,
          tBound 101 (tPassage 305 305 5 180 340 0) .entering 0 none, newHide 102 0 210 false] with
        feed := { tReady.feed with runState := .running }
        eye := ⟨true, .body⟩
        gap := { tReady.gap with state := .idle, active := some ⟨220, 4⟩, staged := some ⟨220, 4⟩ } }
      (fun t => t.hides.map (fun h => (h.state, h.abortCause)) ==
          [(.aborted, some .stop), (.aborted, some .stop), (.announced, none)] &&
        t.feed.runState == .stopped && t.feed.holds == { HoldSet.empty with stopLine := true, stopRecovery := true } &&
        t.eye.state == .discard none && t.wanted 0 == 40 && t.speedReference == 100 && t.gap.state == .idle &&
        t.articles.map (·.aborted) == [1, 1] && t.port.attention.stop) = true := by decide

/-! ## One step -/

theorem test_step_takes_front :
    step { tReady with pending := [.feedRun, .feedStop] } =
      .next { tReady.answers Header.feedRun .ok [1, 0, 0] { tReady.toPart with
        feed := { tReady.feed with runState := .running } } with pending := [.feedStop] } := by rfl

theorem test_step_empty_queue_ticks :
    step State.reset = .next { State.reset with
      port := { State.reset.port with acceptIn := some 199 }
      bus := { State.reset.bus with selectTimer := some 199 } } := by rfl

theorem test_no_word_spells_a_command : decodeTableWord 16 0x1234 = none := by decide
end

section
/-! PROOFS. The plan fields (R2): what `planOperand` accepts and what it answers. -/

namespace Sys2Proof.Machine

/-- The number each operand of a plan carries, before any range is checked. -/
def planNumbers (o : PlanOperands) : PlanFields where
  splitGap := o.splitGap.toNat
  gapTolerance := o.gapTolerance.toNat
  feedSpeed := o.feedSpeed.toNat
  basePressure := o.basePressure.toNat
  edgeRelief := o.edgeRelief.toNat
  bottomRelief := o.bottomRelief.toNat
  bridgeBoost := o.bridgeBoost.toNat
  edgeBand := o.edgeBand.toNat
  rejectLimit := o.rejectLimit.toNat

/-- The table of R2; a range that begins at 0 has its upper bound alone. -/
def PlanFields.InRanges (f : PlanFields) : Prop :=
  (50 ≤ f.splitGap ∧ f.splitGap ≤ 800) ∧ (2 ≤ f.gapTolerance ∧ f.gapTolerance ≤ 50) ∧
    (50 ≤ f.feedSpeed ∧ f.feedSpeed ≤ 400) ∧ f.basePressure ≤ 600 ∧ f.edgeRelief ≤ 300 ∧ f.bottomRelief ≤ 300 ∧
    f.bridgeBoost ≤ 200 ∧ (1 ≤ f.edgeBand ∧ f.edgeBand ≤ 3) ∧ f.rejectLimit ≤ 1023

theorem inRange_eq_true_iff (low high x : Nat) : inRange low high x = true ↔ low ≤ x ∧ x ≤ high := by
  simp only [inRange, Bool.and_eq_true, decide_eq_true_eq]

/-- Operands are accepted exactly when each number is in its range, and what is accepted are those numbers. -/
theorem planOperand_eq_some_iff (o : PlanOperands) (f : PlanFields) :
    planOperand o = some f ↔ (planNumbers o).InRanges ∧ f = planNumbers o := by
  rw [planOperand, Option.ite_none_right_eq_some, Option.some_inj, eq_comm (b := f)]
  simp only [Bool.and_eq_true, inRange_eq_true_iff, Nat.zero_le, true_and, and_assoc, PlanFields.InRanges,
    planNumbers]

theorem planOperand_isSome_iff (o : PlanOperands) :
    (planOperand o).isSome = true ↔ (planNumbers o).InRanges := by
  simp only [Option.isSome_iff_exists, planOperand_eq_some_iff, exists_and_left, exists_eq, and_true]

end Sys2Proof.Machine

open Sys2Proof Sys2Proof.Machine

/-- Settles O13: acceptance is the table of R2, and the accepted fields are the operands' numbers. -/
theorem planFieldsHaveTheirRanges : Obligations.PlanFieldsHaveTheirRanges := by
  intro o
  constructor
  · rw [planOperand_isSome_iff]
    simp only [PlanFields.InRanges, planNumbers, and_assoc]
  · intro f accepted
    exact ((planOperand_eq_some_iff o f).mp accepted).2
end

section
/-! PROOFS. Eye transitions (R46, R49 to R53): the level an eye transition takes the state by, and the one field it
changes. -/

namespace Sys2Proof.Machine

/-- The level read through the polarity (R46): a low input is dark exactly under DARK_LOW. -/
theorem Part.eyeDark_eq (p : Part) :
    p.eyeDark = ((p.settings.eyePolarity == .darkLow) != p.eye.inputHigh) := by
  rw [Part.eyeDark]
  cases p.settings.eyePolarity with
  | darkHigh => exact (Bool.false_bne _).symm
  | darkLow => exact (Bool.true_bne _).symm

/-- The level once the input has changed (R46): an input that was low is dark then exactly under DARK_HIGH. -/
theorem eyeDark_setEye_not_inputHigh (p : Part) (e : EyeState) :
    (p.setEye ⟨!p.eye.inputHigh, e⟩).eyeDark = ((p.settings.eyePolarity == .darkHigh) != p.eye.inputHigh) := by
  rw [Part.eyeDark_eq, Part.setEye_settings, Part.setEye_eye]
  cases p.settings.eyePolarity with
  | darkHigh => exact (Bool.false_bne _).trans (Bool.true_bne _).symm
  | darkLow => exact (Bool.true_bne _).trans ((Bool.not_not _).trans (Bool.false_bne _).symm)

/-- An eye transition replaces the eye record alone: the level is the other one, and the state moves by the new level
at the feed position. -/
theorem takeEyeTransition_eq (p : Part) :
    takeEyeTransition p = p.setEye ⟨!p.eye.inputHigh,
      p.eye.state.transition ((p.settings.eyePolarity == .darkHigh) != p.eye.inputHigh) p.feed.position⟩ := by
  rw [← eyeDark_setEye_not_inputHigh p p.eye.state]
  rfl

theorem exec_eyeTransition (s : State) : exec .eyeTransition s = .next (s.withPart (takeEyeTransition s.toPart)) := by
  rfl

end Sys2Proof.Machine

open Sys2Proof Sys2Proof.Machine

/-- Settles O27: an eye transition replaces the eye record alone, and each state moves as R49 to R53 say. -/
theorem eyeTransitionsFollowTheirStates : Obligations.EyeTransitionsFollowTheirStates := by
  intro s dark level
  rw [exec_eyeTransition, takeEyeTransition_eq, ← level]
  refine congrArg (fun after => Host.Outcome.next (s.withPart (s.toPart.setEye ⟨!s.eye.inputHigh, after⟩))) ?_
  cases s.eye.state with
  | clear => cases dark <;> rfl
  | leadPending capture => cases dark <;> rfl
  | body => cases dark <;> rfl
  | tailPending tentative => cases dark <;> rfl
  | discard lightStart => cases dark <;> rfl
end

section
/-! PROOFS. FEED RUN, FEED STOP and FEED HOLD (R65, R66, R70): what a FEED command that is taken leaves behind, and when
FEED RUN is taken. -/

namespace Sys2Proof.Machine

/-! ## The FEED commands as command frames -/

theorem exec_feedRun (s : State) : exec .feedRun s = .next (s.run (command Header.feedRun feedRun)) := by rfl

theorem exec_feedStop (s : State) : exec .feedStop s = .next (s.run (command Header.feedStop feedStop)) := by rfl

theorem exec_feedHold (s : State) : exec .feedHold s = .next (s.run (command Header.feedHold feedHold)) := by rfl

/-! ## A FEED command that is taken -/

/-- A FEED command taken to the part `p` answers OK with the run state and the hold cause set of `p` (R65). -/
theorem State.run_command_feedTaken (s : State) (header : Byte) (body : Part → Part × Answer) (p : Part)
    (accepts : s.port.acceptIn = none) (taken : body s.toPart = feedTaken p) :
    s.run (command header body) = s.answers header .ok p.feedReply p := by
  rw [State.run_command s header body accepts, taken]
  rfl

/-- A FEED command that moves the run state to `r` changes nothing else of the part, and its reply carries `r` with the
hold cause set as it was. -/
theorem State.run_command_setRunState (s : State) (header : Byte) (body : Part → Part × Answer) (r : RunState)
    (accepts : s.port.acceptIn = none) (taken : body s.toPart = feedTaken (s.toPart.setRunState r)) :
    s.run (command header body) = s.answers header .ok (u8 r.code ++ s.feed.holds.bytes)
      { s.toPart with feed := { s.feed with runState := r } } :=
  s.run_command_feedTaken header body _ accepts taken

/-! ## When FEED RUN is taken (R65) -/

theorem feedRun_of_stopLine (p : Part) (asserted : p.feed.stopLine = true) : feedRun p = (p, refusal .state) :=
  if_pos asserted

theorem feedRun_of_not_stopLine (p : Part) (released : p.feed.stopLine = false) :
    feedRun p = feedTaken (p.setRunState .running) :=
  if_neg (Bool.eq_false_iff.mp released)

/-- The refused command leaves the part as it was, but for the port. -/
theorem exec_feedRun_of_stopLine (s : State) (accepts : s.port.acceptIn = none) (asserted : s.feed.stopLine = true) :
    exec .feedRun s = .next (s.refuses Header.feedRun .state) := by
  rw [exec_feedRun, State.run_command s _ _ accepts, feedRun_of_stopLine _ asserted]
  rfl

/-! ## The feed enable (R73) -/

/-- In STOPPED the feed enable is inactive, whatever the hold cause set. -/
theorem Part.feedEnable_eq_false_of_stopped (p : Part) (stopped : p.feed.runState = .stopped) :
    p.feedEnable = false := by
  rw [Part.feedEnable, stopped]
  rfl

end Sys2Proof.Machine

open Sys2Proof Sys2Proof.Machine

/-- Settles O22: FEED RUN by the level of the STOP line, FEED STOP and FEED HOLD unconditionally; each command that is
taken changes the one field of the feed unit and answers with the feed unit it leaves. -/
theorem feedRunStopAndHoldAct : Obligations.FeedRunStopAndHoldAct := by
  refine ⟨fun s accepts => ⟨exec_feedRun_of_stopLine s accepts, fun released => ?_⟩, fun s accepts => ?_,
    fun s accepts => ?_⟩
  · rw [exec_feedRun,
      s.run_command_setRunState _ _ .running accepts (feedRun_of_not_stopLine s.toPart released)]
    rfl
  · refine ⟨_, exec_feedStop s, ?_⟩
    rw [s.run_command_setRunState _ _ .stopped accepts rfl]
    exact ⟨Part.feedEnable_eq_false_of_stopped _ rfl, rfl⟩
  · rw [exec_feedHold, s.run_command_feedTaken _ _ (s.toPart.putHold .hostHold true) accepts rfl]
    rfl
end

section
/-! PROOFS. Lane pressures (R140 to R143): the contact set and its span, the edge band, the bridged lanes, and the
wanted pressure of each of the four cases. -/

namespace Sys2Proof.Machine

/-! ## Seeing lanes and the contact set -/

theorem Lane.seeing_iff (l : Lane) : l.seeing = true ↔ l.service = .inService ∧ l.tune = .tuned := by
  simp only [Lane.seeing, Bool.and_eq_true, beq_iff_eq]

theorem Lane.inContactSet_iff (l : Lane) :
    l.inContactSet = true ↔ l.service = .inService ∧ l.tune = .tuned ∧ l.contact ≠ .empty := by
  simp only [Lane.inContactSet, Lane.inContact, Bool.and_eq_true, Lane.seeing_iff, Bool.not_eq_true',
    beq_eq_false_iff_ne, and_assoc]

theorem Part.mem_contactSet (p : Part) (m : LaneNo) :
    m ∈ p.contactSet ↔
      (p.lane m).service = .inService ∧ (p.lane m).tune = .tuned ∧ (p.lane m).contact ≠ .empty := by
  simp only [Part.contactSet, allLanes, List.mem_filter, List.mem_finRange, true_and, Lane.inContactSet_iff]

theorem Part.contactSet_ascending (p : Part) : p.contactSet.Pairwise (· ≤ ·) :=
  ((List.sortedLT_finRange 32).pairwise.imp le_of_lt).filter _

/-! ## The span (R142) -/

/-- `a` is the lowest and `z` the highest lane of the contact set (R142). -/
def Part.Spans (p : Part) (a z : LaneNo) : Prop :=
  a ∈ p.contactSet ∧ z ∈ p.contactSet ∧ ∀ m ∈ p.contactSet, a ≤ m ∧ m ≤ z

theorem Part.Spans.unique {p : Part} {a z b y : LaneNo} (first : p.Spans a z) (second : p.Spans b y) :
    a = b ∧ z = y := by
  obtain ⟨ha, hz, within⟩ := first
  obtain ⟨hb, hy, within'⟩ := second
  exact ⟨le_antisymm (within b hb).1 (within' a ha).1, le_antisymm (within' z hz).2 (within y hy).2⟩

/-- The ends of a contact set that is not empty are the first and the last lane of its ascending list. -/
theorem Part.spans_head_getLast (p : Part) (ne : p.contactSet ≠ []) :
    p.Spans (p.contactSet.head ne) (p.contactSet.getLast ne) :=
  ⟨List.head_mem ne, List.getLast_mem ne,
    fun _ hm => ⟨p.contactSet_ascending.rel_head hm, p.contactSet_ascending.rel_getLast hm⟩⟩

theorem Part.contactSpan_of_nil (p : Part) (nil : p.contactSet = []) : p.contactSpan = none := by
  rw [Part.contactSpan, nil]

theorem Part.contactSpan_of_ne_nil (p : Part) (ne : p.contactSet ≠ []) :
    p.contactSpan = some ((p.contactSet.head ne).val, (p.contactSet.getLast ne).val) := by
  obtain ⟨a, rest, set⟩ := List.exists_cons_of_ne_nil ne
  simp only [Part.contactSpan, set, List.head_cons, List.getLast_eq_getLastD, List.getLastD_eq_getLast?]

theorem Part.contactSpan_eq_some_iff (p : Part) (x : Nat × Nat) :
    p.contactSpan = some x ↔ ∃ a z : LaneNo, p.Spans a z ∧ x = (a.val, z.val) := by
  by_cases ne : p.contactSet = []
  · rw [p.contactSpan_of_nil ne]
    constructor
    · exact nofun
    · rintro ⟨a, z, ⟨ha, -⟩, -⟩
      exact absurd (ne ▸ ha) List.not_mem_nil
  · rw [p.contactSpan_of_ne_nil ne, Option.some_inj]
    constructor
    · exact fun ends => ⟨_, _, p.spans_head_getLast ne, ends.symm⟩
    · rintro ⟨a, z, spans, rfl⟩
      obtain ⟨rfl, rfl⟩ := spans.unique (p.spans_head_getLast ne)
      rfl

/-! ## The edge band (R142) and the bridged lanes (R143) -/

theorem inEdgeBand_iff (span : Option (Nat × Nat)) (band n : Nat) :
    inEdgeBand span band n = true ↔
      ∃ a z, span = some (a, z) ∧ a ≤ n ∧ n ≤ z ∧ (n - a < band ∨ z - n < band) := by
  cases span with
  | none => simp [inEdgeBand]
  | some ends => simp [inEdgeBand, Prod.ext_iff, and_assoc]

theorem Part.inEdgeBand_contactSpan_iff (p : Part) (band : Nat) (n : LaneNo) :
    inEdgeBand p.contactSpan band n.val = true ↔
      ∃ a z : LaneNo, p.Spans a z ∧ a ≤ n ∧ n ≤ z ∧ (n.val - a.val < band ∨ z.val - n.val < band) := by
  simp only [inEdgeBand_iff, p.contactSpan_eq_some_iff]
  constructor
  · rintro ⟨_, _, ⟨a, z, spans, ends⟩, inside⟩
    obtain ⟨rfl, rfl⟩ := Prod.mk.inj ends
    exact ⟨a, z, spans, inside⟩
  · rintro ⟨a, z, spans, inside⟩
    exact ⟨a.val, z.val, ⟨a, z, spans, rfl⟩, inside⟩

/-- A lane is bridged exactly when a neighbour it has is blind; L0 and L31 have one neighbour each. -/
theorem Part.bridged_iff (p : Part) (n : LaneNo) :
    p.bridged n = true ↔ ∃ m : LaneNo, (m.val + 1 = n.val ∨ n.val + 1 = m.val) ∧ (p.lane m).seeing = false := by
  rw [Part.bridged, Bool.or_eq_true]
  constructor
  · rintro (below | above)
    · split at below
      next has => exact ⟨⟨n.val - 1, by omega⟩, Or.inl (Nat.sub_add_cancel has), (Bool.not_eq_true' _).mp below⟩
      next => cases below
    · split at above
      next has => exact ⟨⟨n.val + 1, has⟩, Or.inr rfl, (Bool.not_eq_true' _).mp above⟩
      next => cases above
  · rintro ⟨m, below | above, blind⟩
    · have at_m : (⟨n.val - 1, by omega⟩ : LaneNo) = m := Fin.ext (Nat.sub_eq_of_eq_add below.symm)
      exact Or.inl (by rw [dif_pos (by omega), at_m, blind]; rfl)
    · have at_m : (⟨n.val + 1, above ▸ m.isLt⟩ : LaneNo) = m := Fin.ext above
      exact Or.inr (by rw [dif_pos (above ▸ m.isLt), at_m, blind]; rfl)

/-! ## The four cases (R140) -/

theorem Part.pressureFor_of_stop (p : Part) (span : Option (Nat × Nat)) (n : LaneNo)
    (stop : p.pressure.stopLevel = true) : p.pressureFor span n = p.settings.parkPressure := by
  simp only [Part.pressureFor, Part.pressureCase, stop, if_true]

theorem Part.pressureFor_of_blind (p : Part) (span : Option (Nat × Nat)) (n : LaneNo)
    (blind : (p.lane n).seeing = false) : p.pressureFor span n = p.settings.parkPressure := by
  cases stop : p.pressure.stopLevel with
  | true => exact p.pressureFor_of_stop span n stop
  | false => simp [Part.pressureFor, Part.pressureCase, stop, blind]

theorem Part.pressureFor_of_idle (p : Part) (span : Option (Nat × Nat)) (n : LaneNo)
    (stop : p.pressure.stopLevel = false) (seeing : (p.lane n).seeing = true) (idle : p.splitting? = none) :
    p.pressureFor span n = p.settings.idlePressure := by
  simp [Part.pressureFor, Part.pressureCase, stop, seeing, idle]

theorem Part.pressureFor_of_split (p : Part) (span : Option (Nat × Nat)) (n : LaneNo) {h : Hide} {f : PlanFields}
    (stop : p.pressure.stopLevel = false) (seeing : (p.lane n).seeing = true) (split : p.splitting? = some h)
    (snapshot : h.snapshot = some f) : p.pressureFor span n = clampPressure (p.splitSum span f n) := by
  simp [Part.pressureFor, Part.pressureCase, stop, seeing, split, snapshot]

theorem Part.splitting?_eq_none (p : Part) : p.splitting? = none ↔ ∀ h ∈ p.hides, h.state ≠ .splitting := by
  simp only [Part.splitting?, List.find?_eq_none, beq_iff_eq, ne_eq]

theorem clampPressure_eq (x : Int) : (clampPressure x : Int) = max 0 (min 600 x) := by
  rw [clampPressure, Config.pressureMax]
  omega

end Sys2Proof.Machine

open Sys2Proof Sys2Proof.Machine

/-- Settles O48: the first case that applies decides the pressure; in the split case the edge band is that of the
contact set's span, the bridging that of the neighbours, and the sum is clamped once. -/
theorem pressuresFollowTheirCases : Obligations.PressuresFollowTheirCases := by
  intro p n
  refine ⟨p.pressureFor_of_stop _ n, fun _ blind => p.pressureFor_of_blind _ n ?_, fun stop service tune => ?_⟩
  · rwa [← Lane.seeing_iff, Bool.not_eq_true] at blind
  have seeing : (p.lane n).seeing = true := (Lane.seeing_iff _).mpr ⟨service, tune⟩
  refine ⟨fun idle => p.pressureFor_of_idle _ n stop seeing (p.splitting?_eq_none.mpr idle), ?_⟩
  intro h f inContact edge bridged split snapshot contact edgeBand bridging
  have inContact_eq : inContact = (· ∈ p.contactSet) :=
    funext fun m => propext ((contact m).trans (p.mem_contactSet m).symm)
  have edge_eq : inEdgeBand p.contactSpan f.edgeBand n.val = edge := by
    rw [Bool.eq_iff_iff, edgeBand, p.inEdgeBand_contactSpan_iff, inContact_eq]
    simp only [Part.Spans, and_assoc]
  have bridged_eq : p.bridged n = bridged := by
    rw [Bool.eq_iff_iff, bridging, p.bridged_iff]
    simp only [← Lane.seeing_iff, Bool.not_eq_true]
  rw [p.pressureFor_of_split _ n stop seeing split snapshot, clampPressure_eq, Part.splitSum, edge_eq, bridged_eq]
end

section
/-! PROOFS. What a command does to the part (`effect`), and the relation `Keeps` between two parts under which every
invariant of the part is kept: the invariants hold of every step once `Keeps` holds of every command. -/

namespace Sys2Proof.Machine

/-! ## The effect of a command -/

/-- What a command does to the part: one operation for each row of the table. -/
def effect (i : Instr) : Part → Part :=
  match i with
  | .articleWrite code plan mark => command Header.articleWrite (articleWrite code plan mark)
  | .articleRead code => command Header.articleRead (articleRead code)
  | .articleFindNext code => command Header.articleFindNext (articleFindNext code)
  | .articleRetire code => command Header.articleRetire (articleRetire code)
  | .hideAnnounce tag code => thenArbiter (command Header.hideAnnounce (hideAnnounce tag code))
  | .hideAmend ticket tag code => command Header.hideAmend (hideAmend ticket tag code)
  | .hideRead ticket => command Header.hideRead (hideRead ticket)
  | .hideFind tag => command Header.hideFind (hideFind tag)
  | .hideList => command Header.hideList hideList
  | .hideAbort ticket => thenArbiter (command Header.hideAbort (hideAbort ticket))
  | .hideRetire ticket => command Header.hideRetire (hideRetire ticket)
  | .feedRun => command Header.feedRun feedRun
  | .feedStop => command Header.feedStop feedStop
  | .feedStopAtClear => command Header.feedStopAtClear feedStopAtClear
  | .feedStopBeforeNext => command Header.feedStopBeforeNext feedStopBeforeNext
  | .feedHold => command Header.feedHold feedHold
  | .feedClearHold causes => thenArbiter (command Header.feedClearHold (feedClearHold causes))
  | .feedRead => command Header.feedRead feedRead
  | .eyeForceLead operand => thenArbiter (command Header.eyeForce (eyeForce operand))
  | .eyeForceTail operand => thenArbiter (command Header.eyeForce (eyeForce operand))
  | .eyeRead => command Header.eyeRead eyeRead
  | .gapSet gap => command Header.gapSet (gapSet gap)
  | .gapApply => command Header.gapApply gapApply
  | .gapRecover => command Header.gapRecover gapRecover
  | .gapRead => command Header.gapRead gapRead
  | .lanePark lane => thenArbiter (command Header.lanePark (onLane lane parkLane))
  | .laneUnpark lane => thenArbiter (command Header.laneUnpark (onLane lane unparkLane))
  | .laneRecover lane => thenArbiter (command Header.laneRecover (onLane lane recoverLane))
  | .laneRead lane => command Header.laneRead (onLane lane readLane)
  | .laneWrite lane settings calibration => thenArbiter (command Header.laneWrite (onLane lane (laneWrite settings calibration)))
  | .lanePressure lane => command Header.lanePressure (onLane lane readPressure)
  | .tuneStart mask => thenArbiter (command Header.tuneStart (tuneStart mask))
  | .tuneAbort => thenArbiter (command Header.tuneAbort tuneAbort)
  | .tuneWrite lane settings => command Header.tuneWrite (onLane lane (tuneWrite settings))
  | .tuneRead lane => command Header.tuneRead (onLane lane readTune)
  | .boardRecover board => command Header.boardRecover (onBoard board boardRecover)
  | .boardRead board => command Header.boardRead (onBoard board readBoard)
  | .routeWrite index route => command Header.routeWrite (routeWrite index route)
  | .routeRead index => command Header.routeRead (routeRead index)
  | .lineWrite line mode drive level => command Header.lineWrite (lineWrite line mode drive level)
  | .lineClear lines => command Header.lineClear (lineClear lines)
  | .lineRead line => command Header.lineRead (lineRead line)
  | .tallyWrite tally threshold scope flags => command Header.tallyWrite (tallyWrite tally threshold scope flags)
  | .tallyReset tally => command Header.tallyReset (tallyReset tally)
  | .tallyRead tally => command Header.tallyRead (tallyRead tally)
  | .machineReset => command Header.machineReset machineReset
  | .machineReadAttention => command Header.machineReadAttention readAttention
  | .machineWriteAttentionMask causes => command Header.machineWriteAttentionMask (writeAttentionMask causes)
  | .machineReadAttentionMask => command Header.machineReadAttentionMask readAttentionMask
  | .machineReadSettings => command Header.machineReadSettings readSettings
  | .machineWriteSettings settings => thenArbiter (command Header.machineWriteSettings (writeSettings settings))
  | .linkFetch clocked => fetch clocked
  | .malformedFrame header _ => malformed header
  | .frameDisregarded clocks => disregard clocks
  | .powerOn eyeHigh stopAsserted => fullReset eyeHigh stopAsserted
  | .resetPin eyeHigh stopAsserted => fullReset eyeHigh stopAsserted
  | .forwardStep => thenArbiter fun p => takeEncoder p.encoder.forward p
  | .backwardStep => fun p => takeEncoder p.encoder.backward p
  | .stopAssertion => thenArbiter takeStopAssertion
  | .stopRelease => thenArbiter takeStopRelease
  | .eyeTransition => takeEyeTransition
  | .leadDebounceTravelled => thenArbiter leadDebounceTest
  | .gapFilterTravelled => thenArbiter gapFilterTest
  | .discardLightTravelled => discardTest
  | .approachPointCrossing ticket => testApproach ticket.toNat
  | .knifeLineCrossing ticket => thenArbiter (testKnife ticket.toNat)
  | .trailMarkCrossing ticket => thenArbiter (testTrail ticket.toNat)
  | .maximumLengthCrossing ticket => testMaximum ticket.toNat
  | .gaugePair left right => takeGaugePair left.toNat right.toNat
  | .moveCompletion left right => completeMoveWith left.toNat right.toNat
  | .moveTimerExpiry => expireMoveTimer
  | .laneReading lane raw => thenArbiter fun p => takeReading lane raw.toNat (startScan lane p)
  | .laneReseed lane => thenArbiter (reseedTest lane)
  | .batchCompletion => thenArbiter completeBatch
  | .formationTest => thenArbiter formationTest
  | .holdoffTimerExpiry lane => thenArbiter (expireHoldoff lane)
  | .arbiterTest => arbiterTest
  | .selectAnswer answer => takeSelectAnswer answer
  | .selectTimerExpiry => expireSelectTimer
  | .busSlot received => takeSlot received
  | .echoArrival echo => takeEchoArrival echo
  | .releaseIntervalExpiry => expireRelease
  | .pulseTimerExpiry line => expirePulse line
  | .framesAccepted => acceptFrames

/-- Every command answers a next state: its effect on the part, with the queue as it was. -/
theorem exec_eq (c : Instr) (s : State) : exec c s = .next (s.withPart (effect c s.toPart)) := by
  cases c <;> rfl

end Sys2Proof.Machine

open Sys2Proof Sys2Proof.Machine

/-- Settles O1: the front command is taken from the queue. -/
theorem stepTakesFrontCommand : Obligations.StepTakesFrontCommand := fun _ _ _ => rfl

/-- Settles O2: the next state is the command's effect. -/
theorem everyCommandAnswersNext : Obligations.EveryCommandAnswersNext :=
  fun c s => ⟨effect c s.toPart, exec_eq c s⟩
end

section
/-! PROOFS. The relation `Keeps`: what holds between two parts when every invariant of the first holds of the second;
and the changes it allows: those of the records no invariant reads, a recompute, a readiness test, a record changed. -/

namespace Sys2Proof.Machine

/-! ## Keeping the invariants -/

/-- What `holdsMirrorTheirBlocks` asks but for the STOP level: a STOP assertion changes the STOP line first and the level
that the pressure unit has taken last. -/
def holdsMirrorButLevel (p : Part) : Prop :=
  p.feed.holds.stopLine = p.feed.stopLine ∧
    (p.feed.stopLine = true → p.feed.holds.stopRecovery = true ∧ p.feed.runState = .stopped) ∧
    (p.feed.holds.gapFault = true ↔ p.gap.state = .fault) ∧
    p.feed.holds.tuning = p.batchRunning ∧ p.feed.backwardRun ≤ 20

/-- The pressure unit has taken the level of the STOP line (R148). -/
def levelTaken (p : Part) : Prop := p.pressure.stopLevel = p.feed.stopLine

theorem holdsMirror_iff (p : Part) : holdsMirrorTheirBlocks p ↔ holdsMirrorButLevel p ∧ levelTaken p := by
  unfold holdsMirrorTheirBlocks holdsMirrorButLevel levelTaken
  tauto

/-- The invariants of the bus, the axis with the holds, the lanes and the tables are kept from `p` to `q`. -/
structure Sound (p q : Part) : Prop where
  bus : settledMeansApplied p → busRecordFits p → settledMeansApplied q ∧ busRecordFits q
  axis : gapRecordFits p → holdsMirrorButLevel p → gapRecordFits q ∧ holdsMirrorButLevel q
  level : levelTaken p → levelTaken q
  lanes : laneRecordsFit p → laneRecordsFit q
  tables : tablesAgree p → tablesAgree q

/-- Every invariant is kept from `p` to `q`; the wanted pressures and GAP_NOT_READY of a part whose tables agree. -/
structure Keeps (p q : Part) : Prop extends Sound p q where
  decided : tablesAgree p → wantedIsDecided p → wantedIsDecided q
  ready : tablesAgree p → notReadyIsHeld p → notReadyIsHeld q

theorem Sound.refl (p : Part) : Sound p p := ⟨And.intro, And.intro, id, id, id⟩

theorem Sound.trans {p q r : Part} (h : Sound p q) (k : Sound q r) : Sound p r where
  bus x y := k.bus (h.bus x y).1 (h.bus x y).2
  axis x y := k.axis (h.axis x y).1 (h.axis x y).2
  level x := k.level (h.level x)
  lanes x := k.lanes (h.lanes x)
  tables x := k.tables (h.tables x)

theorem Keeps.refl (p : Part) : Keeps p p := ⟨.refl p, fun _ => id, fun _ => id⟩

theorem Keeps.trans {p q r : Part} (h : Keeps p q) (k : Keeps q r) : Keeps p r where
  toSound := h.toSound.trans k.toSound
  decided t x := k.decided (h.tables t) (h.decided t x)
  ready t x := k.ready (h.tables t) (h.ready t x)

theorem foldl_sound {α : Type} (f : Part → α → Part) (h : ∀ p a, Sound p (f p a)) (l : List α) (p : Part) :
    Sound p (l.foldl f p) := by
  induction l generalizing p with
  | nil => exact .refl p
  | cons a t ih => exact (h p a).trans (ih _)

theorem foldl_keeps {α : Type} (f : Part → α → Part) (h : ∀ p a, Keeps p (f p a)) (l : List α) (p : Part) :
    Keeps p (l.foldl f p) := by
  induction l generalizing p with
  | nil => exact .refl p
  | cons a t ih => exact (h p a).trans (ih _)

/-! ## What the wanted pressures and the readiness read -/

/-- The plan fields that decide the pressures: those of the SPLITTING record (R140). -/
def Part.splitFields (p : Part) : Option PlanFields := p.splitting?.bind (·.snapshot)

/-- The gap that readiness asks for: that of the oldest record past its approach point (R89). -/
def Part.awaitedGap (p : Part) : Option (Option Nat) := p.oldestApproached?.map fun h => h.snapshot.map (·.splitGap)

theorem Part.pressureFor_eq (p : Part) (span : Option (Nat × Nat)) (n : LaneNo) : p.pressureFor span n =
    if p.pressure.stopLevel = true ∨ (p.lane n).seeing = false then p.settings.parkPressure
    else match p.splitFields with
      | none => p.settings.idlePressure
      | some f => clampPressure (p.splitSum span f n) := by
  unfold Part.pressureFor Part.pressureCase Part.splitFields
  cases p.pressure.stopLevel <;> cases (p.lane n).seeing <;> cases p.splitting? with
  | none => simp
  | some h => cases e : h.snapshot <;> simp [e]

/-- The wanted pressures read of each lane whether it is seeing and its contact state, and of the rest the fields of the
SPLITTING record, two settings and the STOP level. -/
theorem Part.pressures_of_look {p q : Part} (seeing : ∀ n, (q.lane n).seeing = (p.lane n).seeing)
    (contact : ∀ n, (q.lane n).contact = (p.lane n).contact) (split : q.splitFields = p.splitFields)
    (idle : q.settings.idlePressure = p.settings.idlePressure)
    (park : q.settings.parkPressure = p.settings.parkPressure)
    (stop : q.pressure.stopLevel = p.pressure.stopLevel) : q.pressures = p.pressures := by
  have span : q.contactSpan = p.contactSpan := by
    simp only [Part.contactSpan, Part.contactSet, Lane.inContactSet, Lane.inContact, seeing, contact]
  have bridged : ∀ n, q.bridged n = p.bridged n := fun n => by simp only [Part.bridged, seeing]
  have sum : ∀ f n, q.splitSum p.contactSpan f n = p.splitSum p.contactSpan f n := fun f n => by
    simp only [Part.splitSum, bridged, contact]
  simp only [Part.pressures, Part.pressureFor_eq, span, sum, seeing, split, idle, park, stop]

theorem Part.notReady_eq (p : Part) : p.notReady = p.awaitedGap.any fun g => !p.gap.idleOn g := by
  unfold Part.notReady Part.awaitedGap
  cases p.oldestApproached? <;> rfl

/-- Readiness reads the awaited gap, the axis state and the active gap. -/
theorem Part.notReady_of_look {p q : Part} (gap : q.awaitedGap = p.awaitedGap) (state : q.gap.state = p.gap.state)
    (active : q.gap.active = p.gap.active) : q.notReady = p.notReady := by
  simp only [Part.notReady_eq, GapAxis.idleOn, gap, state, active]

/-! ## Changes of what no invariant reads -/

/-- The parts agree in all that the invariants read, but that the run state may have become STOPPED. -/
structure SameCore (p q : Part) : Prop where
  bus : q.bus = p.bus
  pressure : q.pressure = p.pressure
  lanes : q.lanes = p.lanes
  articles : q.articles = p.articles
  hides : q.hides = p.hides
  idlePressure : q.settings.idlePressure = p.settings.idlePressure
  parkPressure : q.settings.parkPressure = p.settings.parkPressure
  axisState : q.gap.state = p.gap.state
  active : q.gap.active = p.gap.active
  target : q.gap.target = p.gap.target
  settle : q.gap.settle = p.gap.settle
  moveTimer : q.gap.moveTimer = p.gap.moveTimer
  stopLine : q.feed.stopLine = p.feed.stopLine
  backwardRun : q.feed.backwardRun = p.feed.backwardRun
  stopped : p.feed.runState = .stopped → q.feed.runState = .stopped
  holdStopLine : q.feed.holds.stopLine = p.feed.holds.stopLine
  holdStopRecovery : q.feed.holds.stopRecovery = p.feed.holds.stopRecovery
  holdGapFault : q.feed.holds.gapFault = p.feed.holds.gapFault
  holdGapNotReady : q.feed.holds.gapNotReady = p.feed.holds.gapNotReady
  holdTuning : q.feed.holds.tuning = p.feed.holds.tuning
  running : q.batchRunning = p.batchRunning

/-- The records of the bus and the wanted pressures are all that the bus invariants read. -/
theorem busFits_congr {p q : Part} (bus : q.bus = p.bus) (wanted : q.pressure.wanted = p.pressure.wanted) :
    settledMeansApplied p → busRecordFits p → settledMeansApplied q ∧ busRecordFits q := by
  intro settled fits
  constructor
  · simpa only [settledMeansApplied, Part.drive, Part.wanted, bus, wanted] using settled
  · simpa only [busRecordFits, Part.drive, bus] using fits

theorem laneRecordsFit_congr {p q : Part} (lanes : q.lanes = p.lanes) : laneRecordsFit p → laneRecordsFit q := by
  intro fits
  simpa only [laneRecordsFit, Part.lane, lanes] using fits

theorem tablesAgree_congr {p q : Part} (articles : q.articles = p.articles) (hides : q.hides = p.hides) :
    tablesAgree p → tablesAgree q := by
  intro agree
  simpa only [tablesAgree, Part.naming, Part.plan?, articles, hides] using agree

theorem wantedIsDecided_congr {p q : Part} (wanted : q.pressure.wanted = p.pressure.wanted)
    (pressures : q.pressures = p.pressures) : wantedIsDecided p → wantedIsDecided q := by
  intro decided
  rw [wantedIsDecided, wanted, pressures, decided]

theorem notReadyIsHeld_congr {p q : Part} (held : q.feed.holds.gapNotReady = p.feed.holds.gapNotReady)
    (notReady : q.notReady = p.notReady) : notReadyIsHeld p → notReadyIsHeld q := by
  intro ready
  rw [notReadyIsHeld, held, notReady, ready]

theorem levelTaken_congr {p q : Part} (level : q.pressure.stopLevel = p.pressure.stopLevel)
    (line : q.feed.stopLine = p.feed.stopLine) : levelTaken p → levelTaken q := by
  intro taken
  rw [levelTaken, level, line, taken]

theorem gapRecordFits_congr {p q : Part} (state : q.gap.state = p.gap.state) (active : q.gap.active = p.gap.active)
    (target : q.gap.target = p.gap.target) (settle : q.gap.settle = p.gap.settle)
    (timer : q.gap.moveTimer.isSome = p.gap.moveTimer.isSome) : gapRecordFits p → gapRecordFits q := by
  intro fits
  simpa only [gapRecordFits, state, active, target, settle, timer] using fits

/-- The holds mirror their blocks still where the holds, the blocks and the backward run are as they were. -/
theorem holdsMirror_congr {p q : Part} (stopLine : q.feed.stopLine = p.feed.stopLine) (run : q.feed.backwardRun = p.feed.backwardRun)
    (stopped : p.feed.runState = .stopped → q.feed.runState = .stopped)
    (holdStopLine : q.feed.holds.stopLine = p.feed.holds.stopLine)
    (recovery : q.feed.holds.stopRecovery = p.feed.holds.stopRecovery)
    (fault : q.feed.holds.gapFault = p.feed.holds.gapFault) (state : q.gap.state = p.gap.state)
    (tuning : q.feed.holds.tuning = p.feed.holds.tuning) (running : q.batchRunning = p.batchRunning) :
    holdsMirrorButLevel p → holdsMirrorButLevel q := by
  rintro ⟨line, asserted, faulted, batch, back⟩
  refine ⟨?_, fun a => ?_, ?_, ?_, ?_⟩
  · rw [holdStopLine, stopLine, line]
  · rw [stopLine] at a
    exact ⟨recovery.trans (asserted a).1, stopped (asserted a).2⟩
  · rw [fault, state, faulted]
  · rw [tuning, running, batch]
  · rw [run]
    exact back

theorem SameCore.keeps {p q : Part} (h : SameCore p q) : Keeps p q where
  bus := busFits_congr h.bus (by rw [h.pressure])
  axis fits mirror := ⟨gapRecordFits_congr h.axisState h.active h.target h.settle (by rw [h.moveTimer]) fits,
    holdsMirror_congr h.stopLine h.backwardRun h.stopped h.holdStopLine h.holdStopRecovery h.holdGapFault h.axisState
      h.holdTuning h.running mirror⟩
  level := levelTaken_congr (by rw [h.pressure]) h.stopLine
  lanes := laneRecordsFit_congr h.lanes
  tables := tablesAgree_congr h.articles h.hides
  decided _ := wantedIsDecided_congr (by rw [h.pressure])
    (Part.pressures_of_look (fun n => by simp only [Part.lane, h.lanes]) (fun n => by simp only [Part.lane, h.lanes])
      (by simp only [Part.splitFields, Part.splitting?, h.hides]) h.idlePressure h.parkPressure (by rw [h.pressure]))
  ready _ := notReadyIsHeld_congr h.holdGapNotReady
    (Part.notReady_of_look (by simp only [Part.awaitedGap, Part.oldestApproached?, h.hides]) h.axisState h.active)

theorem SameCore.of_onlyRoutes {p q : Part} (h : onlyRoutes p q)
    (stopped : p.feed.runState = .stopped → q.feed.runState = .stopped) : SameCore p q := by
  unfold onlyRoutes at h
  constructor
  case stopped => exact stopped
  all_goals rw [h]
  rfl

theorem raise_keeps (e : Event) (p : Part) : Keeps p (raise e p) :=
  (SameCore.of_onlyRoutes (raise_onlyRoutes e p) (raise_stopped e p)).keeps

theorem raiseAll_keeps (events : List Event) (p : Part) : Keeps p (raiseAll events p) :=
  (SameCore.of_onlyRoutes (raiseAll_onlyRoutes events p) (raiseAll_stopped events p)).keeps

/-- The tallies are no invariant's. -/
theorem setTallies_keeps (p : Part) (x : Vector Tally 4) : Keeps p (p.setTallies x) :=
  SameCore.keeps (by constructor <;> first | rfl | exact id)

theorem comparePerHideTallies_keeps (p : Part) : Keeps p (comparePerHideTallies p) :=
  (setTallies_keeps p _).trans (raiseAll_keeps _ _)

theorem clearPerHideTallies_keeps (p : Part) : Keeps p (clearPerHideTallies p) := setTallies_keeps p _

theorem setPort_keeps (p : Part) (x : Port) : Keeps p (p.setPort x) :=
  SameCore.keeps (by constructor <;> first | rfl | exact id)

theorem attend_keeps (p : Part) (c : Attention) : Keeps p (p.attend c) := setPort_keeps p _

theorem setEye_keeps (p : Part) (x : Eye) : Keeps p (p.setEye x) :=
  SameCore.keeps (by constructor <;> first | rfl | exact id)

theorem setEyeState_keeps (p : Part) (x : EyeState) : Keeps p (p.setEyeState x) := setEye_keeps p _

theorem setUnbound_keeps (p : Part) (x : Option UnboundEdge) : Keeps p (p.setUnbound x) :=
  SameCore.keeps (by constructor <;> first | rfl | exact id)

theorem setLines_keeps (p : Part) (x : Vector Line 4) : Keeps p (p.setLines x) :=
  SameCore.keeps (by constructor <;> first | rfl | exact id)

/-- The hold causes that mirror no block (R69): all but STOP_LINE, STOP_RECOVERY, GAP_NOT_READY, GAP_FAULT, TUNING. -/
def HoldCause.isFree (c : HoldCause) : Bool :=
  match c with
  | .stopLine | .stopRecovery | .gapNotReady | .gapFault | .tuning => false
  | .hostHold | .routeHold | .unboundEdge | .overlength | .hideAborted | .reverse => true

theorem putHold_keeps (p : Part) (c : HoldCause) (b : Bool) (free : c.isFree = true) : Keeps p (p.putHold c b) := by
  apply SameCore.keeps
  cases c <;> first | contradiction | (constructor <;> first | rfl | exact id)

theorem setRunState_stopped_keeps (p : Part) : Keeps p (p.setRunState .stopped) := by
  apply SameCore.keeps
  constructor
  case stopped => exact fun _ => rfl
  all_goals rfl

theorem stopAtClearTest_keeps (p : Part) : Keeps p (stopAtClearTest p) := by
  unfold stopAtClearTest
  split
  · exact setRunState_stopped_keeps p
  · exact .refl p

theorem stopBeforeNext_keeps (p : Part) : Keeps p (stopBeforeNext p) := by
  unfold stopBeforeNext
  split
  · exact setRunState_stopped_keeps p
  · exact .refl p

/-- The axis record changed in what the invariants do not read: staged gap, last pair, excursion run, apply-pending. -/
theorem setGap_keeps (p : Part) (g : GapAxis) (state : g.state = p.gap.state) (active : g.active = p.gap.active)
    (target : g.target = p.gap.target) (settle : g.settle = p.gap.settle) (timer : g.moveTimer = p.gap.moveTimer) :
    Keeps p (p.setGap g) := by
  apply SameCore.keeps
  constructor
  case axisState => exact state
  case active => exact active
  case target => exact target
  case settle => exact settle
  case moveTimer => exact timer
  case stopped => exact id
  all_goals rfl

theorem endExcursionRun_keeps (p : Part) : Keeps p (endExcursionRun p) := setGap_keeps p _ rfl rfl rfl rfl rfl

/-- The tuning unit changed with a batch running after as before. -/
theorem setTuning_keeps (p : Part) (x : Tuning) (running : (p.setTuning x).batchRunning = p.batchRunning) :
    Keeps p (p.setTuning x) := by
  apply SameCore.keeps
  constructor
  case running => exact running
  case stopped => exact id
  all_goals rfl

theorem setLaneTuning_keeps (p : Part) (n : LaneNo) (t : LaneTuning) : Keeps p (p.setLaneTuning n t) :=
  setTuning_keeps p _ rfl

theorem modifyMember_keeps (p : Part) (n : LaneNo) (f : Member → Member) : Keeps p (p.modifyMember n f) := by
  refine setTuning_keeps p _ ?_
  simp only [Part.batchRunning, Part.setTuning]
  cases p.tuning.batch <;> rfl

theorem dropUnqualified_keeps (p : Part) : Keeps p (dropUnqualified p) := by
  unfold dropUnqualified
  exact setTuning_keeps p _ (by simp only [Part.batchRunning, Part.setTuning_tuning])

/-! ## A recompute -/

theorem recompute_bus (p : Part) (settled : settledMeansApplied p) (fits : busRecordFits p) :
    settledMeansApplied (recompute p) ∧ busRecordFits (recompute p) := by
  constructor
  · intro n h
    rw [recompute_wanted, recompute_applied]
    by_cases s : (p.drive n).state = .settled
    · rw [recompute_drive] at h
      split at h
      · cases h
      · rename_i same
        rw [settled n s]
        by_contra ne
        exact same ⟨fun e => ne (by rw [e]), s⟩
    · rw [recompute_state p n s] at h
      exact absurd h s
  · simpa only [busRecordFits, recompute_retry, recompute_bus_selectTimer, recompute_bus_master,
      recompute_bus_pointer, recompute_bus_releaseTimer, recompute_bus_dueNext, recompute_bus_dueAfter,
      recompute_bus_resetDrain] using fits

theorem recompute_sound (p : Part) : Sound p (recompute p) where
  bus := recompute_bus p
  axis fits mirror := ⟨gapRecordFits_congr (by simp) (by simp) (by simp) (by simp) (by simp) fits,
    holdsMirror_congr (by simp) (by simp) (by simp) (by simp) (by simp) (by simp) (by simp) (by simp)
      (by simp only [Part.batchRunning, recompute_tuning]) mirror⟩
  level := levelTaken_congr (by simp) (by simp)
  lanes := laneRecordsFit_congr (by simp)
  tables := tablesAgree_congr (by simp) (by simp)

theorem recompute_ready (p : Part) : notReadyIsHeld p → notReadyIsHeld (recompute p) :=
  notReadyIsHeld_congr (by simp)
    (Part.notReady_of_look (by simp [Part.awaitedGap, Part.oldestApproached?]) (by simp) (by simp))

/-- A recompute decides every wanted pressure anew, whatever came before it. -/
theorem Keeps.of_recompute {p q : Part} (sound : Sound p q) (ready : tablesAgree p → notReadyIsHeld p → notReadyIsHeld q) :
    Keeps p (recompute q) where
  toSound := sound.trans (recompute_sound q)
  decided _ _ := recompute_decides q
  ready t r := recompute_ready q (ready t r)

theorem recompute_keeps (p : Part) : Keeps p (recompute p) := .of_recompute (.refl p) fun _ => id

/-! ## Readiness -/

theorem notReadyTest_sound (p : Part) : Sound p (notReadyTest p) where
  bus := busFits_congr (by simp) (by simp)
  axis fits mirror := ⟨gapRecordFits_congr (by simp) (by simp) (by simp) (by simp) (by simp) fits,
    holdsMirror_congr (by simp) (by simp) (by simp) (by simp) (by simp) (by simp) (by simp) (by simp)
      (by simp only [Part.batchRunning, notReadyTest_tuning]) mirror⟩
  level := levelTaken_congr (by simp) (by simp)
  lanes := laneRecordsFit_congr (by simp)
  tables := tablesAgree_congr (by simp) (by simp)

/-- Changes of the axis and of GAP_NOT_READY leave the wanted pressures decided. -/
theorem changesGap_decided {p q : Part} (h : changesGap p q) : wantedIsDecided p → wantedIsDecided q := by
  unfold changesGap at h
  refine wantedIsDecided_congr (by rw [h]) (Part.pressures_congr (by rw [h]) (by rw [h]) (by rw [h]) (by rw [h]))

theorem changesGap_tables {p q : Part} (h : changesGap p q) : tablesAgree p → tablesAgree q := by
  unfold changesGap at h
  exact tablesAgree_congr (by rw [h]) (by rw [h])

/-- A readiness test settles GAP_NOT_READY anew, whatever came before it. -/
theorem Keeps.of_notReadyTest {p q : Part} (sound : Sound p q)
    (decided : tablesAgree p → wantedIsDecided p → wantedIsDecided q) : Keeps p (notReadyTest q) where
  toSound := sound.trans (notReadyTest_sound q)
  decided t d := changesGap_decided (notReadyTest_changesGap q) (decided t d)
  ready _ _ := notReadyTest_holds q

theorem notReadyTest_keeps (p : Part) : Keeps p (notReadyTest p) := .of_notReadyTest (.refl p) fun _ => id

/-! ## Moves of the axis -/

/-- A move starts from any state but FAULT; the order of a GAP RECOVER is `gapRecover_keeps`. -/
theorem startMove_keeps (g : GapTol) (p : Part) (state : p.gap.state ≠ .fault) : Keeps p (startMove g p) := by
  unfold startMove
  refine .of_notReadyTest ⟨busFits_congr rfl rfl, ?_, levelTaken_congr rfl rfl, laneRecordsFit_congr rfl,
    tablesAgree_congr rfl rfl⟩ fun _ => wantedIsDecided_congr rfl (Part.pressures_congr rfl rfl rfl rfl)
  rintro _ ⟨line, asserted, faulted, batch, back⟩
  have noFault : p.feed.holds.gapFault ≠ true := fun h => state (faulted.mp h)
  refine ⟨?_, line, asserted, ?_, batch, back⟩
  · simp [gapRecordFits]
  · simpa using noFault

theorem stage_keeps (p : Part) : Keeps p (stage p) := by
  unfold stage
  split
  · exact .refl p
  · split
    · exact .refl p
    · exact setGap_keeps p _ rfl rfl rfl rfl rfl

/-- The start test moves from STALE and IDLE alone (R83). -/
theorem Part.startTarget?_state {p : Part} (h : p.startTarget?.isSome = true) : p.gap.state ≠ .fault := by
  intro fault
  unfold Part.startTarget? at h
  split at h
  · rw [fault] at h
    cases h
  · cases h

theorem startTest_keeps (p : Part) : Keeps p (startTest p) := by
  unfold startTest
  split
  · rename_i g h
    exact startMove_keeps g p (Part.startTarget?_state (by rw [h]; rfl))
  · exact .refl p

theorem Part.applyDue_state {p : Part} (h : p.applyDue = true) : p.gap.state ≠ .fault := by
  intro fault
  simp [Part.applyDue, fault] at h

theorem startPendingApply_keeps (p : Part) (state : p.gap.state ≠ .fault) : Keeps p (startPendingApply p) := by
  have cleared : Keeps p (p.setGap { p.gap with applyPending := false }) := setGap_keeps p _ rfl rfl rfl rfl rfl
  unfold startPendingApply
  dsimp only
  split
  · exact cleared.trans (startMove_keeps _ _ state)
  · exact cleared

theorem gapHandOn_keeps (p : Part) : Keeps p (gapHandOn p) := by
  unfold gapHandOn
  refine ((stage_keeps p).trans ?_).trans (notReadyTest_keeps _)
  split
  · rename_i due
    exact startPendingApply_keeps _ (Part.applyDue_state due)
  · exact startTest_keeps _

theorem gapCleared_keeps (p : Part) : Keeps p (gapCleared p) := by
  unfold gapCleared
  refine ((stage_keeps p).trans ?_).trans (notReadyTest_keeps _)
  split
  · rename_i due
    exact startPendingApply_keeps _ (Part.applyDue_state due)
  · split
    · exact startTest_keeps _
    · split
      · rename_i reseat
        split
        · exact startMove_keeps _ _ fun fault => by simp [fault] at reseat
        · exact .refl _
      · exact .refl _

end Sys2Proof.Machine
end

section
/-! PROOFS. The two tables (R1 to R4, R14 to R16, R22, R23): what it takes for a changed, added or removed record to leave
the tables in agreement, and the wanted pressures and the readiness as they were. -/

namespace Sys2Proof.Machine

/-! ## The tables' agreement, table by table -/

/-- The number of records of a hide table that name a code. -/
def namingIn (hides : List Hide) (code : Nat) : Nat := (hides.filter fun h => h.article == code).length

/-- What `tablesAgree` asks of the article table, the pins being those the function gives. -/
structure ArticlesFit (pinsOf : Nat → Nat) (l : List Plan) : Prop where
  ascending : l.Pairwise fun a b => a.code < b.code
  capacity : l.length ≤ 64
  codes : ∀ a ∈ l, 1 ≤ a.code ∧ a.code ≤ 65534
  pins : ∀ a ∈ l, a.pins = pinsOf a.code
  retiring : ∀ a ∈ l, a.state = .retiring → 1 ≤ a.pins ∧ a.mark = false
  marks : (l.filter (·.mark)).length ≤ 1

/-- What `tablesAgree` asks of the hide table, the plans being of this article table. -/
structure HidesFit (articles : List Plan) (l : List Hide) : Prop where
  capacity : l.length ≤ 8
  tickets : (l.map (·.ticket)).Nodup
  plans : ∀ h ∈ l, ∃ a ∈ articles, a.code = h.article
  splitting : (l.filter fun h => h.state == .splitting).length ≤ 1

theorem Part.plan?_isSome_iff (p : Part) (code : Nat) :
    (p.plan? code).isSome = true ↔ ∃ a ∈ p.articles, a.code = code := by
  simp only [Part.plan?, List.find?_isSome, beq_iff_eq]

theorem tablesAgree_iff (p : Part) :
    tablesAgree p ↔ ArticlesFit (namingIn p.hides) p.articles ∧ HidesFit p.articles p.hides := by
  constructor
  · rintro ⟨ascending, capacity, records, marks, room, tickets, plans, splitting⟩
    exact ⟨⟨ascending, capacity, fun a m => ⟨(records a m).1, (records a m).2.1⟩, fun a m => (records a m).2.2.1,
      fun a m => (records a m).2.2.2, marks⟩,
      ⟨room, tickets, fun h m => (p.plan?_isSome_iff _).mp (plans h m), splitting⟩⟩
  · rintro ⟨a, h⟩
    exact ⟨a.ascending, a.capacity, fun x m => ⟨(a.codes x m).1, (a.codes x m).2, a.pins x m, a.retiring x m⟩, a.marks,
      h.capacity, h.tickets, fun x m => (p.plan?_isSome_iff _).mpr (h.plans x m), h.splitting⟩

theorem tablesAgree.articlesFit {p : Part} (t : tablesAgree p) : ArticlesFit (namingIn p.hides) p.articles :=
  ((tablesAgree_iff p).mp t).1

theorem tablesAgree.hidesFit {p : Part} (t : tablesAgree p) : HidesFit p.articles p.hides :=
  ((tablesAgree_iff p).mp t).2

theorem tablesAgree.tickets {p : Part} (t : tablesAgree p) : (p.hides.map (·.ticket)).Nodup := t.hidesFit.tickets

/-! ## Articles changed, added and removed -/

theorem ArticlesFit.congr {N M : Nat → Nat} {l : List Plan} (h : ArticlesFit N l) (same : ∀ a ∈ l, N a.code = M a.code) :
    ArticlesFit M l :=
  { h with pins := fun a m => (h.pins a m).trans (same a m) }

/-- Records changed in their place: the codes stay, and what is asked of each record holds of the changed ones. -/
theorem ArticlesFit.map {N M : Nat → Nat} {l : List Plan} (h : ArticlesFit N l) (f : Plan → Plan)
    (code : ∀ a ∈ l, (f a).code = a.code) (pins : ∀ a ∈ l, (f a).pins = M a.code)
    (retiring : ∀ a ∈ l, (f a).state = .retiring → 1 ≤ (f a).pins ∧ (f a).mark = false)
    (marks : ((l.map f).filter (·.mark)).length ≤ 1) : ArticlesFit M (l.map f) where
  ascending := List.pairwise_map.mpr (h.ascending.imp_of_mem fun ha hb lt => by rwa [code _ ha, code _ hb])
  capacity := by rw [List.length_map]; exact h.capacity
  codes := List.forall_mem_map.mpr fun a m => by rw [code a m]; exact h.codes a m
  pins := List.forall_mem_map.mpr fun a m => by rw [code a m]; exact pins a m
  retiring := List.forall_mem_map.mpr retiring
  marks := marks

theorem length_filter_mark_map (l : List Plan) (f : Plan → Plan) (mark : ∀ a ∈ l, (f a).mark = true → a.mark = true) :
    ((l.map f).filter (·.mark)).length ≤ (l.filter (·.mark)).length := by
  rw [← List.countP_eq_length_filter, ← List.countP_eq_length_filter, List.countP_map]
  exact List.countP_mono_left mark

/-- Changes of a record's fields and counters are no concern of the tables' agreement. -/
theorem ArticlesFit.map_same {N : Nat → Nat} {l : List Plan} (h : ArticlesFit N l) (f : Plan → Plan)
    (code : ∀ a, (f a).code = a.code) (pins : ∀ a, (f a).pins = a.pins) (state : ∀ a, (f a).state = a.state)
    (mark : ∀ a, (f a).mark = a.mark) : ArticlesFit N (l.map f) :=
  h.map f (fun a _ => code a) (fun a m => (pins a).trans (h.pins a m))
    (fun a m r => by rw [pins, mark]; exact h.retiring a m ((state a).symm.trans r))
    ((length_filter_mark_map l f fun a _ t => (mark a).symm.trans t).trans h.marks)

/-- Removed records. -/
theorem ArticlesFit.sublist {N : Nat → Nat} {l k : List Plan} (h : ArticlesFit N l) (sub : List.Sublist k l) :
    ArticlesFit N k where
  ascending := h.ascending.sublist sub
  capacity := sub.length_le.trans h.capacity
  codes a m := h.codes a (sub.subset m)
  pins a m := h.pins a (sub.subset m)
  retiring a m := h.retiring a (sub.subset m)
  marks := (sub.filter _).length_le.trans h.marks

/-- The codes ascend, so a record is the one found by its code. -/
theorem ArticlesFit.find? {N : Nat → Nat} {l : List Plan} (h : ArticlesFit N l) {a : Plan} (m : a ∈ l) :
    l.find? (fun b => b.code == a.code) = some a := by
  have ascending := h.ascending
  clear h
  induction l with
  | nil => cases m
  | cons b t ih =>
    obtain ⟨below, rest⟩ := List.pairwise_cons.mp ascending
    rcases List.mem_cons.mp m with rfl | mt
    · simp
    · rw [List.find?_cons_of_neg (by have := below a mt; simp only [beq_iff_eq]; omega)]
      exact ih mt rest

theorem ArticlesFit.eq_of_code {N : Nat → Nat} {l : List Plan} (h : ArticlesFit N l) {a b : Plan} (ma : a ∈ l)
    (mb : b ∈ l) (code : a.code = b.code) : a = b := by
  have fa := h.find? ma
  rw [code, h.find? mb] at fa
  exact (Option.some.inj fa).symm

/-- A record gains a pin with the hide record that names it (R15). -/
theorem ArticlesFit.pin {N M : Nat → Nat} {l : List Plan} (h : ArticlesFit N l) (c : Nat) (hit : M c = N c + 1)
    (other : ∀ d, d ≠ c → M d = N d) : ArticlesFit M (l.map fun a => if a.code == c then a.pin else a) := by
  refine h.map _ (fun a _ => by split <;> rfl) (fun a m => ?_) (fun a m r => ?_)
    ((length_filter_mark_map l _ fun a _ t => by split at t <;> exact t).trans h.marks)
  · split
    · rename_i e
      rw [beq_iff_eq] at e
      rw [e, hit, ← e, ← h.pins a m]
      rfl
    · rename_i e
      rw [beq_iff_eq] at e
      rw [other _ e, h.pins a m]
  · split at r
    · rename_i e
      rw [if_pos e]
      exact ⟨Nat.succ_le_succ (Nat.zero_le _), (h.retiring a m r).2⟩
    · rename_i e
      rw [if_neg e]
      exact h.retiring a m r

/-- A record loses a pin with the hide record that named it, unless it goes (R16). -/
theorem ArticlesFit.unpin {N M : Nat → Nat} {l : List Plan} (h : ArticlesFit N l) (c : Nat) (hit : M c = N c - 1)
    (other : ∀ d, d ≠ c → M d = N d) (stays : ∀ a ∈ l, a.code = c → ¬(a.state = .retiring ∧ a.unpin.pins = 0)) :
    ArticlesFit M (l.map fun a => if a.code == c then a.unpin else a) := by
  refine h.map _ (fun a _ => by split <;> rfl) (fun a m => ?_) (fun a m r => ?_)
    ((length_filter_mark_map l _ fun a _ t => by split at t <;> exact t).trans h.marks)
  · split
    · rename_i e
      rw [beq_iff_eq] at e
      rw [e, hit, ← e, ← h.pins a m]
      rfl
    · rename_i e
      rw [beq_iff_eq] at e
      rw [other _ e, h.pins a m]
  · split at r
    · rename_i e
      have pinned : a.unpin.pins ≠ 0 := fun z => stays a m (beq_iff_eq.mp e) ⟨r, z⟩
      rw [if_pos e]
      exact ⟨Nat.one_le_iff_ne_zero.mpr pinned, (h.retiring a m r).2⟩
    · rename_i e
      rw [if_neg e]
      exact h.retiring a m r

/-- The pin release leaves the article table fitting the pins less one, and every record but one of that code (R16). -/
theorem releasePin_articlesFit {N M : Nat → Nat} (p : Part) (c : Nat) (h : ArticlesFit N p.articles)
    (hit : M c = N c - 1) (other : ∀ d, d ≠ c → M d = N d) : ArticlesFit M (releasePin c p).articles := by
  unfold releasePin
  cases e : p.plan? c with
  | none =>
    refine h.congr fun a m => (other _ fun code => ?_).symm
    exact absurd ((p.plan?_isSome_iff c).mpr ⟨a, m, code⟩) (by simp [e])
  | some b =>
    dsimp only
    have codeB := Part.plan?_code e
    split
    · refine (h.sublist List.filter_sublist).congr fun a m => (other _ fun code => ?_).symm
      simp [code] at m
    · rename_i kept
      refine h.unpin c hit other fun a m code => ?_
      rwa [h.eq_of_code m (Part.plan?_mem e) (code.trans codeB.symm)]

/-- A record of another code, or of a code with more than one pin, is in the table after a pin release. -/
theorem releasePin_plans {N : Nat → Nat} (p : Part) (c d : Nat) (h : ArticlesFit N p.articles)
    (there : ∃ a ∈ p.articles, a.code = d) (named : d = c → 2 ≤ N c) :
    ∃ a ∈ (releasePin c p).articles, a.code = d := by
  rw [← Part.plan?_isSome_iff] at there ⊢
  by_cases dc : d = c
  · subst dc
    obtain ⟨a, e⟩ := Option.isSome_iff_exists.mp there
    have pins := h.pins a (Part.plan?_mem e)
    rw [Part.plan?_code e] at pins
    rw [(releasePin_kept d p a e (Or.inr (by have := named rfl; omega))).1]
    rfl
  · rwa [releasePin_other c d p dc]

/-! ## Hide records changed -/

theorem namingIn_map (l : List Hide) (g : Hide → Hide) (article : ∀ h ∈ l, (g h).article = h.article) (c : Nat) :
    namingIn (l.map g) c = namingIn l c := by
  simp only [namingIn, ← List.countP_eq_length_filter, List.countP_map]
  exact List.countP_congr fun h m => by simp only [Function.comp, article h m]

/-- Records changed that keep their ticket and article. -/
theorem HidesFit.map {A B : List Plan} {l : List Hide} (h : HidesFit A l) (g : Hide → Hide)
    (articles : ∀ a ∈ A, ∃ b ∈ B, b.code = a.code) (ticket : ∀ x ∈ l, (g x).ticket = x.ticket)
    (article : ∀ x ∈ l, (g x).article = x.article)
    (splitting : ((l.map g).filter fun x => x.state == .splitting).length ≤ 1) : HidesFit B (l.map g) where
  capacity := by rw [List.length_map]; exact h.capacity
  tickets := by
    have same : (l.map g).map (·.ticket) = l.map (·.ticket) := by
      rw [List.map_map]
      exact List.map_congr_left ticket
    rw [same]
    exact h.tickets
  plans := List.forall_mem_map.mpr fun x m => by
    obtain ⟨a, ma, code⟩ := h.plans x m
    obtain ⟨b, mb, same⟩ := articles a ma
    exact ⟨b, mb, by rw [article x m, same, code]⟩
  splitting := splitting

theorem length_filter_splitting_map (l : List Hide) (g : Hide → Hide)
    (h : ∀ x ∈ l, (g x).state = .splitting → x.state = .splitting) :
    ((l.map g).filter fun x => x.state == .splitting).length ≤ (l.filter fun x => x.state == .splitting).length := by
  rw [← List.countP_eq_length_filter, ← List.countP_eq_length_filter, List.countP_map]
  exact List.countP_mono_left fun x m s => beq_iff_eq.mpr (h x m (beq_iff_eq.mp s))

/-- Both tables changed record by record, codes, pins, marks, tickets and articles as they were. -/
theorem tablesAgree_of_map {p q : Part} (g : Hide → Hide) (hides : q.hides = p.hides.map g)
    (articles : q.articles = p.articles) (ticket : ∀ h ∈ p.hides, (g h).ticket = h.ticket)
    (article : ∀ h ∈ p.hides, (g h).article = h.article)
    (splitting : (p.hides.filter fun h => h.state == .splitting).length ≤ 1 →
      ((p.hides.map g).filter fun h => h.state == .splitting).length ≤ 1) (t : tablesAgree p) : tablesAgree q := by
  rw [tablesAgree_iff, articles, hides]
  exact ⟨t.articlesFit.congr fun a _ => (namingIn_map _ g article _).symm,
    t.hidesFit.map g (fun a m => ⟨a, m, rfl⟩) ticket article (splitting t.hidesFit.splitting)⟩

/-- A change of the record of a ticket, made on every record: `modifyHide` as a map. -/
theorem modifyHide_tables (p : Part) (t : Nat) (f : Hide → Hide) (ticket : ∀ h, (f h).ticket = h.ticket)
    (article : ∀ h, (f h).article = h.article)
    (splitting : ∀ h, (f h).state = .splitting → h.state = .splitting) : tablesAgree p → tablesAgree (p.modifyHide t f) := by
  refine tablesAgree_of_map (fun h => if h.ticket == t then f h else h) rfl rfl (fun h _ => ?_) (fun h _ => ?_)
    fun le => (length_filter_splitting_map _ _ fun h _ s => ?_).trans le
  · split <;> simp only [ticket]
  · split <;> simp only [article]
  · split at s
    · exact splitting h s
    · exact s

/-- The record of a ticket becomes SPLITTING where none is: one record is then, the tickets being distinct (R33). -/
theorem modifyHide_split_tables (p : Part) (t : Nat) (unsettled : Bool) (none : p.splitting? = none) :
    tablesAgree p → tablesAgree (p.modifyHide t fun h => h.split unsettled) := by
  intro agree
  refine tablesAgree_of_map (fun h => if h.ticket == t then h.split unsettled else h) rfl rfl (fun h _ => ?_)
    (fun h _ => ?_) (fun _ => ?_) agree
  · split <;> rfl
  · split <;> rfl
  · have one : (p.hides.map (·.ticket)).count t ≤ 1 := List.nodup_iff_count_le_one.mp agree.tickets t
    rw [List.count, List.countP_map] at one
    rw [← List.countP_eq_length_filter, List.countP_map]
    refine (List.countP_mono_left fun h m s => ?_).trans one
    by_cases e : (h.ticket == t) = true
    · exact e
    · rw [Function.comp_apply, if_neg e] at s
      exact absurd (beq_iff_eq.mp s) ((p.splitting?_eq_none.mp none) h m)

/-- A changed part whose bus, axis, feed, lanes and batch are as they were. -/
theorem Sound.of_tables {p q : Part} (bus : q.bus = p.bus) (pressure : q.pressure = p.pressure) (gap : q.gap = p.gap)
    (feed : q.feed = p.feed) (lanes : q.lanes = p.lanes) (tuning : q.tuning = p.tuning)
    (tables : tablesAgree p → tablesAgree q) : Sound p q where
  bus := busFits_congr bus (by rw [pressure])
  axis fits mirror := ⟨gapRecordFits_congr (by rw [gap]) (by rw [gap]) (by rw [gap]) (by rw [gap]) (by rw [gap]) fits,
    holdsMirror_congr (by rw [feed]) (by rw [feed]) (by rw [feed]; exact id) (by rw [feed]) (by rw [feed]) (by rw [feed])
      (by rw [gap]) (by rw [feed]) (by simp only [Part.batchRunning, tuning]) mirror⟩
  level := levelTaken_congr (by rw [pressure]) (by rw [feed])
  lanes := laneRecordsFit_congr lanes
  tables := tables

theorem modifyHide_sound (p : Part) (t : Nat) (f : Hide → Hide) (ticket : ∀ h, (f h).ticket = h.ticket)
    (article : ∀ h, (f h).article = h.article) (splitting : ∀ h, (f h).state = .splitting → h.state = .splitting) :
    Sound p (p.modifyHide t f) :=
  .of_tables rfl rfl rfl rfl rfl rfl (modifyHide_tables p t f ticket article splitting)

/-! ## What is found first -/

/-- Of a changed list the first record of a kind shows what it showed, where the changed records are of that kind as
before and show then what they showed. -/
theorem find?_map_view {α β : Type} (l : List α) (kind : α → Bool) (g : α → α) (view : α → β)
    (h : ∀ x ∈ l, kind (g x) = kind x ∧ (kind x = true → view (g x) = view x)) :
    ((l.map g).find? kind).map view = (l.find? kind).map view := by
  induction l with
  | nil => rfl
  | cons a t ih =>
    obtain ⟨same, shows⟩ := h a (by simp)
    rw [List.map_cons, List.find?_cons, List.find?_cons, same]
    cases k : kind a with
    | true => simp [shows k]
    | false => exact ih fun x m => h x (by simp [m])

/-- A record is SPLITTING as before, and then with the snapshot it had. -/
def Hide.sameSplit (h k : Hide) : Prop :=
  (k.state == .splitting) = (h.state == .splitting) ∧ ((h.state == .splitting) = true → k.snapshot = h.snapshot)

/-- The record is ENTERING and past its approach point (R32, R89). -/
def Hide.approached (h : Hide) : Bool := h.state == .entering && h.approachReached

/-- A record is past its approach point as before, and then with the snapshot it had. -/
def Hide.sameApproach (h k : Hide) : Prop :=
  k.approached = h.approached ∧ (h.approached = true → k.snapshot = h.snapshot)

theorem Part.splitFields_eq (p : Part) : p.splitFields = (p.splitting?.map (·.snapshot)).join := by
  unfold Part.splitFields
  cases p.splitting? <;> rfl

theorem Part.awaitedGap_eq (p : Part) :
    p.awaitedGap = ((p.hides.find? Hide.approached).map (·.snapshot)).map (·.map (·.splitGap)) := by
  rw [Option.map_map]
  rfl

theorem splitFields_of_map {p q : Part} (g : Hide → Hide) (hides : q.hides = p.hides.map g)
    (same : ∀ h ∈ p.hides, h.sameSplit (g h)) : q.splitFields = p.splitFields := by
  rw [Part.splitFields_eq, Part.splitFields_eq, Part.splitting?, Part.splitting?, hides, find?_map_view _ _ g _ same]

theorem awaitedGap_of_map {p q : Part} (g : Hide → Hide) (hides : q.hides = p.hides.map g)
    (same : ∀ h ∈ p.hides, h.sameApproach (g h)) : q.awaitedGap = p.awaitedGap := by
  rw [Part.awaitedGap_eq, Part.awaitedGap_eq, hides, find?_map_view _ _ g _ same]

theorem modifyHide_splitFields (p : Part) (t : Nat) (f : Hide → Hide)
    (same : ∀ h ∈ p.hides, h.ticket = t → h.sameSplit (f h)) : (p.modifyHide t f).splitFields = p.splitFields := by
  refine splitFields_of_map (fun h => if h.ticket == t then f h else h) rfl fun h m => ?_
  split
  · rename_i e
    exact same h m (beq_iff_eq.mp e)
  · exact ⟨rfl, fun _ => rfl⟩

theorem modifyHide_awaitedGap (p : Part) (t : Nat) (f : Hide → Hide)
    (same : ∀ h ∈ p.hides, h.ticket = t → h.sameApproach (f h)) : (p.modifyHide t f).awaitedGap = p.awaitedGap := by
  refine awaitedGap_of_map (fun h => if h.ticket == t then f h else h) rfl fun h m => ?_
  split
  · rename_i e
    exact same h m (beq_iff_eq.mp e)
  · exact ⟨rfl, fun _ => rfl⟩

/-- The wanted pressures stay decided where lanes, settings, STOP level and the SPLITTING record's fields stay. -/
theorem decided_of_splitFields {p q : Part} (pressure : q.pressure = p.pressure) (lanes : q.lanes = p.lanes)
    (settings : q.settings = p.settings) (split : q.splitFields = p.splitFields) :
    wantedIsDecided p → wantedIsDecided q :=
  wantedIsDecided_congr (by rw [pressure]) (Part.pressures_of_look (fun n => by simp only [Part.lane, lanes])
    (fun n => by simp only [Part.lane, lanes]) split (by rw [settings]) (by rw [settings]) (by rw [pressure]))

theorem ready_of_awaitedGap {p q : Part} (feed : q.feed = p.feed) (gap : q.gap = p.gap)
    (awaited : q.awaitedGap = p.awaitedGap) : notReadyIsHeld p → notReadyIsHeld q :=
  notReadyIsHeld_congr (by rw [feed]) (Part.notReady_of_look awaited (by rw [gap]) (by rw [gap]))

/-- A record changed in what neither the tables' agreement, the pressures nor the readiness read. -/
theorem modifyHide_keeps (p : Part) (t : Nat) (f : Hide → Hide) (ticket : ∀ h, (f h).ticket = h.ticket)
    (article : ∀ h, (f h).article = h.article) (state : ∀ h, (f h).state = h.state)
    (snapshot : ∀ h, (f h).snapshot = h.snapshot) (approach : ∀ h, (f h).approachReached = h.approachReached) :
    Keeps p (p.modifyHide t f) where
  toSound := modifyHide_sound p t f ticket article fun h s => (state h).symm.trans s
  decided _ := decided_of_splitFields rfl rfl rfl (modifyHide_splitFields p t f fun h _ _ =>
    ⟨by rw [state], fun _ => snapshot h⟩)
  ready _ := ready_of_awaitedGap rfl rfl (modifyHide_awaitedGap p t f fun h _ _ =>
    ⟨by simp only [Hide.approached, state, approach], fun _ => snapshot h⟩)

/-- Records of the article table changed in fields and counters. -/
theorem modifyPlan_keeps (p : Part) (c : Nat) (f : Plan → Plan) (code : ∀ a, (f a).code = a.code)
    (pins : ∀ a, (f a).pins = a.pins) (state : ∀ a, (f a).state = a.state) (mark : ∀ a, (f a).mark = a.mark) :
    Keeps p (p.modifyPlan c f) where
  toSound := .of_tables rfl rfl rfl rfl rfl rfl fun t => by
    refine (tablesAgree_iff _).mpr ⟨t.articlesFit.map_same _ (fun a => ?_) (fun a => ?_) (fun a => ?_) (fun a => ?_),
      t.hidesFit.capacity, t.hidesFit.tickets, fun h m => ?_, t.hidesFit.splitting⟩
    · split <;> simp only [code]
    · split <;> simp only [pins]
    · split <;> simp only [state]
    · split <;> simp only [mark]
    · obtain ⟨a, ma, e⟩ := t.hidesFit.plans h m
      refine ⟨_, List.mem_map_of_mem ma, ?_⟩
      split <;> simp only [code, e]
  decided _ := decided_of_splitFields rfl rfl rfl rfl
  ready _ := ready_of_awaitedGap rfl rfl rfl

end Sys2Proof.Machine
end

section
/-! PROOFS. Lanes and lane tuning keep the invariants: lane records changed, batches started, ended and aborted, members
restored, failed and passed, readings taken, faults and claims. -/

namespace Sys2Proof.Machine

/-! ## Lane records -/

/-- An EMPTY lane with its counters 0 fits, whatever its tune state. -/
theorem laneRecordFits_of_dropped (l : Lane) (contact : l.contact = .empty) (enter : l.enterCount = 0)
    (exit : l.exitCount = 0) (distance : l.distance = 0) (rail : l.railCount ≤ 3)
    (out : l.service ≠ .inService → l.railCount = 0) : laneRecordFits l :=
  ⟨fun _ => ⟨contact, enter⟩, fun _ => contact, fun _ => ⟨exit, distance⟩, fun _ => enter, rail, out⟩

theorem laneRecordFits.rail {l : Lane} (h : laneRecordFits l) : l.railCount ≤ 3 := h.2.2.2.2.1
theorem laneRecordFits.rail_out {l : Lane} (h : laneRecordFits l) : l.service ≠ .inService → l.railCount = 0 :=
  h.2.2.2.2.2

/-- A silent drop of the contact, with other values of what fits reads no more. -/
theorem laneRecordFits.dropped {l k : Lane} (h : laneRecordFits l) (contact : k.contact = .empty)
    (enter : k.enterCount = 0) (exit : k.exitCount = 0) (distance : k.distance = 0) (service : k.service = l.service)
    (rail : k.railCount = l.railCount) : laneRecordFits k :=
  laneRecordFits_of_dropped k contact enter exit distance (by rw [rail]; exact h.rail)
    (by rw [rail, service]; exact h.rail_out)

theorem Lane.faultWith_fits (l : Lane) (k : LaneFaultKind) : laneRecordFits (l.faultWith k) :=
  laneRecordFits_of_dropped _ rfl rfl rfl rfl (Nat.zero_le _) fun _ => rfl

theorem Lane.returnToService_fits (l : Lane) : laneRecordFits l.returnToService :=
  laneRecordFits_of_dropped _ rfl rfl rfl rfl (Nat.zero_le _) fun _ => rfl

theorem Lane.restore_fits (l : Lane) (s : Saved) (h : laneRecordFits l) : laneRecordFits (l.restore s) :=
  h.dropped rfl rfl rfl rfl rfl rfl

theorem Lane.join_fits (l : Lane) (m : TuneMode) (h : laneRecordFits l) : laneRecordFits (l.join m) :=
  h.dropped rfl rfl rfl rfl rfl rfl

/-- A record changed in what fits does not read: last values, reference, calibration, settings. -/
theorem laneRecordFits.same {l k : Lane} (h : laneRecordFits l) (service : k.service = l.service)
    (tune : k.tune = l.tune) (contact : k.contact = l.contact) (seed : k.seedPending = l.seedPending)
    (enter : k.enterCount = l.enterCount) (exit : k.exitCount = l.exitCount) (distance : k.distance = l.distance)
    (rail : k.railCount = l.railCount) : laneRecordFits k := by
  simpa only [laneRecordFits, Lane.seeing, service, tune, contact, seed, enter, exit, distance, rail] using h

/-! ## A part with other lane records -/

/-- A changed part whose bus, axis, feed and tables are as they were, and a batch runs as before. -/
theorem Sound.of_lanes {p q : Part} (bus : q.bus = p.bus) (pressure : q.pressure = p.pressure) (gap : q.gap = p.gap)
    (feed : q.feed = p.feed) (running : q.batchRunning = p.batchRunning) (articles : q.articles = p.articles)
    (hides : q.hides = p.hides) (lanes : laneRecordsFit p → laneRecordsFit q) : Sound p q where
  bus := busFits_congr bus (by rw [pressure])
  axis fits mirror := ⟨gapRecordFits_congr (by rw [gap]) (by rw [gap]) (by rw [gap]) (by rw [gap]) (by rw [gap]) fits,
    holdsMirror_congr (by rw [feed]) (by rw [feed]) (by rw [feed]; exact id) (by rw [feed]) (by rw [feed]) (by rw [feed])
      (by rw [gap]) (by rw [feed]) running mirror⟩
  level := levelTaken_congr (by rw [pressure]) (by rw [feed])
  lanes := lanes
  tables := tablesAgree_congr articles hides

theorem setLanes_sound (p : Part) (x : Vector Lane 32) (fits : laneRecordsFit p → laneRecordsFit (p.setLanes x)) :
    Sound p (p.setLanes x) :=
  .of_lanes rfl rfl rfl rfl rfl rfl rfl fits

theorem setLane_sound (p : Part) (n : LaneNo) (l : Lane) (fits : laneRecordFits (p.lane n) → laneRecordFits l) :
    Sound p (p.setLane n l) :=
  .of_lanes rfl rfl rfl rfl rfl rfl rfl fun h m => by
    rw [Part.lane_setLane]
    split
    · exact fits (h n)
    · exact h m

/-- Where the hide table, the axis and GAP_NOT_READY are as they were, so is the readiness. -/
theorem ready_of_hides {p q : Part} (hides : q.hides = p.hides)
    (held : q.feed.holds.gapNotReady = p.feed.holds.gapNotReady) (state : q.gap.state = p.gap.state)
    (active : q.gap.active = p.gap.active) : notReadyIsHeld p → notReadyIsHeld q :=
  notReadyIsHeld_congr held
    (Part.notReady_of_look (by simp only [Part.awaitedGap, Part.oldestApproached?, hides]) state active)

/-- A lane record changed that is seeing as before and in its contact state. -/
theorem setLane_keeps (p : Part) (n : LaneNo) (l : Lane) (fits : laneRecordFits (p.lane n) → laneRecordFits l)
    (seeing : l.seeing = (p.lane n).seeing) (contact : l.contact = (p.lane n).contact) : Keeps p (p.setLane n l) where
  toSound := setLane_sound p n l fits
  decided _ := wantedIsDecided_congr rfl (Part.pressures_of_look
    (fun m => by
      rw [Part.lane_setLane]
      split
      · rename_i e
        rw [seeing, e]
      · rfl)
    (fun m => by
      rw [Part.lane_setLane]
      split
      · rename_i e
        rw [contact, e]
      · rfl) rfl rfl rfl rfl)
  ready _ := ready_of_hides rfl rfl rfl rfl

/-- A lane record changed in any way that fits, with the recompute that follows (R99, R144). -/
theorem changeLane_keeps (p : Part) (n : LaneNo) (l : Lane) (fits : laneRecordFits (p.lane n) → laneRecordFits l) :
    Keeps p (recompute (p.setLane n l)) :=
  .of_recompute (setLane_sound p n l fits) fun _ => ready_of_hides rfl rfl rfl rfl

/-! ## Batches -/

theorem startBatch_keeps (origin : Origin) (lanes : List LaneNo) (p : Part) : Keeps p (startBatch origin lanes p) := by
  unfold startBatch
  refine .of_recompute ⟨busFits_congr rfl rfl, ?_, levelTaken_congr rfl rfl, ?_, tablesAgree_congr rfl rfl⟩ fun _ =>
    ready_of_hides rfl rfl rfl rfl
  · rintro fits ⟨line, asserted, faulted, _, back⟩
    exact ⟨fits, line, asserted, faulted, rfl, back⟩
  · intro fits n
    simp only [Part.lane, Part.putHold_lanes, Vector.getElem_ofFn, Fin.eta]
    split
    · exact Lane.join_fits _ _ (fits n)
    · exact fits n

theorem formationTest_keeps (p : Part) : Keeps p (formationTest p) := by
  rcases formationTest_cases p with h | h | h <;> rw [h]
  · exact .refl p
  · exact dropUnqualified_keeps p
  · exact (dropUnqualified_keeps p).trans (startBatch_keeps _ _ _)

theorem addRequest_keeps (n : LaneNo) (p : Part) : Keeps p (addRequest n p) := by
  unfold addRequest
  split
  · exact .refl p
  · exact (setLaneTuning_keeps p _ _).trans (formationTest_keeps _)

theorem driftRequest_keeps (n : LaneNo) (p : Part) : Keeps p (driftRequest n p) := by
  unfold driftRequest
  split
  · exact addRequest_keeps n p
  · exact .refl p

theorem expireHoldoff_keeps (n : LaneNo) (p : Part) : Keeps p (expireHoldoff n p) := by
  unfold expireHoldoff
  split
  · exact .refl p
  · dsimp only
    split
    · exact (setLaneTuning_keeps p _ _).trans (addRequest_keeps _ _)
    · exact setLaneTuning_keeps p _ _

/-- A batch ends: none runs, and TUNING is out of the set. -/
theorem endBatch_keeps (p : Part) : Keeps p (endBatch p) where
  bus := busFits_congr rfl rfl
  axis fits mirror := by
    obtain ⟨line, asserted, faulted, _, back⟩ := mirror
    refine ⟨fits, line, asserted, faulted, ?_, back⟩
    simp only [endBatch, Part.batchRunning, Part.putHold_feed, Part.putHold_tuning, Part.setTuning, HoldSet.put]
    cases p.tuning.batch <;> rfl
  level := levelTaken_congr rfl rfl
  lanes := laneRecordsFit_congr rfl
  tables := tablesAgree_congr rfl rfl
  decided _ := wantedIsDecided_congr rfl (Part.pressures_congr rfl rfl rfl rfl)
  ready _ := ready_of_hides rfl rfl rfl rfl

theorem completeBatch_keeps (p : Part) : Keeps p (completeBatch p) := by
  unfold completeBatch
  split
  · exact ((endBatch_keeps p).trans (attend_keeps _ _)).trans (formationTest_keeps _)
  · exact .refl p

/-! ## Members restored -/

/-- From `p` to `q` the axis, the feed unit and the hide table have not changed. -/
structure SameAxis (p q : Part) : Prop where
  gap : q.gap = p.gap
  feed : q.feed = p.feed
  hides : q.hides = p.hides

theorem SameAxis.trans {p q r : Part} (h : SameAxis p q) (k : SameAxis q r) : SameAxis p r :=
  ⟨k.gap.trans h.gap, k.feed.trans h.feed, k.hides.trans h.hides⟩

theorem SameAxis.ready {p q : Part} (h : SameAxis p q) : notReadyIsHeld p → notReadyIsHeld q :=
  ready_of_hides h.hides (by rw [h.feed]) (by rw [h.gap]) (by rw [h.gap])

theorem restoreMember_sound (p : Part) (m : Member) : Sound p (restoreMember p m) := by
  unfold restoreMember
  split
  · exact (modifyMember_keeps p _ _).toSound
  · exact (setLane_sound p _ _ (Lane.restore_fits _ _)).trans (modifyMember_keeps _ _ _).toSound

theorem restoreMember_sameAxis (p : Part) (m : Member) : SameAxis p (restoreMember p m) := by
  unfold restoreMember
  split <;> exact ⟨rfl, rfl, rfl⟩

theorem withdraw_sound (n : LaneNo) (p : Part) : Sound p (withdraw n p) := by
  unfold withdraw
  split
  · split
    · exact .refl p
    · exact restoreMember_sound p _
  · exact .refl p

theorem withdraw_sameAxis (n : LaneNo) (p : Part) : SameAxis p (withdraw n p) := by
  unfold withdraw
  split
  · split
    · exact ⟨rfl, rfl, rfl⟩
    · exact restoreMember_sameAxis p _
  · exact ⟨rfl, rfl, rfl⟩

theorem foldl_sameAxis {α : Type} (f : Part → α → Part) (h : ∀ p a, SameAxis p (f p a)) (l : List α) (p : Part) :
    SameAxis p (l.foldl f p) := by
  induction l generalizing p with
  | nil => exact ⟨rfl, rfl, rfl⟩
  | cons a t ih => exact (h p a).trans (ih _)

theorem abortBatch_sound (p : Part) : Sound p (abortBatch p) := by
  unfold abortBatch
  split
  · exact (foldl_sound _ restoreMember_sound _ p).trans (endBatch_keeps _).toSound
  · exact .refl p

theorem endBatch_ready (p : Part) : notReadyIsHeld p → notReadyIsHeld (endBatch p) := ready_of_hides rfl rfl rfl rfl

theorem abortBatch_ready (p : Part) : notReadyIsHeld p → notReadyIsHeld (abortBatch p) := by
  unfold abortBatch
  split
  · exact fun ready => endBatch_ready _ ((foldl_sameAxis _ restoreMember_sameAxis _ p).ready ready)
  · exact id

/-! ## Readings of a member -/

/-- A blind lane that fits is EMPTY with its counters 0, and stays fitting in TUNE_ERROR. -/
theorem laneRecordFits.tuneError {l : Lane} (h : laneRecordFits l) (contact : l.contact = .empty)
    (enter : l.enterCount = 0) (kind : TuneErrorKind) : laneRecordFits { l with tune := .tuneError kind } := by
  obtain ⟨_, _, empty, _, rail, out⟩ := h
  exact laneRecordFits_of_dropped _ contact enter (empty contact).1 (empty contact).2 rail out

/-- The record of a lane whose member fails (R129): its saved values back, where there are any, and TUNE_ERROR. -/
def Lane.failWith (l : Lane) (saved : Option Saved) (kind : TuneErrorKind) : Lane :=
  { (match saved with
    | some s => l.restore s
    | none => l) with tune := .tuneError kind }

theorem Lane.failWith_fits (l : Lane) (saved : Option Saved) (kind : TuneErrorKind) (blind : l.seeing = false)
    (fits : laneRecordFits l) : laneRecordFits (l.failWith saved kind) := by
  cases saved with
  | none => exact fits.tuneError (fits.1 blind).1 (fits.1 blind).2 kind
  | some s => exact (Lane.restore_fits l s fits).tuneError rfl rfl kind

/-- In an AUTOMATIC batch the holdoff of a failed member's lane is armed (R129, R136). -/
def armHoldoff (n : LaneNo) (p : Part) : Part :=
  if p.tuning.batch.map (·.origin) = some .automatic then
    p.setLaneTuning n { p.laneTuning n with holdoff := some (holdoffTicks (p.laneTuning n).settings.holdoff) }
  else p

theorem failMember_eq (m : Member) (kind : TuneErrorKind) (p : Part) : failMember m kind p =
    (armHoldoff m.lane (raise (.tuneError m.lane kind)
      (recompute (p.setLane m.lane ((p.lane m.lane).failWith m.saved kind))))).modifyMember m.lane
        fun _ => m.finish := rfl

theorem armHoldoff_keeps (n : LaneNo) (p : Part) : Keeps p (armHoldoff n p) := by
  unfold armHoldoff
  split
  · exact setLaneTuning_keeps p _ _
  · exact .refl p

/-- A member of a blind lane fails: what its lane takes back fits (R129). -/
theorem failMember_keeps (m : Member) (kind : TuneErrorKind) (p : Part) (blind : (p.lane m.lane).seeing = false) :
    Keeps p (failMember m kind p) := by
  rw [failMember_eq]
  exact (((changeLane_keeps p _ _ (Lane.failWith_fits _ _ _ blind)).trans (raise_keeps _ _)).trans
    (armHoldoff_keeps _ _)).trans (modifyMember_keeps _ _ _)

theorem succeedMember_keeps (m : Member) (average : Nat) (p : Part) : Keeps p (succeedMember m average p) :=
  .trans (changeLane_keeps p _ { (p.lane m.lane).dropContact with tune := .tuned, reference := average } fun fits =>
    fits.dropped rfl rfl rfl rfl rfl rfl) (modifyMember_keeps _ _ _)

/-- A lane takes another calibration, reference or settings, nothing that its fit or the pressures read. -/
theorem setLane_same_keeps (p : Part) (n : LaneNo) (l : Lane) (service : l.service = (p.lane n).service)
    (tune : l.tune = (p.lane n).tune) (contact : l.contact = (p.lane n).contact)
    (seed : l.seedPending = (p.lane n).seedPending) (enter : l.enterCount = (p.lane n).enterCount)
    (exit : l.exitCount = (p.lane n).exitCount) (distance : l.distance = (p.lane n).distance)
    (rail : l.railCount = (p.lane n).railCount) : Keeps p (p.setLane n l) :=
  setLane_keeps p n l (fun fits => fits.same service tune contact seed enter exit distance rail)
    (by simp only [Lane.seeing, service, tune]) contact

theorem setOffset_keeps (m : Member) (gain average : Nat) (p : Part) (blind : (p.lane m.lane).seeing = false) :
    Keeps p (setOffset m gain average p) := by
  unfold setOffset
  dsimp only
  split
  · exact failMember_keeps _ _ p blind
  · refine .trans ?_ (modifyMember_keeps _ _ _)
    exact setLane_same_keeps p _ _ rfl rfl rfl rfl rfl rfl rfl rfl

theorem closeGain_keeps (m : Member) (trial base passing average : Nat) (p : Part)
    (blind : (p.lane m.lane).seeing = false) : Keeps p (closeGain m trial base passing average p) := by
  unfold closeGain
  extract_lets limit passed newBase newPassing told
  split
  · refine .trans ?_ (modifyMember_keeps _ _ _)
    exact setLane_same_keeps p _ _ rfl rfl rfl rfl rfl rfl rfl rfl
  · split
    · exact setOffset_keeps told _ _ p blind
    · split
      · exact failMember_keeps told _ p blind
      · exact setOffset_keeps told _ _ p blind

theorem closePhase_keeps (m : Member) (average : Nat) (p : Part) (blind : (p.lane m.lane).seeing = false) :
    Keeps p (closePhase m average p) := by
  unfold closePhase
  split
  · exact closeGain_keeps _ _ _ _ _ p blind
  · split
    · exact failMember_keeps _ _ p blind
    · exact setOffset_keeps _ _ _ p blind
  · split
    · exact succeedMember_keeps _ _ p
    · exact failMember_keeps _ _ p blind
  · exact .refl p

theorem Part.member?_lane {p : Part} {n : LaneNo} {m : Member} (h : p.member? n = some m) : m.lane = n := by
  unfold Part.member? at h
  split at h
  · split at h
    · exact beq_iff_eq.mp (List.find?_some (p := fun m : Member => m.lane == n) h)
    · cases h
  · cases h

theorem handReading_keeps (n : LaneNo) (conditioned : Nat) (clamped : Bool) (p : Part)
    (blind : (p.lane n).seeing = false) : Keeps p (handReading n conditioned clamped p) := by
  unfold handReading
  split
  · exact .refl p
  · rename_i m found
    split
    · exact .refl p
    · dsimp only
      split
      · exact modifyMember_keeps p _ _
      · refine (closePhase_keeps _ _ p ?_).trans (completeBatch_keeps _)
        show (p.lane m.lane).seeing = false
        rw [Part.member?_lane found]
        exact blind

/-! ## Faults and claims -/

/-- A lane faults, whatever its rail counter was: the record it takes fits (R102, R103). -/
theorem faultLane_keeps {p : Part} (n : LaneNo) (kind : LaneFaultKind) (q : Part)
    (sound : Sound p (q.setLane n ((q.lane n).faultWith kind))) (axis : SameAxis p q) : Keeps p (faultLane n kind q) := by
  unfold faultLane
  refine .trans (.trans (.trans (.of_recompute (sound.trans (withdraw_sound n _)) fun _ => ?_) (raise_keeps _ _))
    (attend_keeps _ _)) (completeBatch_keeps _)
  have lane : SameAxis q (q.setLane n ((q.lane n).faultWith kind)) := ⟨rfl, rfl, rfl⟩
  exact ((axis.trans lane).trans (withdraw_sameAxis n _)).ready

theorem driveClaim_keeps (n : LaneNo) (p : Part) : Keeps p (driveClaim n p) := by
  have fault : Keeps p (faultLane n .drive p) :=
    faultLane_keeps n _ p (setLane_sound p n _ fun _ => Lane.faultWith_fits _ _) ⟨rfl, rfl, rfl⟩
  unfold driveClaim
  split
  · exact fault
  · exact fault
  · exact fault
  · exact .refl p
  · exact .refl p

theorem Lane.boardClaim_fits (l : Lane) (h : laneRecordFits l) : laneRecordFits l.boardClaim := by
  unfold Lane.boardClaim
  split
  · exact h
  · exact Lane.faultWith_fits _ _

theorem Lane.boardRelease_fits (l : Lane) (h : laneRecordFits l) : laneRecordFits l.boardRelease := by
  unfold Lane.boardRelease
  split
  · exact Lane.returnToService_fits l
  · exact h

theorem Part.lane_modifyBoardLanes (p : Part) (b : BoardNo) (f : Lane → Lane) (n : LaneNo) :
    (p.modifyBoardLanes b f).lane n = if boardOf n = b then f (p.lane n) else p.lane n := by
  simp only [Part.modifyBoardLanes, Part.lane, Part.setLanes_lanes, Vector.getElem_ofFn, Fin.eta]

theorem modifyBoardLanes_sound (p : Part) (b : BoardNo) (f : Lane → Lane)
    (fits : ∀ l, laneRecordFits l → laneRecordFits (f l)) : Sound p (p.modifyBoardLanes b f) := by
  refine setLanes_sound p _ fun h n => ?_
  have lane := p.lane_modifyBoardLanes b f n
  rw [Part.modifyBoardLanes] at lane
  rw [lane]
  split
  · exact fits _ (h n)
  · exact h n

theorem setLanes_sameAxis (p : Part) (x : Vector Lane 32) : SameAxis p (p.setLanes x) := ⟨rfl, rfl, rfl⟩

theorem boardClaim_keeps (b : BoardNo) (p : Part) : Keeps p (boardClaim b p) := by
  have axis : SameAxis p (p.modifyBoardLanes b Lane.boardClaim) := setLanes_sameAxis p _
  unfold boardClaim
  refine .trans (.of_recompute ((modifyBoardLanes_sound p b _ Lane.boardClaim_fits).trans
    (foldl_sound _ (fun q n => withdraw_sound n q) _ _)) fun _ => ?_) (completeBatch_keeps _)
  exact (axis.trans (foldl_sameAxis _ (fun q n => withdraw_sameAxis n q) _ _)).ready

/-! ## Readings -/

/-- A reading counted by the contact machine leaves a seeing lane, with no seed pending, fitting. -/
theorem Lane.sense_fits (l : Lane) (seeing : l.seeing = true) (seed : l.seedPending = false) (h : laneRecordFits l) :
    laneRecordFits l.sense.1 := by
  obtain ⟨_, _, empty, bottom, rail, out⟩ := h
  have fits : ∀ k : Lane, k.seeing = true → k.seedPending = false → k.railCount = l.railCount →
      k.service = l.service → (k.contact = .empty → k.exitCount = 0 ∧ k.distance = 0) →
      (k.contact = .bottomed → k.enterCount = 0) → laneRecordFits k := fun k see pend count service e b =>
    ⟨fun blind => absurd (see.symm.trans blind) (by simp), fun p => absurd (pend.symm.trans p) (by simp), e, b,
      count ▸ rail, fun h => count.trans (out (service ▸ h))⟩
  unfold Lane.sense
  split
  · rename_i contact
    unfold Lane.senseEmpty
    dsimp only
    split
    · exact fits _ seeing seed rfl rfl (fun e => by cases e) (fun b => by cases b)
    · exact fits _ seeing seed rfl rfl (fun _ => empty contact) (fun b => by rw [contact] at b; cases b)
  · rename_i contact
    unfold Lane.senseContact
    dsimp only
    split
    · exact fits _ seeing seed rfl rfl (fun _ => ⟨rfl, rfl⟩) (fun b => by cases b)
    · split
      · exact fits _ seeing seed rfl rfl (fun e => by cases e) (fun _ => rfl)
      · exact fits _ seeing seed rfl rfl (fun e => by rw [contact] at e; cases e) (fun b => by rw [contact] at b; cases b)
  · rename_i contact
    unfold Lane.senseBottomed
    dsimp only
    split
    · split
      · exact fits _ seeing seed rfl rfl (fun _ => ⟨rfl, rfl⟩) (fun b => by cases b)
      · exact fits _ seeing seed rfl rfl (fun e => by cases e) (fun b => by cases b)
    · exact fits _ seeing seed rfl rfl (fun e => by rw [contact] at e; cases e) (fun _ => bottom contact)

/-- The contact machine changes the contact state only where it hands a change on (R105 to R108). -/
theorem Lane.sense_of_no_change (l : Lane) (none : l.sense.2 = none) :
    l.sense.1.contact = l.contact := by
  unfold Lane.sense at none ⊢
  split at none
  · rename_i contact
    unfold Lane.senseEmpty at none ⊢
    dsimp only at none ⊢
    split at none
    · cases none
    · rename_i stays
      rw [if_neg stays]
  · rename_i contact
    unfold Lane.senseContact at none ⊢
    dsimp only at none ⊢
    split at none
    · cases none
    · rename_i out
      split at none
      · cases none
      · rename_i stays
        rw [if_neg out, if_neg stays]
  · rename_i contact
    unfold Lane.senseBottomed at none ⊢
    dsimp only at none ⊢
    split at none
    · split at none <;> cases none
    · rename_i stays
      rw [if_neg stays]

theorem Lane.sense_seeing (l : Lane) : l.sense.1.seeing = l.seeing := by
  unfold Lane.sense
  split
  · unfold Lane.senseEmpty
    dsimp only
    split <;> rfl
  · unfold Lane.senseContact
    dsimp only
    split
    · rfl
    · split <;> rfl
  · unfold Lane.senseBottomed
    dsimp only
    split
    · split <;> rfl
    · rfl

theorem attributeContact_keeps (n : LaneNo) (p : Part) : Keeps p (attributeContact n p) := by
  have cover : ∀ h : Hide, ∃ c, h.cover n.val = { h with coverage := some c } := fun h => by
    unfold Hide.cover
    split
    · exact ⟨_, rfl⟩
    · exact ⟨_, rfl⟩
  unfold attributeContact
  split
  · refine modifyHide_keeps p _ _ (fun h => ?_) (fun h => ?_) (fun h => ?_) (fun h => ?_) (fun h => ?_) <;>
    · obtain ⟨c, e⟩ := cover h
      rw [e]
  · split
    · exact .refl p
    · exact raise_keeps _ p

theorem attributeBottom_keeps (p : Part) : Keeps p (attributeBottom p) := by
  unfold attributeBottom
  split
  · exact modifyHide_keeps p _ _ (fun _ => rfl) (fun _ => rfl) (fun _ => rfl) (fun _ => rfl) (fun _ => rfl)
  · exact .refl p

/-- What a change of the contact machine is handed on to keeps the invariants; with no change nothing is. -/
theorem handOnContact_keeps {p : Part} (n : LaneNo) (change : Option ContactChange) (q : Part) (sound : Sound p q)
    (ready : notReadyIsHeld p → notReadyIsHeld q) (none : change = none → Keeps p q) :
    Keeps p (handOnContact n change q) := by
  have after : ∀ r, Keeps q r → Keeps p (recompute r) := fun r k =>
    .of_recompute (sound.trans k.toSound) fun t h => k.ready (sound.tables t) (ready h)
  unfold handOnContact
  split
  · exact none rfl
  · exact (after _ (attributeContact_keeps n q)).trans (raise_keeps _ _)
  · exact (after _ (attributeBottom_keeps q)).trans (raise_keeps _ _)
  · exact after q (.refl q)
  · exact after q (.refl q)

theorem filterReference_keeps (n : LaneNo) (p : Part) : Keeps p (filterReference n p) := by
  have filtered : Keeps p (p.setLane n (p.lane n).filter) := setLane_same_keeps p n _ rfl rfl rfl rfl rfl rfl rfl rfl
  unfold filterReference
  split
  · exact .refl p
  · dsimp only
    split
    · exact filtered
    · exact filtered.trans (driftRequest_keeps n _)

theorem senseReading_keeps (n : LaneNo) (p : Part) (seeing : (p.lane n).seeing = true)
    (seed : (p.lane n).seedPending = false) : Keeps p (senseReading n p) := by
  have fits := Lane.sense_fits (p.lane n) seeing seed
  have handed : Keeps p (handOnContact n (p.lane n).sense.2 (p.setLane n (p.lane n).sense.1)) :=
    handOnContact_keeps n _ _ (setLane_sound p n _ fits) (ready_of_hides rfl rfl rfl rfl) fun none =>
      setLane_keeps p n _ fits (Lane.sense_seeing _) (Lane.sense_of_no_change _ none)
  unfold senseReading
  dsimp only
  split
  · exact handed.trans (filterReference_keeps n _)
  · exact handed

theorem Lane.seed_fits (l : Lane) (seed : l.seedPending = true) (h : laneRecordFits l) : laneRecordFits l.seed := by
  obtain ⟨_, pending, empty, _, rail, out⟩ := h
  exact laneRecordFits_of_dropped _ (pending seed) rfl rfl (empty (pending seed)).2 rail out

theorem pastRailCheck_keeps (n : LaneNo) (raw : Nat) (p : Part) : Keeps p (pastRailCheck n raw p) := by
  unfold pastRailCheck
  dsimp only
  split
  · rename_i seeing
    split
    · rename_i seed
      exact setLane_keeps p n _ (Lane.seed_fits _ seed) rfl rfl
    · rename_i seed
      exact senseReading_keeps n p seeing (Bool.not_eq_true _ ▸ seed)
  · rename_i blind
    split
    · exact handReading_keeps n _ _ p (Bool.not_eq_true _ ▸ blind)
    · exact .refl p

theorem counted_le (counts : Bool) (k : Nat) : counted counts k ≤ k + 1 := by
  unfold counted
  split
  · exact Nat.le_refl _
  · exact Nat.zero_le _

/-- A rail counter that has not reached its limit leaves an IN_SERVICE lane fitting (R102). -/
theorem Lane.railStep_fits (l : Lane) (raw : Nat) (service : l.service = .inService)
    (limit : (l.railStep raw).railCount ≠ Config.railReadings) (h : laneRecordFits l) :
    laneRecordFits (l.railStep raw) := by
  obtain ⟨blind, seed, empty, bottom, rail, _⟩ := h
  refine ⟨blind, seed, empty, bottom, ?_, fun out => absurd service out⟩
  have step : (l.railStep raw).railCount ≤ l.railCount + 1 := counted_le _ _
  simp only [Config.railReadings] at limit
  omega

theorem takeReading_keeps (n : LaneNo) (raw : Nat) (p : Part) : Keeps p (takeReading n raw p) := by
  have readFits : laneRecordFits (p.lane n) → laneRecordFits ((p.lane n).read raw) := fun h =>
    h.same rfl rfl rfl rfl rfl rfl rfl rfl
  unfold takeReading
  dsimp only
  split
  · rename_i service
    split
    · refine faultLane_keeps n .sensor _ ?_ ⟨rfl, rfl, rfl⟩
      have twice : ∀ a b : Lane, (p.setLane n a).setLane n b = p.setLane n b := fun a b => by
        simp only [Part.setLane, Vector.set_set, Part.setLanes]
      rw [twice]
      exact setLane_sound p n _ fun _ => Lane.faultWith_fits _ _
    · rename_i limit
      exact (setLane_keeps p n _ (fun h => Lane.railStep_fits _ raw service limit (readFits h)) rfl rfl).trans
        (pastRailCheck_keeps n raw _)
  · exact (setLane_keeps p n _ readFits rfl rfl).trans (pastRailCheck_keeps n raw _)

theorem startScan_keeps (n : LaneNo) (p : Part) : Keeps p (startScan n p) := by
  unfold startScan
  split
  · exact SameCore.keeps (by constructor <;> first | rfl | exact id)
  · exact .refl p

/-! ## Reseeding and the contact distance -/

theorem reseed_keeps (n : LaneNo) (p : Part) : Keeps p (reseed n p) :=
  .trans (changeLane_keeps p n { (p.lane n).dropContact with reference := (p.lane n).lastConditioned } fun fits =>
    fits.dropped rfl rfl rfl rfl rfl rfl) (raise_keeps _ _)

theorem reseedTest_keeps (n : LaneNo) (p : Part) : Keeps p (reseedTest n p) := by
  unfold reseedTest
  split
  · exact reseed_keeps n p
  · exact .refl p

/-- A lane out of EMPTY may have covered any distance. -/
theorem laneRecordFits.withDistance {l : Lane} (h : laneRecordFits l) (contact : l.contact ≠ .empty) (d : Nat) :
    laneRecordFits { l with distance := d } := by
  obtain ⟨blind, seed, _, bottom, rail, out⟩ := h
  exact ⟨blind, seed, fun e => absurd e contact, bottom, rail, out⟩

theorem forwardLane_keeps (n : LaneNo) (p : Part) : Keeps p (forwardLane n p) := by
  unfold forwardLane
  split
  · rename_i contact
    refine .trans ?_ (reseedTest_keeps n _)
    refine setLane_keeps p n _ (fun fits => fits.withDistance ?_ _) rfl rfl
    simpa [Lane.inContact] using contact
  · exact .refl p

theorem forwardLanes_keeps (p : Part) : Keeps p (forwardLanes p) := foldl_keeps _ (fun q n => forwardLane_keeps n q) _ p

end Sys2Proof.Machine
end

section
/-! PROOFS. The hide table keeps the invariants: tickets that no record holds, records created and bound, the four marks,
edges, aborts. -/

namespace Sys2Proof.Machine

/-! ## A free ticket (R23) -/

theorem iterate_nextTicketAfter_of_le (x d : Nat) (h : x + d ≤ 65535) : nextTicketAfter^[d] x = x + d := by
  induction d with
  | zero => rfl
  | succ d ih =>
    rw [Function.iterate_succ_apply', ih (by omega), nextTicketAfter, if_neg (by omega), Nat.add_assoc]

theorem iterate_nextTicketAfter_of_full (x d : Nat) (full : 65535 ≤ x) (h : d + 1 ≤ 65535) :
    nextTicketAfter^[d + 1] x = d + 1 := by
  rw [Function.iterate_succ_apply, nextTicketAfter, if_pos full, iterate_nextTicketAfter_of_le 1 d (by omega),
    Nat.add_comm]

/-- Fewer than 65535 steps of the ticket counter do not lead back. -/
theorem iterate_nextTicketAfter_ne (x d : Nat) (pos : 0 < d) (small : d < 65535) : nextTicketAfter^[d] x ≠ x := by
  by_cases full : 65535 ≤ x
  · obtain ⟨k, rfl⟩ := Nat.exists_eq_succ_of_ne_zero (Nat.pos_iff_ne_zero.mp pos)
    rw [iterate_nextTicketAfter_of_full x k full (by omega)]
    omega
  · by_cases below : x + d ≤ 65535
    · rw [iterate_nextTicketAfter_of_le x d below]
      omega
    · obtain ⟨k, rfl⟩ : ∃ k, d = (k + 1) + (65535 - x) := ⟨d - (65535 - x) - 1, by omega⟩
      rw [Function.iterate_add_apply, iterate_nextTicketAfter_of_le x (65535 - x) (by omega),
        iterate_nextTicketAfter_of_full _ k (by omega) (by omega)]
      omega

theorem iterate_nextTicketAfter_inj (x i j : Nat) (lt : i < j) (small : j < 65535) :
    nextTicketAfter^[i] x ≠ nextTicketAfter^[j] x := by
  obtain ⟨d, rfl⟩ := Nat.exists_eq_add_of_lt lt
  rw [show i + d + 1 = (d + 1) + i from by omega, Function.iterate_add_apply]
  exact (iterate_nextTicketAfter_ne _ (d + 1) (by omega) (by omega)).symm

/-- Either the ticket found is free, or all those tried and it are held. -/
theorem freeTicket_free_or_held (used : List Nat) (fuel t : Nat) :
    freeTicket used fuel t ∉ used ∨ ∀ j : Nat, j ≤ fuel → nextTicketAfter^[j] t ∈ used := by
  induction fuel generalizing t with
  | zero =>
    by_cases h : t ∈ used
    · exact .inr fun j hj => by rwa [Nat.le_zero.mp hj]
    · exact .inl h
  | succ k ih =>
    unfold freeTicket
    split
    case isTrue held =>
      refine (ih (nextTicketAfter t)).imp_right fun later j hj => ?_
      cases j with
      | zero => exact held
      | succ j => exact later j (by omega)
    case isFalse free => exact .inl free

/-- Among as many tickets as there are records, and one more, one is free (R23). -/
theorem freeTicket_not_mem (used : List Nat) (t : Nat) (small : used.length < 65534) :
    freeTicket used used.length t ∉ used := by
  rcases freeTicket_free_or_held used used.length t with free | held
  · exact free
  · have nodup : ((List.range (used.length + 1)).map fun j => nextTicketAfter^[j] t).Nodup := by
      refine List.Nodup.map_on (fun i hi j hj same => ?_) List.nodup_range
      rw [List.mem_range] at hi hj
      rcases Nat.lt_trichotomy i j with lt | rfl | gt
      · exact absurd same (iterate_nextTicketAfter_inj t i j lt (by omega))
      · rfl
      · exact absurd same.symm (iterate_nextTicketAfter_inj t j i gt (by omega))
    have within := (List.subperm_of_subset nodup (l₂ := used) (List.forall_mem_map.mpr fun j hj =>
      held j (by have := List.mem_range.mp hj; omega))).length_le
    rw [List.length_map, List.length_range] at within
    omega

theorem Part.ticket_not_mem (p : Part) (room : p.hides.length ≤ 8) : p.ticket ∉ p.hides.map (·.ticket) := by
  have free := freeTicket_not_mem (p.hides.map (·.ticket)) p.nextTicket (by rw [List.length_map]; omega)
  rwa [List.length_map] at free

/-- The tickets are distinct, so a record is the one found by its ticket. -/
theorem tablesAgree.eq_of_ticket {p : Part} (t : tablesAgree p) {ticket : Nat} {h : Hide}
    (found : p.hide? ticket = some h) {x : Hide} (m : x ∈ p.hides) (same : x.ticket = ticket) : x = h := by
  have byTicket := Part.hide?_of_mem t.tickets m
  rw [same, found] at byTicket
  exact (Option.some.inj byTicket).symm

/-! ## A record becomes SPLITTING -/

theorem Part.splitting?_of_not_isSome {p : Part} (h : ¬p.splitting?.isSome = true) : p.splitting? = none := by
  rwa [Option.isSome_iff_ne_none, not_not] at h

theorem Keeps.of_gapHandOn {p q : Part} (sound : Sound p q)
    (decided : tablesAgree p → wantedIsDecided p → wantedIsDecided q) : Keeps p (gapHandOn q) where
  toSound := sound.trans (gapHandOn_keeps q).toSound
  decided t d := changesGap_decided (gapHandOn_changesGap q) (decided t d)
  ready _ _ := gapHandOn_holds q

/-- A change of the records, with the hand-on to the axis and the recompute that follow it (R24, R72). -/
theorem Keeps.of_gapHandOn_recompute {p q : Part} (sound : Sound p q) : Keeps p (recompute (gapHandOn q)) :=
  .of_recompute (sound.trans (gapHandOn_keeps q).toSound) fun _ _ => gapHandOn_holds q

theorem becomeSplitting_keeps (h : Hide) (p : Part) (none : p.splitting? = none) : Keeps p (becomeSplitting h p) := by
  have split : Sound p (p.modifyHide h.ticket fun x => x.split (!p.gap.idleOn (h.snapshot.map (·.splitGap)))) :=
    .of_tables rfl rfl rfl rfl rfl rfl (modifyHide_split_tables p _ _ none)
  unfold becomeSplitting
  exact (((Keeps.of_gapHandOn_recompute (split.trans (endExcursionRun_keeps _).toSound)).trans
    (clearPerHideTallies_keeps _)).trans (raise_keeps _ _)).trans (stopAtClearTest_keeps _)

theorem crossKnife_keeps (h : Hide) (p : Part) : Keeps p (crossKnife h p) := by
  unfold crossKnife
  split
  · exact modifyHide_keeps p _ _ (fun _ => rfl) (fun _ => rfl) (fun _ => rfl) (fun _ => rfl) (fun _ => rfl)
  · rename_i none
    exact becomeSplitting_keeps h p (Part.splitting?_of_not_isSome none)

theorem promoteWaiting_keeps (p : Part) : Keeps p (promoteWaiting p) := by
  unfold promoteWaiting
  split
  · exact .refl p
  · rename_i none
    split
    · exact becomeSplitting_keeps _ p (Part.splitting?_of_not_isSome none)
    · exact .refl p

/-! ## The other marks -/

theorem countCleared_keeps (p : Part) (code : Nat) : Keeps p (p.modifyPlan code Plan.countCleared) :=
  modifyPlan_keeps p code _ (fun _ => rfl) (fun _ => rfl) (fun _ => rfl) (fun _ => rfl)

theorem countAborted_keeps (p : Part) (code : Nat) : Keeps p (p.modifyPlan code Plan.countAborted) :=
  modifyPlan_keeps p code _ (fun _ => rfl) (fun _ => rfl) (fun _ => rfl) (fun _ => rfl)

theorem clearRecord_keeps (h : Hide) (p : Part) : Keeps p (clearRecord h p) := by
  unfold clearRecord
  refine .trans ?_ (stopAtClearTest_keeps _)
  have cleared : Sound p (endExcursionRun ((p.modifyHide h.ticket Hide.clear).modifyPlan h.article Plan.countCleared)) :=
    ((modifyHide_sound p h.ticket Hide.clear (fun _ => rfl) (fun _ => rfl) fun _ s => by cases s).trans
      (countCleared_keeps _ _).toSound).trans (endExcursionRun_keeps _).toSound
  have told := cleared.trans (((comparePerHideTallies_keeps _).trans (attend_keeps _ .hideDone)).trans
    ((raiseAll_keeps h.clearedEvents _).trans (promoteWaiting_keeps _))).toSound
  have settled := told.trans (gapCleared_keeps _).toSound
  exact .of_recompute (settled.trans (formationTest_keeps _).toSound) fun t _ =>
    (formationTest_keeps _).ready (settled.tables t) (gapCleared_holds _)

theorem crossMaximum_keeps (h : Hide) (p : Part) : Keeps p (crossMaximum h p) := by
  unfold crossMaximum
  refine .trans (.trans (.trans ?_ (putHold_keeps _ .overlength true rfl)) (attend_keeps _ _)) (raise_keeps _ _)
  exact modifyHide_keeps p _ _ (fun _ => rfl) (fun _ => rfl) (fun _ => rfl) (fun _ => rfl) (fun _ => rfl)

theorem crossApproach_keeps (ticket : Nat) (p : Part) : Keeps p (crossApproach ticket p) := by
  unfold crossApproach
  refine .trans (.of_notReadyTest ?_ fun _ => ?_) (stopBeforeNext_keeps _)
  · exact modifyHide_sound p _ _ (fun _ => rfl) (fun _ => rfl) fun _ s => s
  · exact decided_of_splitFields rfl rfl rfl (modifyHide_splitFields p _ _ fun _ _ _ => ⟨rfl, fun _ => rfl⟩)

theorem testApproach_keeps (ticket : Nat) (p : Part) : Keeps p (testApproach ticket p) := by
  unfold testApproach
  split
  · split
    · exact crossApproach_keeps ticket p
    · exact .refl p
  · exact .refl p

theorem testKnife_keeps (ticket : Nat) (p : Part) : Keeps p (testKnife ticket p) := by
  unfold testKnife
  split
  · split
    · exact crossKnife_keeps _ p
    · exact .refl p
  · exact .refl p

theorem testTrail_keeps (ticket : Nat) (p : Part) : Keeps p (testTrail ticket p) := by
  unfold testTrail
  split
  · split
    · exact clearRecord_keeps _ p
    · exact .refl p
  · exact .refl p

theorem testMaximum_keeps (ticket : Nat) (p : Part) : Keeps p (testMaximum ticket p) := by
  unfold testMaximum
  split
  · split
    · exact crossMaximum_keeps _ p
    · exact .refl p
  · exact .refl p

theorem testMarks_keeps (ticket : Nat) (p : Part) : Keeps p (testMarks ticket p) :=
  (((testApproach_keeps ticket p).trans (testKnife_keeps ticket _)).trans (testTrail_keeps ticket _)).trans
    (testMaximum_keeps ticket _)

theorem testAllMarks_keeps (p : Part) : Keeps p (testAllMarks p) :=
  foldl_keeps _ (fun q t => testMarks_keeps t q) _ p

/-! ## Records created and bound -/

theorem namingIn_append (l k : List Hide) (c : Nat) : namingIn (l ++ k) c = namingIn l c + namingIn k c := by
  simp only [namingIn, List.filter_append, List.length_append]

theorem namingIn_newHide (ticket : Nat) (tag : Word) (article : Nat) (unannounced : Bool) (c : Nat) :
    namingIn [newHide ticket tag article unannounced] c = if c = article then 1 else 0 := by
  by_cases e : c = article
  · subst e
    simp [namingIn, newHide]
  · simp [namingIn, newHide, e, Ne.symm e]

/-- A record created in a table with room, on a plan of the article table, leaves the tables in agreement (R15, R23). -/
theorem createHide_tables (tag : Word) (article : Nat) (unannounced : Bool) (p : Part) (room : p.hides.length < 8)
    (plan : ∃ a ∈ p.articles, a.code = article) (t : tablesAgree p) :
    tablesAgree (createHide tag article unannounced p) := by
  have kept : ∀ c, (∃ a ∈ p.articles, a.code = c) →
      ∃ b ∈ p.articles.map (fun a => if a.code == article then a.pin else a), b.code = c := by
    rintro c ⟨a, m, e⟩
    refine ⟨_, List.mem_map_of_mem m, ?_⟩
    split <;> exact e
  refine (tablesAgree_iff _).mpr ⟨?_, ?_, ?_, ?_, ?_⟩
  · refine t.articlesFit.pin article ?_ fun d ne => ?_
    · simp only [createHide, namingIn_append, namingIn_newHide, if_pos]
    · simp only [createHide, namingIn_append, namingIn_newHide, if_neg ne, Nat.add_zero]
  · simp only [createHide, List.length_append, List.length_singleton]
    omega
  · simp only [createHide, List.map_append, List.map_singleton]
    refine List.Nodup.append t.tickets (List.nodup_singleton _) (List.disjoint_singleton.mpr ?_)
    exact p.ticket_not_mem t.hidesFit.capacity
  · intro h m
    simp only [createHide, List.mem_append, List.mem_singleton] at m
    rcases m with m | rfl
    · exact kept _ (t.hidesFit.plans h m)
    · exact kept _ plan
  · simp only [createHide, List.filter_append, newHide, List.length_append]
    simpa using t.hidesFit.splitting

/-- A record that is no match at the end of a list is not found. -/
theorem find?_append_of_not {α : Type} (l : List α) (a : α) (kind : α → Bool) (h : kind a = false) :
    (l ++ [a]).find? kind = l.find? kind := by
  simp [List.find?_append, h]

theorem createHide_keeps (tag : Word) (article : Nat) (unannounced : Bool) (p : Part) (room : p.hides.length < 8)
    (plan : ∃ a ∈ p.articles, a.code = article) : Keeps p (createHide tag article unannounced p) where
  toSound := .of_tables rfl rfl rfl rfl rfl rfl (createHide_tables tag article unannounced p room plan)
  decided _ := decided_of_splitFields rfl rfl rfl (by
    simp only [Part.splitFields, Part.splitting?, createHide]
    rw [find?_append_of_not _ _ _ rfl])
  ready _ := ready_of_awaitedGap rfl rfl (by
    simp only [Part.awaitedGap, Part.oldestApproached?, createHide]
    rw [find?_append_of_not _ _ _ rfl])

/-- In agreeing tables no SPLITTING record is bound: the record of the ticket is another one. -/
theorem bindHide_keeps (ticket : Nat) (lead : Pos) (trail : Option Pos) (p : Part)
    (other : tablesAgree p → ∀ h ∈ p.hides, h.ticket = ticket → h.state ≠ .splitting) :
    Keeps p (bindHide ticket lead trail p) := by
  unfold bindHide
  split
  · exact .refl p
  · refine .trans (.trans (.trans (.of_gapHandOn ?_ fun t => ?_) (raise_keeps _ _)) (stopAtClearTest_keeps _))
      (testMarks_keeps _ _)
    · exact modifyHide_sound p _ _ (fun _ => rfl) (fun _ => rfl) fun _ s => by cases s
    · refine decided_of_splitFields rfl rfl rfl (modifyHide_splitFields p _ _ fun h m e => ?_)
      have notSplitting : (h.state == .splitting) = false := beq_false_of_ne (other t h m e)
      exact ⟨notSplitting.symm, fun s => by rw [notSplitting] at s; cases s⟩

/-- The record created last is the only one of its ticket, and it is ANNOUNCED. -/
theorem createHide_announced (tag : Word) (article : Nat) (unannounced : Bool) (p : Part) (q : Part)
    (hides : q.hides = (createHide tag article unannounced p).hides) :
    tablesAgree q → ∀ h ∈ q.hides, h.ticket = p.ticket → h.state ≠ .splitting := by
  intro t h m e
  have last : newHide p.ticket tag article unannounced ∈ q.hides := by
    rw [hides]
    simp only [createHide, List.mem_append, List.mem_singleton, or_true]
  have found := Part.hide?_of_mem t.tickets last
  rw [t.eq_of_ticket found m e]
  exact fun s => by cases s

theorem Part.claim_ok {p : Part} {code article : Nat} (h : p.claim code = .ok article) :
    ∃ a ∈ p.articles, a.code = article ∧ a.state = .active := by
  have found : ∀ a, (if code = 0 then p.defaultPlan? else p.plan? code) = some a → a ∈ p.articles := by
    intro a e
    split at e
    · exact List.mem_of_find?_eq_some e
    · exact List.mem_of_find?_eq_some e
  unfold Part.claim at h
  split at h
  · cases h
  · rename_i a e
    split at h
    · cases h
    · rename_i active
      exact ⟨a, found a e, Except.ok.inj h, active⟩

theorem Part.claim_plan {p : Part} {code article : Nat} (h : p.claim code = .ok article) :
    ∃ a ∈ p.articles, a.code = article := by
  obtain ⟨a, m, e, _⟩ := Part.claim_ok h
  exact ⟨a, m, e⟩

theorem Part.adoptable?_eq_some {p : Part} {article : Nat} (h : p.adoptable? = some article) :
    p.hides.length < 8 ∧ p.claim 0 = .ok article := by
  unfold Part.adoptable? at h
  split at h
  · rename_i adopts
    refine ⟨adopts.2, ?_⟩
    cases e : p.claim 0 with
    | error c => simp [e, Except.toOption] at h
    | ok a => simpa [e, Except.toOption] using h
  · cases h

/-! ## Edges -/

theorem tellUnbound_keeps (lead : Pos) (p : Part) : Keeps p (tellUnbound lead p) :=
  (attend_keeps p _).trans (raise_keeps _ _)

theorem holdUnbound_keeps (lead : Pos) (p : Part) : Keeps p (holdUnbound lead p) :=
  ((setUnbound_keeps p _).trans (putHold_keeps _ .unboundEdge true rfl)).trans (tellUnbound_keeps lead _)

theorem confirmLead_keeps (lead : Pos) (p : Part) : Keeps p (confirmLead lead p) := by
  unfold confirmLead
  split
  · exact tellUnbound_keeps lead p
  · split
    · rename_i h found
      refine bindHide_keeps _ _ _ p fun t x m e => ?_
      rw [t.eq_of_ticket (Part.hide?_of_mem t.tickets (List.mem_of_find?_eq_some found)) m e]
      have announced := List.find?_some found
      exact fun s => by simp [s] at announced
    · split
      · rename_i article adopts
        obtain ⟨room, claim⟩ := Part.adoptable?_eq_some adopts
        exact (createHide_keeps 0 article true p room (Part.claim_plan claim)).trans
          (bindHide_keeps _ _ _ _ (createHide_announced 0 article true p _ rfl))
      · exact holdUnbound_keeps lead p

theorem confirmTrail_keeps (trail : Pos) (p : Part) : Keeps p (confirmTrail trail p) := by
  unfold confirmTrail
  split
  · refine .trans ?_ (testMarks_keeps _ _)
    exact modifyHide_keeps p _ _ (fun _ => rfl) (fun _ => rfl) (fun _ => rfl) (fun _ => rfl) (fun _ => rfl)
  · split
    · exact setUnbound_keeps p _
    · exact .refl p
    · exact .refl p

/-! ## Aborts -/

theorem abortRecord_sound (h : Hide) (cause : AbortCause) (p : Part) : Sound p (abortRecord h cause p) := by
  have aborted : Sound p ((p.modifyHide h.ticket fun x => x.abort cause).modifyPlan h.article Plan.countAborted) :=
    (modifyHide_sound p h.ticket (Hide.abort · cause) (fun _ => rfl) (fun _ => rfl) fun _ s => by cases s).trans
      (countAborted_keeps _ _).toSound
  unfold abortRecord
  dsimp only
  split
  · exact (aborted.trans (endExcursionRun_keeps _).toSound).trans (clearPerHideTallies_keeps _).toSound
  · exact aborted

/-- An ANNOUNCED record that is aborted was neither SPLITTING nor past its approach point. -/
theorem abortAnnounced_keeps (ticket : Nat) (h : Hide) (p : Part) (found : p.hide? ticket = some h)
    (announced : h.state = .announced) : Keeps p (abortAnnounced h p) := by
  have only : tablesAgree p → ∀ x ∈ p.hides, x.ticket = h.ticket → x.state = .announced := fun t x m e => by
    rwa [t.eq_of_ticket found m (e.trans (Part.hide?_ticket found))]
  have aborted : Keeps p (p.modifyHide h.ticket fun x => x.abort .host) :=
    { toSound := modifyHide_sound p _ _ (fun _ => rfl) (fun _ => rfl) fun _ s => by cases s
      decided := fun t => decided_of_splitFields rfl rfl rfl (modifyHide_splitFields p _ _ fun x m e =>
        ⟨by rw [only t x m e]; rfl, fun s => by rw [only t x m e] at s; cases s⟩)
      ready := fun t => ready_of_awaitedGap rfl rfl (modifyHide_awaitedGap p _ _ fun x m e =>
        ⟨by simp only [Hide.approached, only t x m e]; rfl, fun s => by simp [Hide.approached, only t x m e] at s⟩) }
  have record : abortRecord h .host p =
      (p.modifyHide h.ticket fun x => x.abort .host).modifyPlan h.article Plan.countAborted := by
    unfold abortRecord
    rw [if_neg (by rw [announced]; exact fun s => by cases s)]
  unfold abortAnnounced
  rw [record]
  exact ((aborted.trans (countAborted_keeps _ _)).trans (raise_keeps _ _)).trans (stopAtClearTest_keeps _)

theorem abortInPassage_keeps (h : Hide) (p : Part) : Keeps p (abortInPassage h p) := by
  unfold abortInPassage
  refine .trans (.of_gapHandOn_recompute ?_) (stopAtClearTest_keeps _)
  exact (abortRecord_sound h .host p).trans (((putHold_keeps _ .hideAborted true rfl).trans (raise_keeps _ _)).trans
    (promoteWaiting_keeps _)).toSound

theorem stopHides_sound (p : Part) : Sound p (stopHides p) := by
  unfold stopHides
  exact (foldl_sound _ (fun q h => (abortRecord_sound h .stop q).trans (raise_keeps _ _).toSound) _ p).trans
    (setUnbound_keeps _ _).toSound

end Sys2Proof.Machine
end

section
/-! PROOFS. The drive bus and the gap axis keep the invariants: the arbiter, sessions, echoes and board faults; gauge
pairs and moves. -/

namespace Sys2Proof.Machine

/-! ## The bus record -/

/-- What `busRecordFits` asks of the bus but for the retry counts. -/
def Bus.masterFits (u : Bus) : Prop :=
  (u.selectTimer.isSome = true ↔ u.master = .selecting u.pointer) ∧
    (u.releaseTimer.isSome = true ↔ u.master = .releasing) ∧
    (u.dueNext.isSome = true ∨ u.dueAfter.isSome = true → u.master = .opened u.pointer ∨ u.master = .draining u.pointer) ∧
    (u.resetDrain = true → u.master = .draining u.pointer) ∧ ∀ b : BoardNo, u.master.board = some b → b = u.pointer

theorem busRecordFits_iff (p : Part) : busRecordFits p ↔ p.bus.masterFits ∧ ∀ n : LaneNo, (p.drive n).retry ≤ 1 := by
  simp only [busRecordFits, Bus.masterFits, and_assoc]

/-- Only the bus changes: its records fit as before. -/
theorem setBus_keeps (p : Part) (u : Bus) (fits : settledMeansApplied p → busRecordFits p →
    settledMeansApplied (p.setBus u) ∧ busRecordFits (p.setBus u)) : Keeps p (p.setBus u) where
  bus := fits
  axis fits mirror := ⟨gapRecordFits_congr rfl rfl rfl rfl rfl fits,
    holdsMirror_congr rfl rfl id rfl rfl rfl rfl rfl rfl mirror⟩
  level := levelTaken_congr rfl rfl
  lanes := laneRecordsFit_congr rfl
  tables := tablesAgree_congr rfl rfl
  decided _ := wantedIsDecided_congr rfl (Part.pressures_congr rfl rfl rfl rfl)
  ready _ := ready_of_hides rfl rfl rfl rfl

/-- The master's records change, the drive records stay. -/
theorem setBus_master_keeps (p : Part) (u : Bus) (drives : u.drives = p.bus.drives)
    (fits : p.bus.masterFits → u.masterFits) : Keeps p (p.setBus u) :=
  setBus_keeps p u fun settled record => by
    have drive : ∀ n, (p.setBus u).drive n = p.drive n := fun n => by
      simp only [Part.drive, Part.setBus_bus, drives]
    obtain ⟨master, retry⟩ := (busRecordFits_iff p).mp record
    refine ⟨fun n s => ?_, (busRecordFits_iff _).mpr ⟨fits master, fun n => ?_⟩⟩
    · rw [drive] at s ⊢
      exact settled n s
    · rw [drive]
      exact retry n

/-- The drive records change, the master's stay. -/
theorem setDrives_keeps (p : Part) (x : Vector Drive 32)
    (settled : settledMeansApplied p → ∀ n : LaneNo, (x[n.val]).state = .settled → (x[n.val]).applied = some (p.wanted n))
    (retry : ∀ n : LaneNo, (p.drive n).retry ≤ 1 → (x[n.val]).retry ≤ 1) : Keeps p (p.setBus { p.bus with drives := x }) :=
  setBus_keeps p _ fun applied record => by
    obtain ⟨master, count⟩ := (busRecordFits_iff p).mp record
    exact ⟨settled applied, (busRecordFits_iff _).mpr ⟨master, fun n => retry n (count n)⟩⟩

theorem setDrive_keeps (p : Part) (n : LaneNo) (d : Drive) (settled : d.state = .settled → d.applied = some (p.wanted n))
    (retry : (p.drive n).retry ≤ 1 → d.retry ≤ 1) : Keeps p (p.setDrive n d) := by
  have drive : ∀ m : LaneNo, (p.bus.drives.set n.val d)[m.val] = if n = m then d else p.drive m := fun m => by
    simp [Part.drive, Vector.getElem_set, Fin.ext_iff]
  refine setDrives_keeps p _ (fun applied m => ?_) (fun m => ?_)
  · rw [drive]
    split
    · rename_i e
      rw [← e]
      exact settled
    · exact applied m
  · rw [drive]
    split
    · rename_i e
      rw [← e]
      exact retry
    · exact id

theorem modifyBoardDrives_keeps (p : Part) (b : BoardNo) (f : Drive → Drive)
    (settled : ∀ d, (f d).state = .settled → d.state = .settled ∧ (f d).applied = d.applied)
    (retry : ∀ d, d.retry ≤ 1 → (f d).retry ≤ 1) : Keeps p (p.modifyBoardDrives b f) := by
  unfold Part.modifyBoardDrives
  refine setDrives_keeps p _ (fun applied n => ?_) (fun n => ?_)
  · rw [Vector.getElem_ofFn]
    split
    · intro s
      obtain ⟨before, same⟩ := settled _ s
      rw [same]
      exact applied n before
    · exact applied n
  · rw [Vector.getElem_ofFn]
    split
    · exact retry _
    · exact id

/-! ## The master -/

theorem Bus.release_fits (u : Bus) (interval : Nat) : (u.release interval).masterFits := by
  simp [Bus.masterFits, Bus.release, MasterState.board]

theorem releaseBus_keeps (p : Part) : Keeps p (releaseBus p) :=
  setBus_master_keeps p _ rfl fun _ => Bus.release_fits _ _

theorem Bus.select_fits (u : Bus) (b : BoardNo) (timeout : Nat) (idle : u.master = .idle) (h : u.masterFits) :
    (u.select b timeout).masterFits := by
  obtain ⟨_, release, due, drain, _⟩ := h
  simp only [idle, reduceCtorEq, iff_false, or_self, imp_false] at release due drain
  simp only [not_or] at due
  simp [Bus.masterFits, Bus.select, MasterState.board, release, due, drain]

theorem arbiterTest_keeps (p : Part) : Keeps p (arbiterTest p) := by
  unfold arbiterTest
  split
  · rename_i idle
    split
    · exact setBus_master_keeps p _ rfl (Bus.select_fits _ _ _ idle)
    · exact .refl p
  · exact .refl p

theorem thenArbiter_keeps {f : Part → Part} {p : Part} (h : Keeps p (f p)) : Keeps p (thenArbiter f p) := by
  unfold thenArbiter
  split
  · exact h.trans (arbiterTest_keeps _)
  · exact h

theorem setBoard_keeps (p : Part) (b : BoardNo) (s : BoardState) : Keeps p (p.setBoard b s) :=
  setBus_master_keeps p _ rfl id

theorem faultBoard_keeps (b : BoardNo) (kind : BoardFaultKind) (p : Part) : Keeps p (faultBoard b kind p) :=
  (((setBoard_keeps p b _).trans (boardClaim_keeps b _)).trans (raise_keeps _ _)).trans (attend_keeps _ _)

theorem Bus.open_fits (u : Bus) (b : BoardNo) (limit : Nat) (selecting : u.master = .selecting b) (h : u.masterFits) :
    (u.open b limit).masterFits := by
  obtain ⟨_, release, _, drain, board⟩ := h
  have pointer : b = u.pointer := board b (by rw [selecting]; rfl)
  simp only [selecting, reduceCtorEq, iff_false, imp_false] at release drain
  simp [Bus.masterFits, Bus.open, MasterState.board, release, drain, pointer]

theorem takeSelectAnswer_keeps (answer : BoardAnswer) (p : Part) : Keeps p (takeSelectAnswer answer p) := by
  unfold takeSelectAnswer
  split
  · rename_i b selecting
    exact setBus_master_keeps p _ rfl (Bus.open_fits _ _ _ selecting)
  · exact (releaseBus_keeps p).trans (faultBoard_keeps _ _ _)
  · exact .refl p

theorem expireSelectTimer_keeps (p : Part) : Keeps p (expireSelectTimer p) := by
  unfold expireSelectTimer
  split
  · exact (releaseBus_keeps p).trans (faultBoard_keeps _ _ _)
  · exact .refl p

theorem Bus.idle_fits (u : Bus) (releasing : u.master = .releasing) (h : u.masterFits) :
    ({ u with master := .idle, releaseTimer := none } : Bus).masterFits := by
  obtain ⟨select, _, due, drain, _⟩ := h
  simp only [releasing, reduceCtorEq, iff_false, or_self, imp_false] at select due drain
  simp only [not_or] at due
  simp [Bus.masterFits, MasterState.board, select, due, drain]

theorem expireRelease_keeps (p : Part) : Keeps p (expireRelease p) := by
  unfold expireRelease
  split
  · rename_i releasing
    refine .trans ?_ (arbiterTest_keeps _)
    exact setBus_master_keeps p _ rfl (Bus.idle_fits _ releasing)
  · exact .refl p

/-! ## Echoes -/

theorem judgeLane_keeps (n : LaneNo) (echoed : Nat) (p : Part) : Keeps p (judgeLane n echoed p) := by
  unfold judgeLane
  split
  · split
    · refine setDrive_keeps p n _ (fun s => ?_) fun _ => Nat.zero_le _
      dsimp only at s ⊢
      split at s
      · rename_i e
        rw [e]
      · cases s
    · split
      · exact setDrive_keeps p n _ (fun s => by cases s) fun _ => Nat.le_refl _
      · exact (setDrive_keeps p n _ (fun s => by cases s) fun _ => Nat.zero_le _).trans (driveClaim_keeps n _)
  · exact .refl p

theorem judgeHalf_keeps (carried : Option Nat) (n : LaneNo) (echoed : Half) (p : Part) :
    Keeps p (judgeHalf carried n echoed p) := by
  unfold judgeHalf
  split
  · exact judgeLane_keeps n _ p
  · exact .refl p

theorem takeEcho_keeps (b : BoardNo) (f : BusFrame) (e : Echo) (p : Part) : Keeps p (takeEcho b f e p) :=
  (judgeHalf_keeps _ _ _ p).trans (judgeHalf_keeps _ _ _ _)

theorem drainHalf_keeps (carried : Option Nat) (n : LaneNo) (echoed : Option Half) (p : Part) :
    Keeps p (drainHalf carried n echoed p) := by
  unfold drainHalf
  split
  · exact .refl p
  · exact setDrive_keeps p n _ (fun s => by cases s) fun _ => Nat.zero_le _

theorem drainEcho_keeps (b : BoardNo) (f : BusFrame) (received : Option Echo) (p : Part) :
    Keeps p (drainEcho b f received p) :=
  (drainHalf_keeps _ _ _ p).trans (drainHalf_keeps _ _ _ _)

theorem driveClaim_sameBase (n : LaneNo) (p : Part) : SameBase p (driveClaim n p) := by
  unfold driveClaim
  split
  · exact faultLane_sameBase _ _ p
  · exact faultLane_sameBase _ _ p
  · exact faultLane_sameBase _ _ p
  · exact .refl p
  · exact .refl p

theorem judgeHalf_sameBase (carried : Option Nat) (n : LaneNo) (echoed : Half) (p : Part) :
    SameBase p (judgeHalf carried n echoed p) := by
  unfold judgeHalf
  split
  · unfold judgeLane
    split
    · split
      · exact setDrive_sameBase p _ _
      · split
        · exact setDrive_sameBase p _ _
        · exact (setDrive_sameBase p _ _).trans (driveClaim_sameBase n _)
    · exact .refl p
  · exact .refl p

theorem takeEcho_sameBase (b : BoardNo) (f : BusFrame) (e : Echo) (p : Part) : SameBase p (takeEcho b f e p) :=
  (judgeHalf_sameBase _ _ _ p).trans (judgeHalf_sameBase _ _ _ _)

theorem drainHalf_sameBase (carried : Option Nat) (n : LaneNo) (echoed : Option Half) (p : Part) :
    SameBase p (drainHalf carried n echoed p) := by
  unfold drainHalf
  split
  · exact .refl p
  · exact setDrive_sameBase p _ _

theorem drainEcho_sameBase (b : BoardNo) (f : BusFrame) (received : Option Echo) (p : Part) :
    SameBase p (drainEcho b f received p) :=
  (drainHalf_sameBase _ _ _ p).trans (drainHalf_sameBase _ _ _ _)

theorem silenceBoard_keeps (b : BoardNo) (p : Part) : Keeps p (silenceBoard b p) := by
  unfold silenceBoard
  refine .trans (.trans (modifyBoardDrives_keeps p b _ (fun d s => ?_) fun d r => ?_) (releaseBus_keeps _))
    (faultBoard_keeps _ _ _)
  · unfold Drive.lose at s ⊢
    split at s
    · cases s
    · exact ⟨s, rfl⟩
  · unfold Drive.lose
    split
    · exact Nat.zero_le _
    · exact r

/-! ## Frames of a session -/

/-- The master serves a session of the board. -/
def Bus.inSession (u : Bus) (b : BoardNo) : Prop := u.master = .opened b ∨ u.master = .draining b

/-- A session that goes on: the timers stay unarmed, the board is the pointer's, whatever echoes are due. -/
theorem Bus.masterFits.session {u : Bus} (h : u.masterFits) {b : BoardNo} (served : u.inSession b) (v : Bus)
    (pointer : v.pointer = u.pointer) (select : v.selectTimer = u.selectTimer) (release : v.releaseTimer = u.releaseTimer)
    (goes : v.inSession b) (drain : v.resetDrain = true → v.master = .draining b) : v.masterFits := by
  obtain ⟨hs, hr, _, _, board⟩ := h
  have served' : b = u.pointer := board b (by rcases served with e | e <;> rw [e] <;> rfl)
  subst served'
  have unarmed : u.selectTimer.isSome = false ∧ u.releaseTimer.isSome = false := by
    rcases served with e | e <;> simp only [e, reduceCtorEq, iff_false, Bool.not_eq_true] at hs hr <;> exact ⟨hs, hr⟩
  rw [← select, ← release] at unarmed
  rw [← pointer] at goes drain
  rcases goes with e | e <;> simp only [e, reduceCtorEq, imp_false] at drain <;>
    simp [Bus.masterFits, e, unarmed, drain, MasterState.board]

/-- A reset drain mark stands in DRAINING alone. -/
theorem Bus.masterFits.drain {u : Bus} (h : u.masterFits) {b : BoardNo} (served : u.inSession b) (mark : u.resetDrain = true) :
    u.master = .draining b := by
  obtain ⟨_, _, _, drain, _⟩ := h
  rcases served with e | e
  · rw [drain mark] at e
    cases e
  · exact e

theorem drainTest_keeps (p : Part) : Keeps p (drainTest p) := by
  unfold drainTest
  split
  · split
    · exact releaseBus_keeps p
    · exact .refl p
  · exact .refl p

theorem issueIdle_keeps (b : BoardNo) (p : Part) (served : p.bus.inSession b) : Keeps p (issueIdle p) :=
  (setBus_master_keeps p (p.bus.issue none) rfl fun h =>
    h.session served _ rfl rfl rfl served (h.drain served)).trans (drainTest_keeps _)

theorem launch_keeps (n : LaneNo) (carried : Option Nat) (p : Part) : Keeps p (launch n carried p) := by
  unfold launch
  split
  · exact setDrive_keeps p n _ (fun s => by cases s) id
  · exact .refl p

theorem launch_sameBase (n : LaneNo) (carried : Option Nat) (p : Part) : SameBase p (launch n carried p) := by
  unfold launch
  split
  · exact setDrive_sameBase p _ _
  · exact .refl p

theorem issueFrame_keeps (b : BoardNo) (p : Part) (opened : p.bus.master = .opened b) : Keeps p (issueFrame b p) := by
  have noMark : ∀ u : Bus, u.master = .opened b → u.masterFits → u.resetDrain = true → False := fun u o h mark => by
    have := h.drain (.inl o) mark
    rw [o] at this
    cases this
  unfold issueFrame
  split
  · refine .trans (setBus_master_keeps p _ ?_ fun h => ?_) (drainTest_keeps _)
    · rfl
    · exact h.session (.inl opened) _ rfl rfl rfl (.inr rfl) fun _ => rfl
  · rename_i k _
    have same := (launch_sameBase (evenLane b k) (p.frameOf b k).even p).trans
      (launch_sameBase (oddLane b k) (p.frameOf b k).odd _)
    refine .trans ((launch_keeps (evenLane b k) (p.frameOf b k).even p).trans (launch_keeps _ _ _))
      (setBus_master_keeps _ _ ?_ fun h => ?_)
    · rfl
    · have still := same.master.trans opened
      refine h.session (.inl still) _ rfl rfl rfl ?_ fun mark => (noMark _ still h mark).elim
      dsimp only [Bus.inSession]
      split
      · exact .inr rfl
      · exact .inl rfl

theorem frameDue_keeps (b : BoardNo) (p : Part) (served : p.bus.inSession b) : Keeps p (frameDue b p) := by
  unfold frameDue
  split
  · rename_i c opened
    rcases served with e | e
    · exact issueFrame_keeps b p e
    · rw [e] at opened
      cases opened
  · exact issueIdle_keeps b p served

theorem SameBase.inSession {p q : Part} (h : SameBase p q) {b : BoardNo} (served : p.bus.inSession b) :
    q.bus.inSession b := by
  unfold Bus.inSession
  rwa [h.master]

theorem sessionSlot_keeps (b : BoardNo) (received : Option Echo) (p : Part) (served : p.bus.inSession b) :
    Keeps p (sessionSlot b received p) := by
  unfold sessionSlot
  split
  · exact frameDue_keeps b p served
  · split
    · exact (drainEcho_keeps _ _ _ p).trans (issueIdle_keeps b _ ((drainEcho_sameBase _ _ _ p).inSession served))
    · split
      · exact (takeEcho_keeps _ _ _ p).trans (frameDue_keeps b _ ((takeEcho_sameBase _ _ _ p).inSession served))
      · exact silenceBoard_keeps b p

theorem takeSlot_keeps (received : Option Echo) (p : Part) : Keeps p (takeSlot received p) := by
  unfold takeSlot
  split
  · rename_i e
    exact sessionSlot_keeps _ _ p (.inl e)
  · rename_i e
    exact sessionSlot_keeps _ _ p (.inr e)
  · exact .refl p

theorem sessionEcho_keeps (b : BoardNo) (e : Echo) (p : Part) (served : p.bus.inSession b) :
    Keeps p (sessionEcho b e p) := by
  have after : ∀ q, Keeps p q → SameBase p q → Keeps p (drainTest (q.setBus { q.bus with dueNext := none })) :=
    fun q k same => (k.trans (setBus_master_keeps q { q.bus with dueNext := none } rfl fun h =>
      h.session (same.inSession served) _ rfl rfl rfl (same.inSession served)
        (h.drain (same.inSession served)))).trans (drainTest_keeps _)
  unfold sessionEcho
  split
  · exact .refl p
  · split
    · dsimp only
      split
      · exact after _ (drainEcho_keeps _ _ _ p) (drainEcho_sameBase _ _ _ p)
      · exact after _ (takeEcho_keeps _ _ _ p) (takeEcho_sameBase _ _ _ p)
    · exact .refl p

theorem takeEchoArrival_keeps (e : Echo) (p : Part) : Keeps p (takeEchoArrival e p) := by
  unfold takeEchoArrival
  split
  · rename_i opened
    exact sessionEcho_keeps _ _ p (.inl opened)
  · rename_i draining
    exact sessionEcho_keeps _ _ p (.inr draining)
  · exact .refl p

/-! ## Recovery and reset of the bus -/

theorem recoverBoard_keeps (b : BoardNo) (p : Part) : Keeps p (recoverBoard b p) := by
  have axis : SameAxis p ((p.setBoard b .unknown).modifyBoardLanes b Lane.boardRelease) :=
    SameAxis.trans (q := p.setBoard b .unknown) ⟨rfl, rfl, rfl⟩ (setLanes_sameAxis _ _)
  unfold recoverBoard
  refine .trans (.trans (.of_recompute ((setBoard_keeps p b _).toSound.trans
    (modifyBoardLanes_sound _ b _ Lane.boardRelease_fits)) fun _ => axis.ready)
    (modifyBoardDrives_keeps _ b _ (fun _ s => by cases s) fun _ _ => Nat.zero_le _)) (arbiterTest_keeps _)

theorem resetMaster_keeps (p : Part) : Keeps p (resetMaster p) := by
  have drains : ∀ b, p.bus.inSession b →
      Keeps p (drainTest (p.setBus { p.bus with master := .draining b, resetDrain := true })) := fun b served =>
    (setBus_master_keeps p { p.bus with master := .draining b, resetDrain := true } rfl fun h =>
      h.session served _ rfl rfl rfl (.inr rfl) fun _ => rfl).trans (drainTest_keeps _)
  unfold resetMaster
  split
  · exact .refl p
  · exact .refl p
  · exact releaseBus_keeps p
  · rename_i e
    exact drains _ (.inl e)
  · rename_i e
    exact drains _ (.inr e)

/-- The drive records at MACHINE RESET: a lane that stays SETTLED keeps its applied value (R170). -/
theorem Drive.machineReset_settled (d : Drive) (driven : Bool) (s : (d.machineReset driven).state = .settled) :
    d.machineReset driven = d := by
  unfold Drive.machineReset at s ⊢
  split at s
  · rfl
  · split at s
    · cases s
    · rename_i undriven
      rw [if_neg undriven]

theorem Drive.machineReset_retry (d : Drive) (driven : Bool) (r : d.retry ≤ 1) : (d.machineReset driven).retry ≤ 1 := by
  unfold Drive.machineReset
  split
  · exact r
  · split
    · exact Nat.zero_le _
    · exact r

theorem resetBus_keeps (p : Part) : Keeps p (resetBus p) := by
  have drives : Keeps p (p.setBus { p.bus with
      drives := Vector.ofFn fun n : LaneNo => (p.drive n).machineReset (p.lane n).driven }) := by
    refine setDrives_keeps p _ (fun applied n s => ?_) fun n r => ?_
    · rw [Vector.getElem_ofFn] at s ⊢
      have same := Drive.machineReset_settled _ _ s
      rw [same] at s ⊢
      exact applied n s
    · rw [Vector.getElem_ofFn]
      exact Drive.machineReset_retry _ _ r
  have boards : ∀ (x : Vector Drive 32) (y : Vector BoardState 4),
      Keeps (p.setBus { p.bus with drives := x }) (p.setBus { p.bus with boards := y, drives := x }) :=
    fun x y => setBus_master_keeps (p.setBus { p.bus with drives := x }) { p.bus with boards := y, drives := x } rfl id
  unfold resetBus
  exact (drives.trans (boards _ _)).trans (resetMaster_keeps _)

/-! ## Gauge pairs and moves -/

theorem excursionTest_keeps (left right : Nat) (p : Part) : Keeps p (excursionTest left right p) := by
  unfold excursionTest
  split
  · exact .refl p
  · split
    · split
      · exact .refl p
      · refine .trans (.trans (setGap_keeps p { p.gap with excursionRun := true } rfl rfl rfl rfl rfl) ?_)
          (raise_keeps _ _)
        exact modifyHide_keeps _ _ _ (fun _ => rfl) (fun _ => rfl) (fun _ => rfl) (fun _ => rfl) (fun _ => rfl)
    · exact setGap_keeps p _ rfl rfl rfl rfl rfl

theorem excursionTest_gap (left right : Nat) (p : Part) :
    (excursionTest left right p).gap = { p.gap with excursionRun := (excursionTest left right p).gap.excursionRun } := by
  unfold excursionTest
  split
  · rfl
  · split
    · split <;> rfl
    · rfl

theorem completeMove_keeps (target : GapTol) (p : Part) (moving : p.gap.state = .moving) :
    Keeps p (completeMove target p) := by
  have idle : Sound p (p.setGap { p.gap with
      state := .idle, active := some target, target := none, settle := 0, moveTimer := none }) :=
    ⟨busFits_congr rfl rfl, fun _ mirror => by
      obtain ⟨line, asserted, faulted, batch, back⟩ := mirror
      refine ⟨by simp [gapRecordFits], line, asserted, ?_, batch, back⟩
      rw [moving] at faulted
      simpa using faulted, levelTaken_congr rfl rfl, laneRecordsFit_congr rfl, tablesAgree_congr rfl rfl⟩
  unfold completeMove
  refine .trans (.of_notReadyTest (idle.trans (raise_keeps _ _).toSound) fun t d => ?_) (startTest_keeps _)
  refine (raise_keeps _ _).decided (idle.tables t) ?_
  exact wantedIsDecided_congr rfl (Part.pressures_congr rfl rfl rfl rfl) d

/-- The settle count changed while MOVING, to at most 2 (R86). -/
theorem setSettle_keeps (p : Part) (settle : Nat) (moving : p.gap.state = .moving)
    (le : p.gap.settle ≤ 2 → settle ≤ 2) : Keeps p (p.setGap { p.gap with settle := settle }) where
  bus := busFits_congr rfl rfl
  axis fits mirror := by
    obtain ⟨timer, target, active, count, _⟩ := fits
    exact ⟨⟨timer, target, active, le count, fun still => absurd moving still⟩,
      holdsMirror_congr rfl rfl id rfl rfl rfl rfl rfl rfl mirror⟩
  level := levelTaken_congr rfl rfl
  lanes := laneRecordsFit_congr rfl
  tables := tablesAgree_congr rfl rfl
  decided _ := wantedIsDecided_congr rfl (Part.pressures_congr rfl rfl rfl rfl)
  ready _ := ready_of_hides rfl rfl rfl rfl

theorem settleTest_keeps (left right : Nat) (p : Part) (moving : p.gap.state = .moving) :
    Keeps p (settleTest left right p) := by
  unfold settleTest
  split
  · exact .refl p
  · split
    · split
      · exact completeMove_keeps _ p moving
      · rename_i less
        refine setSettle_keeps p _ moving fun count => ?_
        simp only [Config.settlePairs] at less
        omega
    · exact setSettle_keeps p _ moving fun _ => Nat.zero_le _

theorem takeGaugePair_keeps (left right : Nat) (p : Part) : Keeps p (takeGaugePair left right p) := by
  have pair : Keeps p (p.setGap { p.gap with lastPair := some (left, right) }) := setGap_keeps p _ rfl rfl rfl rfl rfl
  unfold takeGaugePair
  dsimp only
  split
  · exact pair
  · rename_i moving
    refine (pair.trans (excursionTest_keeps _ _ _)).trans (settleTest_keeps _ _ _ ?_)
    rw [excursionTest_gap]
    exact moving
  · exact pair.trans (excursionTest_keeps _ _ _)
  · exact pair.trans (excursionTest_keeps _ _ _)

theorem completeMoveWith_keeps (left right : Nat) (p : Part) : Keeps p (completeMoveWith left right p) := by
  unfold completeMoveWith
  split
  · exact takeGaugePair_keeps _ _ p
  · exact .refl p

theorem expireMoveTimer_keeps (p : Part) : Keeps p (expireMoveTimer p) := by
  unfold expireMoveTimer
  split
  · rename_i moving
    have faulted : Sound p ((p.setGap { p.gap.order .halt with state := .fault, settle := 0, moveTimer := none }).putHold
        .gapFault true) :=
      ⟨busFits_congr rfl rfl, fun fits mirror => by
        obtain ⟨_, target, _, _, _⟩ := fits
        obtain ⟨line, asserted, _, batch, back⟩ := mirror
        have present : p.gap.target.isSome = true := target.mpr (.inl moving)
        refine ⟨?_, line, asserted, ?_, batch, back⟩
        · simpa [gapRecordFits, GapAxis.order] using present
        · simp [HoldSet.put], levelTaken_congr rfl rfl, laneRecordsFit_congr rfl, tablesAgree_congr rfl rfl⟩
    have told := (attend_keeps ((p.setGap { p.gap.order .halt with
      state := .fault, settle := 0, moveTimer := none }).putHold .gapFault true) .gapFault).trans
      (raise_keeps (.gapFault ((p.gap.target.map (·.gap)).getD 0)) _)
    unfold faultMove
    refine .of_notReadyTest (faulted.trans told.toSound) fun t d => told.decided (faulted.tables t) ?_
    exact wantedIsDecided_congr rfl (Part.pressures_congr rfl rfl rfl rfl) d
  · exact .refl p

/-- A move that starts anew from FAULT takes GAP_FAULT out of the set (R88). -/
theorem restartMove_keeps (g : GapTol) (p : Part) : Keeps p ((startMove g p).putHold .gapFault false) where
  bus := busFits_congr rfl rfl
  axis _ mirror := by
    obtain ⟨line, asserted, _, batch, back⟩ := mirror
    exact ⟨by simp [gapRecordFits, startMove], line, asserted, by simp [startMove, HoldSet.put], batch, back⟩
  level := levelTaken_congr rfl rfl
  lanes := laneRecordsFit_congr rfl
  tables := tablesAgree_congr rfl rfl
  decided _ := wantedIsDecided_congr rfl (Part.pressures_congr rfl rfl rfl rfl)
  ready _ _ := rfl

theorem stopGap_sound (p : Part) : Sound p (stopGap p) := by
  unfold stopGap
  split
  · rename_i moving
    exact ⟨busFits_congr rfl rfl, fun _ mirror => by
      obtain ⟨line, asserted, faulted, batch, back⟩ := mirror
      refine ⟨by simp [gapRecordFits, GapAxis.abandon, GapAxis.order], line, asserted, ?_, batch, back⟩
      rw [moving] at faulted
      simpa [GapAxis.abandon] using faulted, levelTaken_congr rfl rfl, laneRecordsFit_congr rfl, tablesAgree_congr rfl rfl⟩
  · exact .refl p

end Sys2Proof.Machine
end

section
/-! PROOFS. Every command and every idle step keeps the invariants; the power-on values meet them. -/

namespace Sys2Proof.Machine

/-! ## The feed unit and the entry eye -/

/-- A run state other than STOPPED is taken up while the STOP line is released, or where it was not STOPPED before. -/
theorem setRunState_keeps (p : Part) (r : RunState)
    (stops : p.feed.stopLine = true → p.feed.runState = .stopped → r = .stopped) : Keeps p (p.setRunState r) where
  bus := busFits_congr rfl rfl
  axis fits mirror := by
    obtain ⟨line, asserted, faulted, batch, back⟩ := mirror
    exact ⟨fits, line, fun a => ⟨(asserted a).1, stops a (asserted a).2⟩, faulted, batch, back⟩
  level := levelTaken_congr rfl rfl
  lanes := laneRecordsFit_congr rfl
  tables := tablesAgree_congr rfl rfl
  decided _ := wantedIsDecided_congr rfl (Part.pressures_congr rfl rfl rfl rfl)
  ready _ := ready_of_hides rfl rfl rfl rfl

theorem feedRun_keeps (p : Part) : Keeps p (feedRun p).1 := by
  unfold feedRun
  split
  · exact .refl p
  · rename_i released
    exact setRunState_keeps p _ fun asserted => absurd asserted released

theorem feedStopAtClear_keeps (p : Part) : Keeps p (feedStopAtClear p).1 :=
  setRunState_keeps p _ fun _ stopped => by rw [stopped]; rfl

theorem feedStopBeforeNext_keeps (p : Part) : Keeps p (feedStopBeforeNext p).1 :=
  setRunState_keeps p _ fun _ stopped => by rw [stopped]; rfl

theorem seatEye_keeps (p : Part) : Keeps p (seatEye p) := setEyeState_keeps p _

theorem takeEyeTransition_keeps (p : Part) : Keeps p (takeEyeTransition p) :=
  (setEye_keeps p _).trans (setEyeState_keeps _ _)

theorem leadDebounceTest_keeps (p : Part) : Keeps p (leadDebounceTest p) := by
  unfold leadDebounceTest
  split
  · split
    · exact (setEyeState_keeps p _).trans (confirmLead_keeps _ _)
    · exact .refl p
  · exact .refl p

theorem gapFilterTest_keeps (p : Part) : Keeps p (gapFilterTest p) := by
  unfold gapFilterTest
  split
  · split
    · exact (setEyeState_keeps p _).trans (confirmTrail_keeps _ _)
    · exact .refl p
  · exact .refl p

theorem discardTest_keeps (p : Part) : Keeps p (discardTest p) := by
  unfold discardTest
  split
  · split
    · exact setEyeState_keeps p _
    · exact .refl p
  · exact .refl p

theorem eyeTest_keeps (p : Part) : Keeps p (eyeTest p) := by
  unfold eyeTest
  split
  · exact .refl p
  · exact leadDebounceTest_keeps p
  · exact .refl p
  · exact gapFilterTest_keeps p
  · exact discardTest_keeps p

theorem discardInstruction_keeps (p : Part) : Keeps p (discardInstruction p) := by
  unfold discardInstruction
  split
  · exact setEyeState_keeps p _
  · exact (setEyeState_keeps p _).trans (discardTest_keeps _)
  · exact .refl p

theorem discardUnbound_keeps (p : Part) : Keeps p (discardUnbound p) := by
  unfold discardUnbound
  split
  · exact .refl p
  · exact (setUnbound_keeps p _).trans (discardInstruction_keeps _)
  · exact setUnbound_keeps p _

theorem eyeForce_keeps (operand : Byte) (p : Part) : Keeps p (eyeForce operand p).1 := by
  have trail : ∀ t, Keeps p (confirmTrail t (p.setEyeState .clear)) := fun t =>
    (setEyeState_keeps p _).trans (confirmTrail_keeps t _)
  unfold eyeForce
  split
  · unfold forceLead
    split
    · exact (setEyeState_keeps p _).trans (confirmLead_keeps _ _)
    · exact .refl p
  · unfold forceTail
    split
    · exact trail _
    · exact trail _
    · exact .refl p
  · exact .refl p

/-- The host clears no cause that mirrors a block as that block stands (R71). -/
theorem setHolds_minus_keeps (p : Part) (named : HoldSet) (clearable : named.notClearable p.feed.stopLine = false) :
    Keeps p (p.setHolds (p.feed.holds.minus named)) := by
  simp only [HoldSet.notClearable, Bool.or_eq_false_iff, Bool.and_eq_false_iff] at clearable
  obtain ⟨⟨⟨⟨stopLine, notReady⟩, fault⟩, tuning⟩, recovery⟩ := clearable
  have same : (p.feed.holds.minus named).stopLine = p.feed.holds.stopLine ∧
      (p.feed.holds.minus named).gapNotReady = p.feed.holds.gapNotReady ∧
      (p.feed.holds.minus named).gapFault = p.feed.holds.gapFault ∧
      (p.feed.holds.minus named).tuning = p.feed.holds.tuning := by
    simp [HoldSet.minus, stopLine, notReady, fault, tuning]
  obtain ⟨sameLine, sameReady, sameFault, sameTuning⟩ := same
  exact
    { bus := busFits_congr rfl rfl
      axis := fun fits mirror => by
        obtain ⟨line, asserted, faulted, batch, back⟩ := mirror
        refine ⟨fits, sameLine.trans line, fun a => ⟨?_, (asserted a).2⟩, ?_, sameTuning.trans batch, back⟩
        · have kept : named.stopRecovery = false := recovery.resolve_right (by rw [show p.feed.stopLine = true from a]; simp)
          have stands := (asserted a).1
          simp [HoldSet.minus, kept, stands]
        · show (p.feed.holds.minus named).gapFault = true ↔ _
          rw [sameFault]
          exact faulted
      level := levelTaken_congr rfl rfl
      lanes := laneRecordsFit_congr rfl
      tables := tablesAgree_congr rfl rfl
      decided := fun _ => wantedIsDecided_congr rfl (Part.pressures_congr rfl rfl rfl rfl)
      ready := fun _ => ready_of_hides rfl sameReady rfl rfl }

theorem feedClearHold_keeps (causes : Half) (p : Part) : Keeps p (feedClearHold causes p).1 := by
  unfold feedClearHold
  split
  · exact .refl p
  · rename_i named _
    split
    · exact .refl p
    · rename_i clearable
      have cleared := setHolds_minus_keeps p named (Bool.not_eq_true _ ▸ clearable)
      have unbound : Keeps p (if (named.unboundEdge && p.feed.holds.unboundEdge) = true
          then discardUnbound (p.setHolds (p.feed.holds.minus named)) else p.setHolds (p.feed.holds.minus named)) := by
        split
        · exact cleared.trans (discardUnbound_keeps _)
        · exact cleared
      show Keeps p (clearHolds named p)
      unfold clearHolds
      dsimp only
      split
      · exact (unbound.trans (gapHandOn_keeps _)).trans (formationTest_keeps _)
      · exact unbound

/-! ## The encoder -/

/-- The position and the backward run change; the run stays at most 20 (R61, R63). -/
theorem setPosition_keeps (p : Part) (position : Pos) (run : Nat) (le : p.feed.backwardRun ≤ 20 → run ≤ 20) :
    Keeps p (p.setFeed { p.feed with position := position, backwardRun := run }) where
  bus := busFits_congr rfl rfl
  axis fits mirror := by
    obtain ⟨line, asserted, faulted, batch, back⟩ := mirror
    exact ⟨fits, line, asserted, faulted, batch, le back⟩
  level := levelTaken_congr rfl rfl
  lanes := laneRecordsFit_congr rfl
  tables := tablesAgree_congr rfl rfl
  decided _ := wantedIsDecided_congr rfl (Part.pressures_congr rfl rfl rfl rfl)
  ready _ := ready_of_hides rfl rfl rfl rfl

theorem forwardStep_keeps (p : Part) : Keeps p (forwardStep p) :=
  (((setPosition_keeps p _ 0 fun _ => Nat.zero_le _).trans (eyeTest_keeps _)).trans (testAllMarks_keeps _)).trans
    (forwardLanes_keeps _)

theorem backwardStep_keeps (p : Part) : Keeps p (backwardStep p) := by
  unfold backwardStep
  split
  · exact (setPosition_keeps p p.feed.position 0 fun _ => Nat.zero_le _).trans (putHold_keeps _ .reverse true rfl)
  · rename_i less
    refine setPosition_keeps p p.feed.position _ fun le => ?_
    simp only [Config.reverseSteps] at less
    omega

theorem setEncoder_keeps (p : Part) (x : Encoder) : Keeps p (p.setEncoder x) :=
  SameCore.keeps (by constructor <;> first | rfl | exact id)

theorem takeEncoder_keeps (levels : Encoder) (p : Part) : Keeps p (takeEncoder levels p) := by
  unfold takeEncoder
  split
  · exact (setEncoder_keeps p _).trans (forwardStep_keeps _)
  · split
    · exact (setEncoder_keeps p _).trans (backwardStep_keeps _)
    · exact setEncoder_keeps p _

/-! ## The STOP line -/

/-- The STOP line asserted at the feed unit; the pressure unit has not taken the level yet (R75). -/
theorem stopFeed_bus (p : Part) :
    settledMeansApplied p → busRecordFits p → settledMeansApplied (stopFeed p) ∧ busRecordFits (stopFeed p) :=
  busFits_congr rfl rfl

theorem stopFeed_axis (p : Part) :
    gapRecordFits p → holdsMirrorButLevel p → gapRecordFits (stopFeed p) ∧ holdsMirrorButLevel (stopFeed p) := by
  rintro fits ⟨_, _, faulted, batch, back⟩
  exact ⟨fits, rfl, fun _ => ⟨rfl, rfl⟩, faulted, batch, back⟩

/-- The level is taken by the pressure unit: what was kept before is kept, and the level is the one taken (R148). -/
theorem takeStopLevel_sound {p q : Part} (asserted : Bool)
    (bus : settledMeansApplied p → busRecordFits p → settledMeansApplied q ∧ busRecordFits q)
    (axis : gapRecordFits p → holdsMirrorButLevel p → gapRecordFits q ∧ holdsMirrorButLevel q)
    (line : q.feed.stopLine = asserted) (lanes : laneRecordsFit p → laneRecordsFit q)
    (tables : tablesAgree p → tablesAgree q) : Sound p (takeStopLevel asserted q) := by
  unfold takeStopLevel
  have level : Sound p (q.setPressure { q.pressure with stopLevel := asserted }) :=
    ⟨bus, axis, fun _ => line.symm, lanes, tables⟩
  exact level.trans (recompute_sound _)

theorem takeStopLevel_decided (asserted : Bool) (p : Part) : wantedIsDecided (takeStopLevel asserted p) :=
  recompute_decides _

theorem takeStopLevel_ready (asserted : Bool) (p : Part) :
    notReadyIsHeld p → notReadyIsHeld (takeStopLevel asserted p) :=
  fun ready => recompute_ready _ (ready_of_hides rfl rfl rfl rfl ready)

theorem stopGap_feed (p : Part) : (stopGap p).feed = p.feed := by
  unfold stopGap
  split <;> rfl

theorem stopRecord_stopLine (p : Part) (h : Hide) : (stopRecord p h).feed.stopLine = p.feed.stopLine := by
  rw [stopRecord, raise_feed_stopLine, abortRecord]
  split <;> rfl

theorem stopHides_stopLine (p : Part) : (stopHides p).feed.stopLine = p.feed.stopLine := by
  have records : ∀ (l : List Hide) (q : Part), (l.foldl stopRecord q).feed.stopLine = q.feed.stopLine := by
    intro l
    induction l with
    | nil => exact fun _ => rfl
    | cons h t ih => exact fun q => (ih _).trans (stopRecord_stopLine q h)
  exact records _ p

/-- A STOP assertion: the blocks from the attention on keep what the feed unit's part has kept, the level is taken after
them, and the readiness test comes last (R75). -/
theorem assertStop_keeps (p : Part) : Keeps p (assertStop p) := by
  have blocks : Sound (stopFeed p) (abortBatch (stopGap (seatEye (stopHides ((stopFeed p).attend .stop))))) :=
    ((((attend_keeps _ .stop).toSound.trans (stopHides_sound _)).trans (seatEye_keeps _).toSound).trans
      (stopGap_sound _)).trans (abortBatch_sound _)
  have line : (abortBatch (stopGap (seatEye (stopHides ((stopFeed p).attend .stop))))).feed.stopLine = true := by
    rw [(abortBatch_sameBase _).stopLine, stopGap_feed]
    exact stopHides_stopLine _
  have feedBus : settledMeansApplied p → busRecordFits p → settledMeansApplied (stopFeed p) ∧ busRecordFits (stopFeed p) :=
    busFits_congr rfl rfl
  have feedAxis : gapRecordFits p → holdsMirrorButLevel p → gapRecordFits (stopFeed p) ∧ holdsMirrorButLevel (stopFeed p) := by
    rintro fits ⟨_, _, faulted, batch, back⟩
    exact ⟨fits, rfl, fun _ => ⟨rfl, rfl⟩, faulted, batch, back⟩
  unfold assertStop
  exact .of_notReadyTest (takeStopLevel_sound true (fun s f => blocks.bus (feedBus s f).1 (feedBus s f).2)
    (fun f m => blocks.axis (feedAxis f m).1 (feedAxis f m).2) line (fun l => blocks.lanes (laneRecordsFit_congr rfl l))
    fun t => blocks.tables (tablesAgree_congr rfl rfl t)) fun _ _ => takeStopLevel_decided _ _

theorem takeStopAssertion_keeps (p : Part) : Keeps p (takeStopAssertion p) := by
  unfold takeStopAssertion
  split
  · exact .refl p
  · exact assertStop_keeps p

theorem takeStopRelease_keeps (p : Part) : Keeps p (takeStopRelease p) := by
  unfold takeStopRelease
  split
  · unfold releaseStop
    exact
      { toSound := takeStopLevel_sound false (busFits_congr rfl rfl) (fun fits mirror => by
          obtain ⟨_, _, faulted, batch, back⟩ := mirror
          exact ⟨fits, rfl, fun a => Bool.noConfusion a, faulted, batch, back⟩) rfl (laneRecordsFit_congr rfl)
          (tablesAgree_congr rfl rfl)
        decided := fun _ _ => takeStopLevel_decided _ _
        ready := fun _ r => takeStopLevel_ready _ _ (ready_of_hides rfl rfl rfl rfl r) }
  · exact .refl p

/-! ## The article and hide commands -/

/-- Changes of the article table alone. -/
theorem setArticles_keeps (p : Part) (x : List Plan)
    (tables : tablesAgree p → tablesAgree (p.setArticles x)) : Keeps p (p.setArticles x) where
  toSound := .of_tables rfl rfl rfl rfl rfl rfl tables
  decided _ := decided_of_splitFields rfl rfl rfl rfl
  ready _ := ready_of_awaitedGap rfl rfl rfl

theorem mem_markedTable {mark : Bool} {l : List Plan} {a : Plan} (m : a ∈ markedTable mark l) :
    ∃ b ∈ l, a.code = b.code ∧ a.pins = b.pins ∧ a.state = b.state ∧ (a.mark = true → mark = false ∧ b.mark = true) := by
  unfold markedTable at m
  split at m
  · obtain ⟨b, mb, rfl⟩ := List.mem_map.mp m
    exact ⟨b, mb, rfl, rfl, rfl, fun t => by cases t⟩
  · rename_i plain
    exact ⟨a, m, rfl, rfl, rfl, fun t => ⟨Bool.not_eq_true _ ▸ plain, t⟩⟩

/-- The marks taken off where a mark is requested leave the table fitting, and then with no mark at all. -/
theorem ArticlesFit.markedTable {N : Nat → Nat} {l : List Plan} (h : ArticlesFit N l) (mark : Bool) :
    ArticlesFit N (markedTable mark l) ∧ (mark = true → (Machine.markedTable mark l).filter (·.mark) = []) := by
  unfold Machine.markedTable
  cases mark with
  | false => exact ⟨h, fun t => by cases t⟩
  | true =>
    have none : ((unmarkAll l).filter (·.mark)) = [] := by simp [unmarkAll, List.filter_map, Function.comp_def]
    refine ⟨h.map _ (fun _ _ => rfl) (fun a m => h.pins a m) (fun a m r => ⟨(h.retiring a m r).1, rfl⟩) ?_, fun _ => none⟩
    show ((unmarkAll l).filter (·.mark)).length ≤ 1
    rw [none]
    exact Nat.zero_le _

theorem exists_code_markedTable (mark : Bool) (l : List Plan) (c : Nat) (h : ∃ a ∈ l, a.code = c) :
    ∃ a ∈ markedTable mark l, a.code = c := by
  obtain ⟨a, m, e⟩ := h
  unfold markedTable
  split
  · exact ⟨_, List.mem_map_of_mem m, e⟩
  · exact ⟨a, m, e⟩

theorem insertPlan_perm (a : Plan) (l : List Plan) : (insertPlan a l).Perm (a :: l) := by
  induction l with
  | nil => exact .refl _
  | cons b t ih =>
    unfold insertPlan
    split
    · exact .refl _
    · exact (ih.cons b).trans (.swap a b t)

/-- The codes ascend, so at most one record is of a code. -/
theorem ArticlesFit.countP_code_le {N : Nat → Nat} {l : List Plan} (h : ArticlesFit N l) (c : Nat) :
    l.countP (fun a => a.code == c) ≤ 1 := by
  have nodup : (l.map (·.code)).Nodup := List.pairwise_map.mpr (h.ascending.imp Nat.ne_of_lt)
  have one := List.nodup_iff_count_le_one.mp nodup c
  rwa [List.count, List.countP_map] at one

theorem namingIn_eq_zero {l : List Hide} {c : Nat} : namingIn l c = 0 ↔ ∀ h ∈ l, h.article ≠ c := by
  simp [namingIn, List.filter_eq_nil_iff]

/-- An ACTIVE record takes other plan fields and the requested mark (R8, R9). -/
theorem replacePlan_keeps (code : Nat) (fields : PlanFields) (mark : Bool) (p : Part) (a : Plan)
    (found : p.plan? code = some a) (active : a.state = .active) : Keeps p (replacePlan code fields mark p) := by
  refine setArticles_keeps p _ fun t => ?_
  obtain ⟨fits, none⟩ := t.articlesFit.markedTable mark
  have stays : ∀ b ∈ markedTable mark p.articles, b.code = code → b.state = .active := fun b m e => by
    obtain ⟨x, mx, sameCode, _, sameState, _⟩ := mem_markedTable m
    rw [sameState, t.articlesFit.eq_of_code mx (Part.plan?_mem found)
      (sameCode.symm.trans (e.trans (Part.plan?_code found).symm)), active]
  refine (tablesAgree_iff _).mpr ⟨fits.map _ (fun b _ => ?_) (fun b m => ?_) (fun b m r => ?_) ?_,
    t.hidesFit.capacity, t.hidesFit.tickets, fun h m => ?_, t.hidesFit.splitting⟩
  · split <;> rfl
  · split <;> exact fits.pins b m
  · split at r
    · rename_i e
      exact absurd ((stays b m (beq_iff_eq.mp e)).symm.trans r) (by simp)
    · rename_i e
      rw [if_neg e]
      exact fits.retiring b m r
  · cases mark with
    | false =>
      refine (length_filter_mark_map _ _ fun b _ marked => ?_).trans fits.marks
      split at marked
      · cases marked
      · exact marked
    | true =>
      rw [← List.countP_eq_length_filter, List.countP_map]
      refine (List.countP_mono_left fun b m marked => ?_).trans (fits.countP_code_le code)
      by_cases e : (b.code == code) = true
      · exact e
      · rw [Function.comp_apply, if_neg e] at marked
        exact absurd marked (List.filter_eq_nil_iff.mp (none rfl) b m)
  · obtain ⟨b, mb, e⟩ := exists_code_markedTable mark _ _ (t.hidesFit.plans h m)
    refine ⟨_, List.mem_map_of_mem mb, ?_⟩
    split <;> exact e

/-- A new record joins a table with room; no hide record names its code (R7). -/
theorem createPlan_keeps (code : Nat) (fields : PlanFields) (mark : Bool) (p : Part) (range : 1 ≤ code ∧ code ≤ 65534)
    (absent : p.plan? code = none) (room : p.articles.length < 64) :
    Keeps p (createPlan (newPlan code fields mark) p) := by
  refine setArticles_keeps p _ fun t => ?_
  obtain ⟨fits, none⟩ := t.articlesFit.markedTable mark
  have perm := insertPlan_perm (newPlan code fields mark) (markedTable mark p.articles)
  have fresh : ∀ b ∈ markedTable mark p.articles, b.code ≠ code := fun b m e => by
    obtain ⟨x, mx, sameCode, _⟩ := mem_markedTable m
    have there := (p.plan?_isSome_iff code).mpr ⟨x, mx, sameCode.symm.trans e⟩
    rw [absent] at there
    cases there
  have unnamed : namingIn p.hides code = 0 := namingIn_eq_zero.mpr fun h m e => by
    have there := (p.plan?_isSome_iff code).mpr (e ▸ t.hidesFit.plans h m)
    rw [absent] at there
    cases there
  have lengthMarked : (markedTable mark p.articles).length = p.articles.length := by
    unfold markedTable
    split
    · exact List.length_map _
    · rfl
  refine (tablesAgree_iff _).mpr ⟨⟨insertPlan_ascending _ _ fits.ascending fresh, ?_, fun b m => ?_, fun b m => ?_,
    fun b m r => ?_, ?_⟩, t.hidesFit.capacity, t.hidesFit.tickets, fun h m => ?_, t.hidesFit.splitting⟩
  · show (insertPlan _ _).length ≤ 64
    rw [length_insertPlan, newPlan, lengthMarked]
    omega
  · rcases (mem_insertPlan _ _ _).mp m with rfl | mb
    · exact range
    · exact fits.codes b mb
  · rcases (mem_insertPlan _ _ _).mp m with rfl | mb
    · exact unnamed.symm
    · exact fits.pins b mb
  · rcases (mem_insertPlan _ _ _).mp m with rfl | mb
    · cases r
    · exact fits.retiring b mb r
  · show ((insertPlan (newPlan code fields mark) (markedTable mark p.articles)).filter (·.mark)).length ≤ 1
    rw [(perm.filter _).length_eq]
    cases mark with
    | false => exact fits.marks
    | true => exact Nat.succ_le_succ (Nat.le_of_eq (by rw [none rfl]; rfl))
  · obtain ⟨b, mb, e⟩ := exists_code_markedTable mark _ _ (t.hidesFit.plans h m)
    exact ⟨b, (mem_insertPlan _ _ _).mpr (.inr mb), e⟩

theorem articleWrite_keeps (code : Half) (plan : PlanOperands) (mark : Byte) (p : Part) :
    Keeps p (articleWrite code plan mark p).1 := by
  unfold articleWrite
  split
  · exact .refl p
  · rename_i range
    split
    · split
      · rename_i a found
        split
        · exact .refl p
        · rename_i active
          exact replacePlan_keeps _ _ _ p a found active
      · rename_i absent
        split
        · exact .refl p
        · rename_i room
          have bits := code.isLt
          exact createPlan_keeps _ _ _ p (by omega) absent (Nat.lt_of_not_le room)
    · exact .refl p

/-- A record no hide record names leaves the table (R13). -/
theorem removePlan_tables (p : Part) (code : Nat) (unnamed : ∀ h ∈ p.hides, h.article ≠ code) (t : tablesAgree p) :
    tablesAgree (p.setArticles (p.articles.filter fun b => !(b.code == code))) := by
  refine (tablesAgree_iff _).mpr ⟨t.articlesFit.sublist List.filter_sublist, t.hidesFit.capacity, t.hidesFit.tickets,
    fun h m => ?_, t.hidesFit.splitting⟩
  obtain ⟨a, ma, e⟩ := t.hidesFit.plans h m
  have other : a.code ≠ code := e ▸ unnamed h m
  exact ⟨a, List.mem_filter.mpr ⟨ma, by simpa using other⟩, e⟩

/-- A pinned record becomes RETIRING and loses the mark (R14). -/
theorem retirePlan_tables (p : Part) (code : Nat) (a : Plan) (found : p.plan? code = some a) (pinned : a.pins ≠ 0)
    (t : tablesAgree p) : tablesAgree (p.modifyPlan code Plan.retire) := by
  refine (tablesAgree_iff _).mpr ⟨t.articlesFit.map _ (fun b _ => ?_) (fun b m => ?_) (fun b m r => ?_)
    ((length_filter_mark_map _ _ fun b _ marked => ?_).trans t.articlesFit.marks), t.hidesFit.capacity, t.hidesFit.tickets,
    fun h m => ?_, t.hidesFit.splitting⟩
  · split <;> rfl
  · split <;> exact t.articlesFit.pins b m
  · split at r
    · rename_i e
      rw [if_pos e, t.articlesFit.eq_of_code m (Part.plan?_mem found)
        ((beq_iff_eq.mp e).trans (Part.plan?_code found).symm)]
      exact ⟨Nat.one_le_iff_ne_zero.mpr pinned, rfl⟩
    · rename_i e
      rw [if_neg e]
      exact t.articlesFit.retiring b m r
  · split at marked
    · cases marked
    · exact marked
  · obtain ⟨b, mb, e⟩ := t.hidesFit.plans h m
    refine ⟨_, List.mem_map_of_mem mb, ?_⟩
    split <;> exact e

theorem articleRetire_keeps (code : Half) (p : Part) : Keeps p (articleRetire code p).1 := by
  unfold articleRetire
  split
  · exact .refl p
  · split
    · exact .refl p
    · rename_i a found
      split
      · exact .refl p
      · split
        · rename_i unpinned
          refine setArticles_keeps p _ fun t => removePlan_tables p _ (namingIn_eq_zero.mp ?_) t
          rw [← Part.plan?_code found, ← t.articlesFit.pins a (Part.plan?_mem found), unpinned]
        · rename_i pinned
          exact setArticles_keeps p _ (retirePlan_tables p _ a found pinned)

/-! ## The hide commands -/

/-- Changes of the two tables that leave the bus, the axis, the feed and the lanes. -/
theorem Keeps.of_tables {p q : Part} (same : q = { p with articles := q.articles, hides := q.hides, port := q.port })
    (tables : tablesAgree p → tablesAgree q) (split : tablesAgree p → q.splitFields = p.splitFields)
    (awaited : tablesAgree p → q.awaitedGap = p.awaitedGap) : Keeps p q where
  toSound := .of_tables (by rw [same]) (by rw [same]) (by rw [same]) (by rw [same]) (by rw [same]) (by rw [same]) tables
  decided t := decided_of_splitFields (by rw [same]) (by rw [same]) (by rw [same]) (split t)
  ready t := ready_of_awaitedGap (by rw [same]) (by rw [same]) (awaited t)

theorem bindUnbound_keeps (ticket : Nat) (p : Part)
    (other : tablesAgree p → ∀ h ∈ p.hides, h.ticket = ticket → h.state ≠ .splitting) :
    Keeps p (bindUnbound ticket p) := by
  unfold bindUnbound
  split
  · exact .refl p
  · exact ((setUnbound_keeps p _).trans (putHold_keeps _ .unboundEdge false rfl)).trans
      (bindHide_keeps _ _ _ _ fun t => other (tablesAgree_congr rfl rfl t))

theorem hideAnnounce_keeps (tag : Word) (code : Half) (p : Part) : Keeps p (hideAnnounce tag code p).1 := by
  unfold hideAnnounce
  split
  · exact .refl p
  · split
    · exact .refl p
    · rename_i room
      split
      · exact .refl p
      · rename_i article claim
        exact (createHide_keeps tag article false p (Nat.lt_of_not_le room) (Part.claim_plan claim)).trans
          (bindUnbound_keeps _ _ (createHide_announced tag article false p _ rfl))

/-- The names of a code, with one record's article changed to another's (R26). -/
theorem namingIn_modify (l : List Hide) (ticket : Nat) (h : Hide) (f : Hide → Hide) (article : Nat)
    (nodup : (l.map (·.ticket)).Nodup) (m : h ∈ l) (same : h.ticket = ticket) (changed : ∀ x, (f x).article = article)
    (c : Nat) : namingIn (l.map fun x => if x.ticket == ticket then f x else x) c + (if c = h.article then 1 else 0) =
      namingIn l c + (if c = article then 1 else 0) := by
  induction l with
  | nil => cases m
  | cons a t ih =>
    obtain ⟨absent, rest⟩ := List.nodup_cons.mp nodup
    have split : ∀ (x : Hide) (k : List Hide), namingIn (x :: k) c = (if c = x.article then 1 else 0) + namingIn k c := by
      intro x k
      by_cases e : x.article = c
      · simp [namingIn, e, Nat.add_comm]
      · simp [namingIn, e, Ne.symm e]
    rw [List.map_cons, split, split]
    rcases List.mem_cons.mp m with rfl | mt
    · have others : t.map (fun x => if x.ticket == ticket then f x else x) = t := by
        conv_rhs => rw [← List.map_id t]
        refine List.map_congr_left fun x mx => ?_
        rw [if_neg]
        · rfl
        · intro e
          exact absent (List.mem_map.mpr ⟨x, mx, (beq_iff_eq.mp e).trans same.symm⟩)
      rw [others, if_pos (beq_iff_eq.mpr same), changed]
      omega
    · have ne : ¬(a.ticket == ticket) = true := fun e =>
        absent (List.mem_map.mpr ⟨h, mt, same.trans (beq_iff_eq.mp e).symm⟩)
      rw [if_neg ne]
      have := ih rest mt
      omega

/-- Two records that name a code. -/
theorem two_le_namingIn {l : List Hide} {x y : Hide} {c : Nat} (ne : x ≠ y) (mx : x ∈ l) (my : y ∈ l) (ex : x.article = c)
    (ey : y.article = c) : 2 ≤ namingIn l c := by
  have sub : [x, y].Subperm (l.filter fun h => h.article == c) :=
    List.subperm_of_subset (by simp [ne]) (by simp [mx, my, ex, ey])
  exact sub.length_le

/-- The claim before the release: the pins follow the record's article, and the plan claimed stays (R26). -/
theorem hideAmend_tables (ticket : Nat) (tag : Word) (p : Part) (h : Hide) (article : Nat) (found : p.hide? ticket = some h)
    (claimed : ∃ a ∈ p.articles, a.code = article) (t : tablesAgree p) :
    tablesAgree ((releasePin h.article (p.modifyPlan article Plan.pin)).modifyHide ticket
      fun x => { x with tag := tag, article := article }) := by
  have amend : ∀ q : Part, q.hides = p.hides → (q.modifyHide ticket fun x => { x with tag := tag, article := article }).hides =
      p.hides.map fun x => if x.ticket == ticket then { x with tag := tag, article := article } else x := fun q e => by
    rw [Part.modifyHide_hides, e]
  have hm := Part.hide?_mem found
  have same := Part.hide?_ticket found
  have naming := namingIn_modify p.hides ticket h (fun x => { x with tag := tag, article := article }) article t.tickets hm
    same fun _ => rfl
  have old : 1 ≤ namingIn p.hides h.article := by
    have : namingIn p.hides h.article ≠ 0 := fun z => namingIn_eq_zero.mp z h hm rfl
    omega
  -- the pins once the claim is made
  have pinned : ArticlesFit (fun c => namingIn p.hides c + if c = article then 1 else 0)
      (p.modifyPlan article Plan.pin).articles :=
    t.articlesFit.pin article (by simp) fun d ne => by simp [ne]
  have kept : ∀ c, (∃ a ∈ p.articles, a.code = c) → ∃ b ∈ (p.modifyPlan article Plan.pin).articles, b.code = c := by
    rintro c ⟨a, m, e⟩
    refine ⟨_, List.mem_map_of_mem m, ?_⟩
    split <;> exact e
  have hides : (releasePin h.article (p.modifyPlan article Plan.pin)).hides = p.hides := by
    rw [releasePin_eq]
    rfl
  rw [tablesAgree_iff, amend _ hides]
  refine ⟨?_, ?_, ?_, ?_, ?_⟩
  · refine releasePin_articlesFit _ h.article pinned ?_ fun d ne => ?_
    · have := naming h.article
      rw [if_pos rfl] at this
      omega
    · have := naming d
      rw [if_neg ne] at this
      omega
  · rw [List.length_map]
    exact t.hidesFit.capacity
  · rw [List.map_map]
    have tickets : p.hides.map (Hide.ticket ∘ fun x => if x.ticket == ticket then { x with tag := tag, article := article } else x) =
        p.hides.map Hide.ticket := List.map_congr_left fun x _ => by
      rw [Function.comp_apply]
      split <;> rfl
    show (p.hides.map (Hide.ticket ∘ _)).Nodup
    rw [tickets]
    exact t.tickets
  · intro x m
    obtain ⟨y, my, rfl⟩ := List.mem_map.mp m
    split
    · refine releasePin_plans _ _ _ pinned (kept _ claimed) fun e => ?_
      dsimp only at e ⊢
      rw [if_pos e.symm]
      omega
    · rename_i ne
      refine releasePin_plans _ _ _ pinned (kept _ (t.hidesFit.plans y my)) fun e => ?_
      have other : y ≠ h := fun eq => ne (beq_iff_eq.mpr (eq ▸ same))
      exact Nat.le_add_right_of_le (two_le_namingIn other my hm e rfl)
  · refine (length_filter_splitting_map _ _ fun x _ s => ?_).trans t.hidesFit.splitting
    split at s
    · exact s
    · exact s

theorem hideAmend_keeps (ticket : Half) (tag : Word) (code : Half) (p : Part) :
    Keeps p (hideAmend ticket tag code p).1 := by
  unfold hideAmend
  split
  · exact .refl p
  · split
    · exact .refl p
    · rename_i h found
      split
      · split
        · exact .refl p
        · rename_i article claim
          have hides : ∀ q : Part, (releasePin h.article q).hides = q.hides := fun q => by rw [releasePin_eq]
          refine .of_tables (by rw [releasePin_eq]; rfl)
            (hideAmend_tables _ tag p h article found (Part.claim_plan claim)) (fun _ => ?_) fun _ => ?_
          · refine splitFields_of_map (fun x => if x.ticket == ticket.toNat then { x with tag := tag, article := article } else x)
              (by rw [Part.modifyHide_hides, hides]; rfl) fun x _ => ?_
            split <;> exact ⟨rfl, fun _ => rfl⟩
          · refine awaitedGap_of_map (fun x => if x.ticket == ticket.toNat then { x with tag := tag, article := article } else x)
              (by rw [Part.modifyHide_hides, hides]; rfl) fun x _ => ?_
            split <;> exact ⟨rfl, fun _ => rfl⟩
      · exact .refl p

/-- The names of a code, with one record removed (R27). -/
theorem namingIn_remove (l : List Hide) (h : Hide) (nodup : (l.map (·.ticket)).Nodup) (m : h ∈ l) (c : Nat) :
    namingIn (l.filter fun x => !(x.ticket == h.ticket)) c + (if c = h.article then 1 else 0) = namingIn l c := by
  induction l with
  | nil => cases m
  | cons a t ih =>
    obtain ⟨absent, rest⟩ := List.nodup_cons.mp nodup
    have split : ∀ (x : Hide) (k : List Hide), namingIn (x :: k) c = (if c = x.article then 1 else 0) + namingIn k c := by
      intro x k
      by_cases e : x.article = c
      · simp [namingIn, e, Nat.add_comm]
      · simp [namingIn, e, Ne.symm e]
    rcases List.mem_cons.mp m with rfl | mt
    · have others : t.filter (fun x => !(x.ticket == h.ticket)) = t := List.filter_eq_self.mpr fun x mx => by
        have ne : x.ticket ≠ h.ticket := fun e => absent (List.mem_map.mpr ⟨x, mx, e⟩)
        simpa using ne
      rw [List.filter_cons_of_neg (by simp), others, split]
      omega
    · have ne : a.ticket ≠ h.ticket := fun e => absent (List.mem_map.mpr ⟨h, mt, e.symm⟩)
      rw [List.filter_cons_of_pos (by simpa using ne), split, split, ← ih rest mt]
      omega

/-- What is found first stays where the removed records are none of the kind looked for. -/
theorem find?_filter_of_kind {α : Type} (l : List α) (stays kind : α → Bool) (h : ∀ x ∈ l, kind x = true → stays x = true) :
    (l.filter stays).find? kind = l.find? kind := by
  induction l with
  | nil => rfl
  | cons a t ih =>
    have rest := ih fun x m => h x (by simp [m])
    by_cases s : stays a = true
    · rw [List.filter_cons_of_pos s, List.find?_cons, List.find?_cons, rest]
    · have k : kind a = false := Bool.eq_false_iff.mpr fun k => s (h a (by simp) k)
      rw [List.filter_cons_of_neg s, List.find?_cons, k, rest]

/-- A record leaves the table and its pin is released (R16, R27). -/
theorem removeHide_tables (ticket : Nat) (h : Hide) (p : Part) (found : p.hide? ticket = some h) (t : tablesAgree p) :
    tablesAgree (removeHide h p) := by
  have hm := Part.hide?_mem found
  have naming := namingIn_remove p.hides h t.tickets hm
  have hides : (removeHide h p).hides = p.hides.filter fun x => !(x.ticket == h.ticket) := by
    unfold removeHide
    rw [releasePin_eq]
    rfl
  have sub : List.Sublist (p.hides.filter fun x => !(x.ticket == h.ticket)) p.hides := List.filter_sublist
  rw [tablesAgree_iff, hides]
  refine ⟨?_, sub.length_le.trans t.hidesFit.capacity, t.tickets.sublist (sub.map _), fun x m => ?_,
    (sub.filter _).length_le.trans t.hidesFit.splitting⟩
  · refine releasePin_articlesFit (N := namingIn p.hides) _ h.article t.articlesFit ?_ fun d ne => ?_
    · have := naming h.article
      rw [if_pos rfl] at this
      omega
    · have := naming d
      rw [if_neg ne] at this
      omega
  · obtain ⟨mx, differs⟩ := List.mem_filter.mp m
    have other : x ≠ h := fun e => by simp [e] at differs
    exact releasePin_plans (N := namingIn p.hides) _ _ _ t.articlesFit (t.hidesFit.plans x mx) fun e =>
      two_le_namingIn other mx hm e rfl

theorem hideRetire_keeps (ticket : Half) (p : Part) : Keeps p (hideRetire ticket p).1 := by
  unfold hideRetire
  split
  · exact .refl p
  · rename_i h found
    split
    · exact .refl p
    · rename_i outside
      have hides : (removeHide h p).hides = p.hides.filter fun x => !(x.ticket == h.ticket) := by
        unfold removeHide
        rw [releasePin_eq]
        rfl
      simp only [Hide.inPassage, Bool.or_eq_true, beq_iff_eq, not_or] at outside
      have kept : tablesAgree p → ∀ x ∈ p.hides, x.state = .entering ∨ x.state = .splitting →
          (!(x.ticket == h.ticket)) = true := fun t x m passing => by
        by_contra e
        have same : x = h := t.eq_of_ticket found m ((by simpa using e : x.ticket = h.ticket).trans
          (Part.hide?_ticket found))
        rw [same] at passing
        exact passing.elim outside.1 outside.2
      refine .of_tables (by unfold removeHide; rw [releasePin_eq]; rfl) (removeHide_tables _ h p found) (fun t => ?_)
        fun t => ?_
      · rw [Part.splitFields, Part.splitFields, Part.splitting?, Part.splitting?, hides,
          find?_filter_of_kind _ _ _ fun x m k => kept t x m (.inr (beq_iff_eq.mp k))]
      · rw [Part.awaitedGap_eq, Part.awaitedGap_eq, hides, find?_filter_of_kind _ _ _ fun x m k => kept t x m (.inl ?_)]
        simp only [Hide.approached, Bool.and_eq_true, beq_iff_eq] at k
        exact k.1

theorem hideAbort_keeps (ticket : Half) (p : Part) : Keeps p (hideAbort ticket p).1 := by
  unfold hideAbort
  split
  · exact .refl p
  · rename_i h found
    split
    · rename_i announced
      exact abortAnnounced_keeps _ h p found announced
    · exact abortInPassage_keeps h p
    · exact abortInPassage_keeps h p
    · exact .refl p
    · exact .refl p

end Sys2Proof.Machine
end

section
/-! PROOFS. The other commands, the resets and the passing of time keep the invariants, so that every step does; the
power-on values meet them. -/

namespace Sys2Proof.Machine

/-! ## Commands of the axis, the lanes, lane tuning and the boards -/

theorem gapSet_keeps (gap : Half) (p : Part) : Keeps p (gapSet gap p).1 := by
  unfold gapSet
  split
  · exact .refl p
  · split
    · exact .refl p
    · refine .trans (.trans ?_ (startTest_keeps _)) (notReadyTest_keeps _)
      exact setGap_keeps p _ rfl rfl rfl rfl rfl

theorem gapApply_keeps (p : Part) : Keeps p (gapApply p).1 := by
  unfold gapApply
  split
  · exact .refl p
  · split
    · exact .refl p
    · split
      · exact .refl p
      · exact .refl p
      · rename_i fault _
        split
        · exact setGap_keeps p _ rfl rfl rfl rfl rfl
        · exact startMove_keeps _ p fault

theorem gapRecover_keeps (p : Part) : Keeps p (gapRecover p).1 := by
  unfold gapRecover
  split
  · split
    · exact .refl p
    · exact restartMove_keeps _ p
  · exact .refl p

theorem onLane_keeps (lane : Byte) (body : LaneNo → Part → Part × Answer) (p : Part)
    (h : ∀ n, Keeps p (body n p).1) : Keeps p (onLane lane body p).1 := by
  unfold onLane
  split
  · exact h _
  · exact .refl p

theorem onBoard_keeps (board : Byte) (body : BoardNo → Part → Part × Answer) (p : Part)
    (h : ∀ b, Keeps p (body b p).1) : Keeps p (onBoard board body p).1 := by
  unfold onBoard
  split
  · exact h _
  · exact .refl p

theorem parkLane_keeps (n : LaneNo) (p : Part) : Keeps p (parkLane n p).1 := by
  unfold parkLane
  split
  · exact .refl p
  · split <;> exact .refl p
  · split
    · exact .refl p
    · exact changeLane_keeps p n _ fun _ => laneRecordFits_of_dropped _ rfl rfl rfl rfl (Nat.zero_le _) fun _ => rfl

theorem unparkLane_keeps (n : LaneNo) (p : Part) : Keeps p (unparkLane n p).1 := by
  unfold unparkLane
  split
  · exact changeLane_keeps p n _ fun fits => laneRecordFits_of_dropped _ rfl rfl rfl rfl fits.rail
      fun out => absurd rfl out
  · exact .refl p

theorem Lane.recover_fits (l : Lane) : laneRecordFits l.recover :=
  laneRecordFits_of_dropped _ rfl rfl rfl rfl (Nat.zero_le _) fun _ => rfl

theorem recoverLane_keeps (n : LaneNo) (p : Part) : Keeps p (recoverLane n p).1 := by
  have recovered : Keeps p (changeLane n (p.lane n).recover p) := changeLane_keeps p n _ fun _ => Lane.recover_fits _
  unfold recoverLane
  split
  · exact recovered
  · exact recovered.trans (setDrive_keeps _ n _ (fun s => by cases s) fun _ => Nat.zero_le _)
  · exact .refl p
  · exact .refl p
  · exact .refl p

theorem laneWrite_keeps (settings : LaneSettingsOperands) (calibration : CalibrationOperands) (n : LaneNo) (p : Part) :
    Keeps p (laneWrite settings calibration n p).1 := by
  unfold laneWrite
  split
  · split
    · exact .refl p
    · unfold writeLane
      split
      · refine .trans (changeLane_keeps p n _ fun fits => ?_) (setLaneTuning_keeps _ _ _)
        exact fits.dropped rfl rfl rfl rfl rfl rfl
      · refine .trans ?_ (reseedTest_keeps n _)
        exact setLane_same_keeps p n _ rfl rfl rfl rfl rfl rfl rfl rfl
  · exact .refl p

theorem tuneStart_keeps (mask : Word) (p : Part) : Keeps p (tuneStart mask p).1 := by
  unfold tuneStart
  split
  · exact .refl p
  · split
    · exact .refl p
    · split
      · exact .refl p
      · dsimp only
        split
        · exact .refl p
        · exact startBatch_keeps _ _ p

theorem tuneAbort_keeps (p : Part) : Keeps p (tuneAbort p).1 := by
  unfold tuneAbort
  split
  · exact (Keeps.of_recompute (abortBatch_sound p) fun _ => abortBatch_ready p).trans (formationTest_keeps _)
  · exact .refl p

theorem tuneWrite_keeps (settings : TuneOperands) (n : LaneNo) (p : Part) : Keeps p (tuneWrite settings n p).1 := by
  unfold tuneWrite
  split
  · exact .refl p
  · split
    · exact .refl p
    · exact setLaneTuning_keeps p n _

theorem boardRecover_keeps (b : BoardNo) (p : Part) : Keeps p (boardRecover b p).1 := by
  unfold boardRecover
  split
  · exact recoverBoard_keeps b p
  · exact .refl p

/-! ## Commands of the reaction map and the port -/

theorem setRoutes_keeps (p : Part) (x : Vector Route 16) : Keeps p (p.setRoutes x) :=
  SameCore.keeps (by constructor <;> first | rfl | exact id)

theorem routeWrite_keeps (index : Byte) (route : RouteOperands) (p : Part) : Keeps p (routeWrite index route p).1 := by
  unfold routeWrite
  split
  · exact setRoutes_keeps p _
  · exact .refl p

theorem routeRead_keeps (index : Byte) (p : Part) : Keeps p (routeRead index p).1 := by
  unfold routeRead
  split <;> exact .refl p

theorem lineWrite_keeps (line mode drive level : Byte) (p : Part) : Keeps p (lineWrite line mode drive level p).1 := by
  unfold lineWrite
  split
  · exact setLines_keeps p _
  · exact .refl p

theorem lineClear_keeps (lines : Byte) (p : Part) : Keeps p (lineClear lines p).1 := by
  unfold lineClear
  split
  · exact setLines_keeps p _
  · exact .refl p

theorem lineRead_keeps (line : Byte) (p : Part) : Keeps p (lineRead line p).1 := by
  unfold lineRead
  split <;> exact .refl p

theorem tallyWrite_keeps (tally : Byte) (threshold : Word) (scope flags : Byte) (p : Part) :
    Keeps p (tallyWrite tally threshold scope flags p).1 := by
  unfold tallyWrite
  split
  · split
    · exact .refl p
    · exact setTallies_keeps p _
  · exact .refl p

theorem tallyReset_keeps (tally : Byte) (p : Part) : Keeps p (tallyReset tally p).1 := by
  unfold tallyReset
  split
  · exact setTallies_keeps p _
  · exact .refl p

theorem tallyRead_keeps (tally : Byte) (p : Part) : Keeps p (tallyRead tally p).1 := by
  unfold tallyRead
  split <;> exact .refl p

theorem writeAttentionMask_keeps (causes : Half) (p : Part) : Keeps p (writeAttentionMask causes p).1 := by
  unfold writeAttentionMask
  split
  · exact setPort_keeps p _
  · exact .refl p

/-- A command frame keeps what its effects keep; early it changes the port alone (R185 to R187). -/
theorem command_keeps (header : Byte) (body : Part → Part × Answer) (p : Part) (h : Keeps p (body p).1) :
    Keeps p (command header body p) := by
  unfold command
  split
  · exact setPort_keeps p _
  · exact (h.trans (setPort_keeps _ _)).trans (setPort_keeps _ _)

theorem fetch_keeps (clocked : Nat) (p : Part) : Keeps p (fetch clocked p) := by
  unfold fetch
  split <;> exact setPort_keeps p _

theorem malformed_keeps (header : Byte) (p : Part) : Keeps p (malformed header p) := by
  unfold malformed
  split
  · exact setPort_keeps p _
  · exact (setPort_keeps p _).trans (setPort_keeps _ _)

theorem disregard_keeps (clocks : Nat) (p : Part) : Keeps p (disregard clocks p) := by
  unfold disregard
  split <;> exact setPort_keeps p _

/-! ## A settings write -/

theorem createHide_settings (tag : Word) (article : Nat) (unannounced : Bool) (p : Part) :
    (createHide tag article unannounced p).settings = p.settings := rfl

theorem tellUnbound_settings (lead : Pos) (p : Part) : (tellUnbound lead p).settings = p.settings := rfl

theorem confirmLead_settings (lead : Pos) (p : Part) : (confirmLead lead p).settings = p.settings := by
  unfold confirmLead
  split
  · rfl
  · split
    · exact (bindHide_sameBase _ _ _ p).settings
    · split
      · exact (bindHide_sameBase _ _ _ _).settings
      · rfl

theorem confirmTrail_settings (trail : Pos) (p : Part) : (confirmTrail trail p).settings = p.settings := by
  unfold confirmTrail
  split
  · exact (testMarks_sameBase _ _).settings
  · split <;> rfl

theorem eyeTest_settings (p : Part) : (eyeTest p).settings = p.settings := by
  unfold eyeTest
  split
  · rfl
  · unfold leadDebounceTest
    split
    · split
      · exact confirmLead_settings _ _
      · rfl
    · rfl
  · rfl
  · unfold gapFilterTest
    split
    · split
      · exact confirmTrail_settings _ _
      · rfl
    · rfl
  · unfold discardTest
    split
    · split <;> rfl
    · rfl

theorem handSettingsToEye_keeps (before : Settings) (p : Part) : Keeps p (handSettingsToEye before p) := by
  unfold handSettingsToEye
  split
  · split
    · exact .refl p
    · exact eyeTest_keeps p
  · exact seatEye_keeps p

theorem handSettingsToEye_settings (before : Settings) (p : Part) : (handSettingsToEye before p).settings = p.settings := by
  unfold handSettingsToEye
  split
  · split
    · rfl
    · exact eyeTest_settings p
  · rfl

theorem handSettingsToGap_keeps (before : Settings) (p : Part) : Keeps p (handSettingsToGap before p) := by
  unfold handSettingsToGap
  split
  · exact .refl p
  · exact startTest_keeps p

theorem handSettingsToGap_settings (before : Settings) (p : Part) : (handSettingsToGap before p).settings = p.settings := by
  unfold handSettingsToGap
  split
  · rfl
  · exact startTest_settings p

/-- The settings are no invariant's but for the two pressures, which the recompute of R150 decides anew. -/
theorem setSettings_sound (p : Part) (t : Settings) : Sound p (p.setSettings t) :=
  .of_tables rfl rfl rfl rfl rfl rfl (tablesAgree_congr rfl rfl)

theorem replaceSettings_keeps (t : Settings) (p : Part) : Keeps p (replaceSettings t p) := by
  have handed : Keeps (p.setSettings t) (handSettingsToGap p.settings (handSettingsToEye p.settings (p.setSettings t))) :=
    (handSettingsToEye_keeps _ _).trans (handSettingsToGap_keeps _ _)
  have settings : (handSettingsToGap p.settings (handSettingsToEye p.settings (p.setSettings t))).settings = t := by
    rw [handSettingsToGap_settings, handSettingsToEye_settings]
    rfl
  unfold replaceSettings handSettingsToPressure
  rw [settings]
  split
  · rename_i same
    refine Keeps.trans (SameCore.keeps ?_) handed
    constructor
    case idlePressure => exact same.1
    case parkPressure => exact same.2
    case stopped => exact id
    all_goals rfl
  · exact .of_recompute ((setSettings_sound p t).trans handed.toSound) fun agree ready =>
      handed.ready (tablesAgree_congr rfl rfl agree) (ready_of_hides rfl rfl rfl rfl ready)

theorem writeSettings_keeps (settings : SettingsOperands) (p : Part) : Keeps p (writeSettings settings p).1 := by
  unfold writeSettings
  split
  · exact .refl p
  · split
    · exact .refl p
    · exact replaceSettings_keeps _ p

/-! ## MACHINE RESET -/

theorem abortBatch_batchRunning (p : Part) : (abortBatch p).batchRunning = false := by
  unfold abortBatch
  split
  · simp only [endBatch, Part.batchRunning, Part.putHold_tuning, Part.setTuning]
    cases (List.foldl restoreMember p p.unfinished).tuning.batch <;> rfl
  · rename_i none
    exact Bool.not_eq_true _ ▸ none

theorem setAllLanes_sound (p : Part) (x : Vector Lane 32) (y : Vector LaneTuning 32)
    (fits : laneRecordsFit p → ∀ n : LaneNo, laneRecordFits x[n.val]) :
    Sound p { p with lanes := x, tuning := { p.tuning with lanes := y } } :=
  .of_lanes rfl rfl rfl rfl rfl rfl rfl fits

theorem resetLanes_sound (p : Part) : Sound p (resetLanes p) := by
  refine (abortBatch_sound p).trans (setAllLanes_sound (abortBatch p) (mapAll Lane.machineReset (abortBatch p).lanes)
    (mapAll LaneTuning.withdrawRequest (abortBatch p).tuning.lanes) fun _ n => ?_)
  rw [getElem_mapAll]
  exact laneRecordFits_of_dropped _ rfl rfl rfl rfl (Nat.zero_le _) fun _ => rfl

theorem resetLanes_batchRunning (p : Part) : (resetLanes p).batchRunning = false := by
  have running := abortBatch_batchRunning p
  unfold resetLanes
  generalize abortBatch p = q at running ⊢
  simpa only [Part.batchRunning] using running

theorem ArticlesFit.nil (N : Nat → Nat) : ArticlesFit N [] :=
  ⟨.nil, Nat.zero_le _, List.forall_mem_nil _, List.forall_mem_nil _, List.forall_mem_nil _, Nat.zero_le _⟩

theorem HidesFit.nil (l : List Plan) : HidesFit l [] :=
  ⟨Nat.zero_le _, List.nodup_nil, List.forall_mem_nil _, Nat.zero_le _⟩
theorem unpinned_articlesFit {N : Nat → Nat} {l : List Plan} (fits : ArticlesFit N l) :
    ArticlesFit (namingIn []) (resetArticles l) := by
  have active := fits.sublist (List.filter_sublist (l := l) (p := fun a => a.state == .active))
  refine active.map _ (fun _ _ => rfl) (fun _ _ => rfl) (fun a m r => ?_) ?_
  · have state := (List.mem_filter.mp m).2
    rw [show a.state = .retiring from r] at state
    cases state
  · exact (length_filter_mark_map _ (fun a => { a with pins := 0 }) fun _ _ marked => marked).trans active.marks

theorem GapAxis.machineReset_eq (g : GapAxis) : g.machineReset.state = .stale ∧ g.machineReset.target = none ∧
    g.machineReset.settle = 0 ∧ g.machineReset.moveTimer = none := by
  unfold GapAxis.machineReset
  dsimp only
  split <;> exact ⟨rfl, rfl, rfl, rfl⟩

/-- The tables, the feed and the axis at MACHINE RESET, with no batch running any more (R21, R45, R77, R96). -/
theorem resetTables_sound (p : Part) (none : p.batchRunning = false) : Sound p (resetTables p) := by
  obtain ⟨state, target, settle, timer⟩ := p.gap.machineReset_eq
  unfold resetTables
  generalize mapAll Line.clear p.lines = lines
  exact
    { bus := busFits_congr rfl rfl
      axis := fun _ _ => by
        refine ⟨?_, rfl, fun a => ⟨a, rfl⟩, ?_, none.symm, Nat.zero_le _⟩
        · simp [gapRecordFits, state, target, settle, timer]
        · simp [Feed.machineReset, HoldSet.empty, state]
      level := levelTaken_congr rfl rfl
      lanes := laneRecordsFit_congr rfl
      tables := fun t => (tablesAgree_iff _).mpr ⟨unpinned_articlesFit t.articlesFit, .nil _⟩ }

theorem resetTables_ready (p : Part) : notReadyIsHeld (resetTables p) := by
  unfold resetTables
  generalize mapAll Line.clear p.lines = lines
  rfl

theorem seatEye_sameAxis (p : Part) : SameAxis p (seatEye p) := ⟨rfl, rfl, rfl⟩

theorem resetMaster_sameAxis (p : Part) : SameAxis p (resetMaster p) := by
  have drains : ∀ q, SameAxis q (drainTest q) := fun q => by
    unfold drainTest
    split
    · split <;> exact ⟨rfl, rfl, rfl⟩
    · exact ⟨rfl, rfl, rfl⟩
  have bus : ∀ u : Bus, SameAxis p (p.setBus u) := fun _ => ⟨rfl, rfl, rfl⟩
  unfold resetMaster
  split
  · exact ⟨rfl, rfl, rfl⟩
  · exact ⟨rfl, rfl, rfl⟩
  · exact bus _
  · exact (bus _).trans (drains _)
  · exact (bus _).trans (drains _)

theorem resetBus_sameAxis (p : Part) : SameAxis p (resetBus p) := by
  have bus : ∀ u : Bus, SameAxis p (p.setBus u) := fun _ => ⟨rfl, rfl, rfl⟩
  unfold resetBus
  generalize mapAll BoardState.machineReset p.bus.boards = boards
  generalize Vector.ofFn (fun n : LaneNo => (p.drive n).machineReset (p.lane n).driven) = drives
  exact (bus _).trans (resetMaster_sameAxis _)

theorem takeOwnStopLevel_keeps {p q : Part} (h : Sound p q) (ready : notReadyIsHeld q) :
    Keeps p (takeStopLevel q.feed.stopLine q) where
  toSound := takeStopLevel_sound _ h.bus h.axis rfl h.lanes h.tables
  decided _ _ := takeStopLevel_decided _ _
  ready _ _ := takeStopLevel_ready _ _ ready

theorem machineReset_keeps (p : Part) : Keeps p (machineReset p).1 := by
  have tables : Sound p (resetTables (resetLanes p)) :=
    (resetLanes_sound p).trans (resetTables_sound _ (resetLanes_batchRunning p))
  have cleared : Sound p (resetBus (seatEye (resetTables (resetLanes p)))) :=
    (tables.trans (seatEye_keeps _).toSound).trans (resetBus_keeps _).toSound
  have ready : notReadyIsHeld (resetBus (seatEye (resetTables (resetLanes p)))) :=
    ((seatEye_sameAxis _).trans (resetBus_sameAxis _)).ready (resetTables_ready _)
  have level := takeOwnStopLevel_keeps cleared ready
  exact (level.trans (startTest_keeps _)).trans (arbiterTest_keeps _)

/-! ## Power-on -/

theorem powerOn_bus (eyeHigh stop : Bool) :
    settledMeansApplied (Part.powerOn eyeHigh stop) ∧ busRecordFits (Part.powerOn eyeHigh stop) := by
  have drive : ∀ n : LaneNo, (Part.powerOn eyeHigh stop).drive n = ⟨.waiting, none, 0⟩ := fun n => by
    simp only [Part.drive, Part.powerOn, Bus.powerOn, Vector.getElem_replicate]
  refine ⟨fun n s => ?_, (busRecordFits_iff _).mpr ⟨?_, fun n => ?_⟩⟩
  · rw [drive] at s
    cases s
  · simp [Part.powerOn, Bus.powerOn, Bus.masterFits, MasterState.board]
  · rw [drive]
    exact Nat.zero_le _

theorem powerOn_axis (eyeHigh stop : Bool) :
    gapRecordFits (Part.powerOn eyeHigh stop) ∧ holdsMirrorTheirBlocks (Part.powerOn eyeHigh stop) := by
  refine ⟨?_, rfl, rfl, fun asserted => ⟨asserted, rfl⟩, ?_, rfl, Nat.zero_le _⟩
  · simp [gapRecordFits, Part.powerOn, GapAxis.powerOn]
  · simp [Part.powerOn, GapAxis.powerOn, HoldSet.empty]

theorem powerOn_lane (eyeHigh stop : Bool) (n : LaneNo) : (Part.powerOn eyeHigh stop).lane n = Lane.powerOn := by
  simp only [Part.lane, Part.powerOn, Vector.getElem_replicate]

theorem powerOn_lanes (eyeHigh stop : Bool) : laneRecordsFit (Part.powerOn eyeHigh stop) := fun n => by
  rw [powerOn_lane]
  exact laneRecordFits_of_dropped _ rfl rfl rfl rfl (Nat.zero_le _) fun _ => rfl

theorem powerOn_tables (eyeHigh stop : Bool) : tablesAgree (Part.powerOn eyeHigh stop) :=
  (tablesAgree_iff _).mpr ⟨.nil _, .nil _⟩

/-- Every lane is blind, so the park pressure is wanted of all. -/
theorem powerOn_decided (eyeHigh stop : Bool) : wantedIsDecided (Part.powerOn eyeHigh stop) := by
  have park : ∀ n : LaneNo, (Part.powerOn eyeHigh stop).pressureFor (Part.powerOn eyeHigh stop).contactSpan n = 40 :=
    fun n => Part.pressureFor_of_blind _ _ n (by rw [powerOn_lane]; rfl)
  refine Vector.ext fun i hi => ?_
  simp only [Part.pressures, Vector.getElem_ofFn, park]
  simp only [Part.powerOn, Vector.getElem_replicate]

theorem powerOn_ready (eyeHigh stop : Bool) : notReadyIsHeld (Part.powerOn eyeHigh stop) := rfl

/-- A full reset leaves a part that meets the invariants, whatever it was before (R196). -/
theorem fullReset_keeps (eyeHigh stop : Bool) (p : Part) : Keeps p (fullReset eyeHigh stop p) := by
  have same : Keeps (Part.powerOn eyeHigh stop) (fullReset eyeHigh stop p) :=
    SameCore.keeps (by constructor <;> first | rfl | exact id)
  obtain ⟨settled, bus⟩ := powerOn_bus eyeHigh stop
  obtain ⟨gap, holds⟩ := powerOn_axis eyeHigh stop
  obtain ⟨mirror, level⟩ := (holdsMirror_iff _).mp holds
  exact
    { bus := fun _ _ => same.bus settled bus
      axis := fun _ _ => same.axis gap mirror
      level := fun _ => same.level level
      lanes := fun _ => same.lanes (powerOn_lanes eyeHigh stop)
      tables := fun _ => same.tables (powerOn_tables eyeHigh stop)
      decided := fun _ _ => same.decided (powerOn_tables eyeHigh stop) (powerOn_decided eyeHigh stop)
      ready := fun _ _ => same.ready (powerOn_tables eyeHigh stop) (powerOn_ready eyeHigh stop) }

/-! ## Time -/

theorem countDown_isSome (timer : Option Nat) : (countDown timer).isSome = timer.isSome := by
  cases timer <;> rfl

theorem passTick_keeps (p : Part) : Keeps p (passTick p) := by
  unfold passTick
  generalize mapAll (fun l => { l with pulse := countDown l.pulse }) p.lines = lines
  generalize mapAll (fun t => { t with holdoff := countDown t.holdoff }) p.tuning.lanes = tunings
  exact
    { bus := fun settled fits => ⟨settled, by
        simpa only [busRecordFits_iff, Bus.masterFits, countDown_isSome, Part.drive] using fits⟩
      axis := fun fits mirror => ⟨gapRecordFits_congr (p := p) rfl rfl rfl rfl (countDown_isSome _) fits,
        holdsMirror_congr (p := p) rfl rfl id rfl rfl rfl rfl rfl rfl mirror⟩
      level := levelTaken_congr rfl rfl
      lanes := laneRecordsFit_congr rfl
      tables := tablesAgree_congr rfl rfl
      decided := fun _ => wantedIsDecided_congr rfl (Part.pressures_congr rfl rfl rfl rfl)
      ready := fun _ => ready_of_hides rfl rfl rfl rfl }

theorem expireTimer_keeps (t : Timer) (p : Part) : Keeps p (expireTimer t p) := by
  cases t with
  | move => exact expireMoveTimer_keeps p
  | select => exact expireSelectTimer_keeps p
  | release => exact expireRelease_keeps p
  | acceptance => exact setPort_keeps p _
  | pulse i => exact setLines_keeps p _
  | holdoff n => exact thenArbiter_keeps (expireHoldoff_keeps n p)

theorem setFreeCount_keeps (p : Part) (x : Nat) : Keeps p (p.setFreeCount x) :=
  SameCore.keeps (by constructor <;> first | rfl | exact id)

theorem idle_keeps (p : Part) : Keeps p (idle p) := by
  unfold idle
  split
  · exact passTick_keeps p
  · exact expireTimer_keeps _ p
  · exact (setFreeCount_keeps p _).trans (expireTimer_keeps _ _)

/-! ## Every command, every step -/

theorem takeScanReading_keeps (n : LaneNo) (raw : Nat) (p : Part) : Keeps p (takeReading n raw (startScan n p)) :=
  (startScan_keeps n p).trans (takeReading_keeps n raw (startScan n p))


theorem laneReading_keeps (n : LaneNo) (raw : Half) (p : Part) : Keeps p (effect (.laneReading n raw) p) := by
  simp only [effect]
  refine thenArbiter_keeps ?_
  exact takeScanReading_keeps n raw.toNat p

theorem effect_keeps (c : Instr) (p : Part) : Keeps p (effect c p) := by
  cases c with
  | articleWrite code plan mark => exact command_keeps _ _ p (articleWrite_keeps code plan mark p)
  | articleRead code => exact command_keeps _ _ p (.refl p)
  | articleFindNext code => exact command_keeps _ _ p (.refl p)
  | articleRetire code => exact command_keeps _ _ p (articleRetire_keeps code p)
  | hideAnnounce tag code => exact thenArbiter_keeps (command_keeps _ _ p (hideAnnounce_keeps tag code p))
  | hideAmend ticket tag code => exact command_keeps _ _ p (hideAmend_keeps ticket tag code p)
  | hideRead ticket => exact command_keeps _ _ p (.refl p)
  | hideFind tag => exact command_keeps _ _ p (.refl p)
  | hideList => exact command_keeps _ _ p (.refl p)
  | hideAbort ticket => exact thenArbiter_keeps (command_keeps _ _ p (hideAbort_keeps ticket p))
  | hideRetire ticket => exact command_keeps _ _ p (hideRetire_keeps ticket p)
  | feedRun => exact command_keeps _ _ p (feedRun_keeps p)
  | feedStop => exact command_keeps _ _ p (setRunState_stopped_keeps p)
  | feedStopAtClear => exact command_keeps _ _ p (feedStopAtClear_keeps p)
  | feedStopBeforeNext => exact command_keeps _ _ p (feedStopBeforeNext_keeps p)
  | feedHold => exact command_keeps _ _ p (putHold_keeps p .hostHold true rfl)
  | feedClearHold causes => exact thenArbiter_keeps (command_keeps _ _ p (feedClearHold_keeps causes p))
  | feedRead => exact command_keeps _ _ p (.refl p)
  | eyeForceLead operand => exact thenArbiter_keeps (command_keeps _ _ p (eyeForce_keeps operand p))
  | eyeForceTail operand => exact thenArbiter_keeps (command_keeps _ _ p (eyeForce_keeps operand p))
  | eyeRead => exact command_keeps _ _ p (.refl p)
  | gapSet gap => exact command_keeps _ _ p (gapSet_keeps gap p)
  | gapApply => exact command_keeps _ _ p (gapApply_keeps p)
  | gapRecover => exact command_keeps _ _ p (gapRecover_keeps p)
  | gapRead => exact command_keeps _ _ p (.refl p)
  | lanePark lane => exact thenArbiter_keeps (command_keeps _ _ p (onLane_keeps _ _ p fun n => parkLane_keeps n p))
  | laneUnpark lane => exact thenArbiter_keeps (command_keeps _ _ p (onLane_keeps _ _ p fun n => unparkLane_keeps n p))
  | laneRecover lane => exact thenArbiter_keeps (command_keeps _ _ p (onLane_keeps _ _ p fun n => recoverLane_keeps n p))
  | laneRead lane => exact command_keeps _ _ p (onLane_keeps _ _ p fun _ => .refl p)
  | laneWrite lane settings calibration =>
    exact thenArbiter_keeps (command_keeps _ _ p (onLane_keeps _ _ p fun n => laneWrite_keeps settings calibration n p))
  | lanePressure lane => exact command_keeps _ _ p (onLane_keeps _ _ p fun _ => .refl p)
  | tuneStart mask => exact thenArbiter_keeps (command_keeps _ _ p (tuneStart_keeps mask p))
  | tuneAbort => exact thenArbiter_keeps (command_keeps _ _ p (tuneAbort_keeps p))
  | tuneWrite lane settings => exact command_keeps _ _ p (onLane_keeps _ _ p fun n => tuneWrite_keeps settings n p)
  | tuneRead lane => exact command_keeps _ _ p (onLane_keeps _ _ p fun _ => .refl p)
  | boardRecover board => exact command_keeps _ _ p (onBoard_keeps _ _ p fun b => boardRecover_keeps b p)
  | boardRead board => exact command_keeps _ _ p (onBoard_keeps _ _ p fun _ => .refl p)
  | routeWrite index route => exact command_keeps _ _ p (routeWrite_keeps index route p)
  | routeRead index => exact command_keeps _ _ p (routeRead_keeps index p)
  | lineWrite line mode drive level => exact command_keeps _ _ p (lineWrite_keeps line mode drive level p)
  | lineClear lines => exact command_keeps _ _ p (lineClear_keeps lines p)
  | lineRead line => exact command_keeps _ _ p (lineRead_keeps line p)
  | tallyWrite tally threshold scope flags => exact command_keeps _ _ p (tallyWrite_keeps tally threshold scope flags p)
  | tallyReset tally => exact command_keeps _ _ p (tallyReset_keeps tally p)
  | tallyRead tally => exact command_keeps _ _ p (tallyRead_keeps tally p)
  | machineReset => exact command_keeps _ _ p (machineReset_keeps p)
  | machineReadAttention => exact command_keeps _ _ p (setPort_keeps p _)
  | machineWriteAttentionMask causes => exact command_keeps _ _ p (writeAttentionMask_keeps causes p)
  | machineReadAttentionMask => exact command_keeps _ _ p (.refl p)
  | machineReadSettings => exact command_keeps _ _ p (.refl p)
  | machineWriteSettings settings => exact thenArbiter_keeps (command_keeps _ _ p (writeSettings_keeps settings p))
  | linkFetch clocked => exact fetch_keeps clocked p
  | malformedFrame header clocks => exact malformed_keeps header p
  | frameDisregarded clocks => exact disregard_keeps clocks p
  | powerOn eyeHigh stop => exact fullReset_keeps eyeHigh stop p
  | resetPin eyeHigh stop => exact fullReset_keeps eyeHigh stop p
  | forwardStep => exact thenArbiter_keeps (takeEncoder_keeps _ p)
  | backwardStep => exact takeEncoder_keeps _ p
  | stopAssertion => exact thenArbiter_keeps (takeStopAssertion_keeps p)
  | stopRelease => exact thenArbiter_keeps (takeStopRelease_keeps p)
  | eyeTransition => exact takeEyeTransition_keeps p
  | leadDebounceTravelled => exact thenArbiter_keeps (leadDebounceTest_keeps p)
  | gapFilterTravelled => exact thenArbiter_keeps (gapFilterTest_keeps p)
  | discardLightTravelled => exact discardTest_keeps p
  | approachPointCrossing ticket => exact testApproach_keeps _ p
  | knifeLineCrossing ticket => exact thenArbiter_keeps (testKnife_keeps _ p)
  | trailMarkCrossing ticket => exact thenArbiter_keeps (testTrail_keeps _ p)
  | maximumLengthCrossing ticket => exact testMaximum_keeps _ p
  | gaugePair left right => exact takeGaugePair_keeps _ _ p
  | moveCompletion left right => exact completeMoveWith_keeps _ _ p
  | moveTimerExpiry => exact expireMoveTimer_keeps p
  | laneReading lane raw => exact laneReading_keeps lane raw p
  | laneReseed lane => exact thenArbiter_keeps (reseedTest_keeps lane p)
  | batchCompletion => exact thenArbiter_keeps (completeBatch_keeps p)
  | formationTest => exact thenArbiter_keeps (formationTest_keeps p)
  | holdoffTimerExpiry lane => exact thenArbiter_keeps (expireHoldoff_keeps lane p)
  | arbiterTest => exact arbiterTest_keeps p
  | selectAnswer answer => exact takeSelectAnswer_keeps answer p
  | selectTimerExpiry => exact expireSelectTimer_keeps p
  | busSlot received => exact takeSlot_keeps received p
  | echoArrival echo => exact takeEchoArrival_keeps echo p
  | releaseIntervalExpiry => exact expireRelease_keeps p
  | pulseTimerExpiry line => exact setLines_keeps p _
  | framesAccepted => exact setPort_keeps p _

/-- Every step keeps every invariant. -/
theorem step_keeps (s t : State) (h : step s = .next t) : Keeps s.toPart t.toPart := by
  unfold step at h
  split at h
  · obtain rfl := Host.Outcome.next.inj h
    exact idle_keeps s.toPart
  · rename_i c rest _
    rw [exec_eq] at h
    obtain rfl := Host.Outcome.next.inj h
    exact effect_keeps c s.toPart

end Sys2Proof.Machine

open Sys2Proof Sys2Proof.Machine

/-- Settles O57: `step_keeps`, read at the bus. -/
theorem stepsKeepTheBusRecords : Obligations.StepsKeepTheBusRecords :=
  fun s t settled fits next => (step_keeps s t next).bus settled fits

/-- Settles O58: `step_keeps`, read at the axis, the holds with the STOP level, and the lanes. -/
theorem stepsKeepAxisHoldsAndLanes : Obligations.StepsKeepAxisHoldsAndLanes := by
  intro s t next
  have keeps := step_keeps s t next
  refine ⟨fun fits holds => ?_, keeps.lanes⟩
  obtain ⟨mirror, level⟩ := (holdsMirror_iff _).mp holds
  obtain ⟨fits', mirror'⟩ := keeps.axis fits mirror
  exact ⟨fits', (holdsMirror_iff _).mpr ⟨mirror', keeps.level level⟩⟩

/-- Settles O59: `step_keeps`, read at the tables, and with them at the wanted pressures and the readiness. -/
theorem stepsKeepTablesAndWantedPressures : Obligations.StepsKeepTablesAndWantedPressures := by
  intro s t agree next
  have keeps := step_keeps s t next
  exact ⟨keeps.tables agree, fun decided ready => ⟨keeps.decided agree decided, keeps.ready agree ready⟩⟩

/-- Settles O60: the power-on values meet every invariant, and the reset state is such a part with an empty queue. -/
theorem resetMeetsTheInvariants : Obligations.ResetMeetsTheInvariants :=
  ⟨rfl, (powerOn_bus false false).1, (powerOn_bus false false).2, (powerOn_axis false false).1,
    (powerOn_axis false false).2, powerOn_lanes false false, powerOn_tables false false, powerOn_decided false false,
    powerOn_ready false false⟩
end

section
/-! PROOFS. Frames of the host and the passing of time (R65 to R68, R185, R186, R189): what a command frame answers by
what its body gives, the two pending stops, the idle step and the frames that are no command. -/

namespace Sys2Proof.Machine

/-! ## A command frame, by what its body gives -/

theorem exec_of_effect {c : Instr} {s : State} {p : Part} (gives : effect c s.toPart = p) :
    exec c s = .next (s.withPart p) := by
  rw [exec_eq, gives]

theorem exec_command {c : Instr} {header : Byte} {body : Part → Part × Answer} (row : effect c = command header body)
    {s : State} (accept : s.port.acceptIn = none) {p : Part} {a : Answer} (gives : body s.toPart = (p, a)) :
    exec c s = .next (s.answers header a.code a.reply p) := by
  have taken := s.run_command header body accept
  rw [gives] at taken
  rw [exec_eq, row]
  exact congrArg Host.Outcome.next taken

theorem exec_thenArbiter_command {c : Instr} {header : Byte} {body : Part → Part × Answer}
    (row : effect c = thenArbiter (command header body)) {s : State} (accept : s.port.acceptIn = none) {p : Part}
    {a : Answer} (gives : body s.toPart = (p, a)) :
    exec c s = .next (s.thenWakes (s.answers header a.code a.reply p).toPart) := by
  have taken := s.run_thenArbiter_command header body accept
  rw [gives] at taken
  rw [exec_eq, row]
  exact congrArg Host.Outcome.next taken

/-- No lane can have come to wait where the drive records and the lanes are as they were. -/
theorem exec_thenArbiter_command_same {c : Instr} {header : Byte} {body : Part → Part × Answer}
    (row : effect c = thenArbiter (command header body)) {s : State} (accept : s.port.acceptIn = none) {p : Part}
    {a : Answer} (gives : body s.toPart = (p, a)) (drives : p.bus.drives = s.bus.drives) (lanes : p.lanes = s.lanes) :
    exec c s = .next (s.answers header a.code a.reply p) := by
  rw [exec_thenArbiter_command row accept gives, State.thenWakes_of_same]
  · rfl
  · exact drives
  · exact lanes

theorem exec_thenArbiter_refused {c : Instr} {header : Byte} {body : Part → Part × Answer}
    (row : effect c = thenArbiter (command header body)) {s : State} (accept : s.port.acceptIn = none)
    {code : ResultCode} (gives : body s.toPart = (s.toPart, refusal code)) :
    exec c s = .next (s.refuses header code) :=
  exec_thenArbiter_command_same row accept gives rfl rfl

/-! ## The arbiter test at the end of a step -/

theorem State.thenWakes_port (s : State) (p : Part) : (s.thenWakes p).port = p.port := thenArbiter_port _ _
theorem State.thenWakes_feed (s : State) (p : Part) : (s.thenWakes p).feed = p.feed := thenArbiter_feed _ _
theorem State.thenWakes_hides (s : State) (p : Part) : (s.thenWakes p).hides = p.hides := thenArbiter_hides _ _
theorem State.thenWakes_articles (s : State) (p : Part) : (s.thenWakes p).articles = p.articles := thenArbiter_articles _ _
theorem State.thenWakes_lanes (s : State) (p : Part) : (s.thenWakes p).lanes = p.lanes := thenArbiter_lanes _ _
theorem State.thenWakes_tuning (s : State) (p : Part) : (s.thenWakes p).tuning = p.tuning := thenArbiter_tuning _ _
theorem State.thenWakes_gap (s : State) (p : Part) : (s.thenWakes p).gap = p.gap := thenArbiter_gap _ _
theorem State.thenWakes_eye (s : State) (p : Part) : (s.thenWakes p).eye = p.eye := thenArbiter_eye _ _
theorem State.thenWakes_unbound (s : State) (p : Part) : (s.thenWakes p).unbound = p.unbound := thenArbiter_unbound _ _
theorem State.thenWakes_settings (s : State) (p : Part) : (s.thenWakes p).settings = p.settings := thenArbiter_settings _ _
theorem State.thenWakes_routes (s : State) (p : Part) : (s.thenWakes p).routes = p.routes := thenArbiter_routes _ _
theorem State.thenWakes_lines (s : State) (p : Part) : (s.thenWakes p).lines = p.lines := thenArbiter_lines _ _
theorem State.thenWakes_tallies (s : State) (p : Part) : (s.thenWakes p).tallies = p.tallies := thenArbiter_tallies _ _
theorem State.thenWakes_pressure (s : State) (p : Part) : (s.thenWakes p).pressure = p.pressure := thenArbiter_pressure _ _
theorem State.thenWakes_nextTicket (s : State) (p : Part) : (s.thenWakes p).nextTicket = p.nextTicket :=
  thenArbiter_nextTicket _ _
theorem State.thenWakes_scanPeriod (s : State) (p : Part) : (s.thenWakes p).scanPeriod = p.scanPeriod :=
  thenArbiter_scanPeriod _ _
theorem State.thenWakes_boards (s : State) (p : Part) : (s.thenWakes p).bus.boards = p.bus.boards :=
  thenArbiter_bus_boards _ _
theorem State.thenWakes_drives (s : State) (p : Part) : (s.thenWakes p).bus.drives = p.bus.drives :=
  thenArbiter_bus_drives _ _
theorem State.thenWakes_hide? (s : State) (p : Part) (t : Nat) : (s.thenWakes p).hide? t = p.hide? t := by
  rw [Part.hide?, State.thenWakes_hides]
  rfl
theorem State.thenWakes_lane (s : State) (p : Part) (n : LaneNo) : (s.thenWakes p).lane n = p.lane n := by
  rw [Part.lane, Part.lane, State.thenWakes_lanes]
theorem State.thenWakes_laneTuning (s : State) (p : Part) (n : LaneNo) : (s.thenWakes p).laneTuning n = p.laneTuning n := by
  rw [Part.laneTuning, Part.laneTuning, State.thenWakes_tuning]
theorem State.thenWakes_wanted (s : State) (p : Part) (n : LaneNo) : (s.thenWakes p).wanted n = p.wanted n := by
  rw [Part.wanted, Part.wanted, State.thenWakes_pressure]
theorem State.thenWakes_drive (s : State) (p : Part) (n : LaneNo) : (s.thenWakes p).drive n = p.drive n := by
  rw [Part.drive, Part.drive, State.thenWakes_drives]

/-! ## The pending stops -/

theorem Part.anyInPassage_iff (p : Part) :
    p.anyInPassage = true ↔ ∃ h ∈ p.hides, h.state = .entering ∨ h.state = .splitting := by
  simp only [Part.anyInPassage, List.any_eq_true, Hide.inPassage, Bool.or_eq_true, beq_iff_eq]

theorem Part.anyInPassage_eq_false_iff (p : Part) :
    p.anyInPassage = false ↔ ∀ h ∈ p.hides, h.state ≠ .entering ∧ h.state ≠ .splitting := by
  simp only [← Bool.not_eq_true, p.anyInPassage_iff, not_exists, not_and, not_or]

/-! ## Time -/

theorem step_of_nil {s : State} (none : s.pending = []) : step s = .next (s.withPart (idle s.toPart)) := by
  rw [step, none]
  rfl

theorem mem_allTimers (t : Timer) : t ∈ allTimers := by
  cases t with
  | pulse i => simp [allTimers]
  | holdoff n => simp [allTimers, allLanes]
  | _ => simp [allTimers]

theorem Part.mem_dueTimers_iff (p : Part) (t : Timer) : t ∈ p.dueTimers ↔ p.remaining t = some 0 := by
  simp only [Part.dueTimers, List.mem_filter, mem_allTimers, true_and, beq_iff_eq]

/-- Of several timers that have run out, some one expires. -/
theorem idle_of_several (p : Part) (several : 2 ≤ p.dueTimers.length) :
    ∃ t ∈ p.dueTimers, idle p = expireTimer t (p.setFreeCount (p.freeCount + 1)) := by
  unfold idle
  match due : p.dueTimers with
  | [] => simp [due] at several
  | [_] => simp [due] at several
  | t :: u :: rest =>
    have bound : Config.timerChoice p.freeCount % ((u :: rest).length + 1) < (t :: u :: rest).length :=
      Nat.mod_lt _ (Nat.succ_pos _)
    refine ⟨_, ?_, rfl⟩
    rw [List.getD_eq_getElem _ _ bound]
    exact List.getElem_mem bound

end Sys2Proof.Machine

open Sys2Proof Sys2Proof.Machine

/-- Settles O23: the two tables are the two functions on run states. -/
theorem pendingStopsFollowTheirTables : Obligations.PendingStopsFollowTheirTables := by
  intro s accept
  constructor
  · intro r ⟨stopped, atClear, running⟩
    have next : s.feed.runState.stopAtClear s.anyInPassage = r := by
      cases state : s.feed.runState with
      | stopped => exact (stopped state).symm
      | stoppingAtClear => exact (atClear state).symm
      | running | stoppingBeforeNext =>
        obtain ⟨waits, stops⟩ := running (by simp [state])
        cases passage : s.anyInPassage with
        | true => exact (waits ((Part.anyInPassage_iff _).mp passage)).symm
        | false => exact (stops ((Part.anyInPassage_eq_false_iff _).mp passage)).symm
    subst next
    exact exec_command (c := .feedStopAtClear) rfl accept rfl
  · intro r ⟨stopped, other⟩
    have next : s.feed.runState.stopBeforeNext = r := by
      cases state : s.feed.runState with
      | stopped => exact (stopped state).symm
      | running | stoppingAtClear | stoppingBeforeNext => exact (other (by simp [state])).symm
    subst next
    exact exec_command (c := .feedStopBeforeNext) rfl accept rfl

/-- Settles O3: an idle step is `idle`, its own rows are `expireTimer`'s, and a due timer is one with no tick left. -/
theorem idleStepPassesTime : Obligations.IdleStepPassesTime := by
  refine ⟨fun s none => ?_, fun _ => ⟨rfl, rfl, rfl, rfl, fun _ => rfl, fun _ => rfl⟩, fun p => ?_⟩
  · rw [step_of_nil none]
    refine ⟨fun due => ?_, fun t due => ?_, fun several => ?_⟩
    · rw [idle, due]
      simp only [passTick, mapAll_eq_map]
      rfl
    · rw [idle, due]
    · obtain ⟨t, mem, eq⟩ := idle_of_several s.toPart several
      exact ⟨t, mem, by rw [eq]; rfl⟩
  · simp only [p.mem_dueTimers_iff, Part.remaining, implies_true, and_self]
end

section
/-! PROOFS. Frames (R185 to R192, R197 to R199): the two directions of the decoder, frames that are no command, FETCH, the
status byte and the attention sets. -/

namespace Sys2Proof.Machine

/-! ## Frames before acceptance -/

/-- Every frame that carries a host command is a row of `command`, with or without an arbiter test at its end. -/
theorem effect_of_frame {c : Instr} (frame : (encodeFrame c).isSome = true) :
    ∃ header body, effect c = command header body ∨ effect c = thenArbiter (command header body) := by
  cases c with
  | hideAnnounce | hideAbort | feedClearHold | eyeForceLead | eyeForceTail | lanePark | laneUnpark | laneRecover | laneWrite
  | tuneStart | tuneAbort | machineWriteSettings => exact ⟨_, _, .inr rfl⟩
  | linkFetch | malformedFrame | frameDisregarded | powerOn | resetPin | forwardStep | backwardStep | stopAssertion
  | stopRelease | eyeTransition | leadDebounceTravelled | gapFilterTravelled | discardLightTravelled | approachPointCrossing
  | knifeLineCrossing | trailMarkCrossing | maximumLengthCrossing | gaugePair | moveCompletion | moveTimerExpiry | laneReading
  | laneReseed | batchCompletion | formationTest | holdoffTimerExpiry | arbiterTest | selectAnswer | selectTimerExpiry
  | busSlot | echoArrival | releaseIntervalExpiry | pulseTimerExpiry | framesAccepted => cases frame
  | _ => exact ⟨_, _, .inl rfl⟩

theorem exec_early_of_frame {c : Instr} {s : State} (frame : (encodeFrame c).isSome = true)
    (early : s.port.acceptIn.isSome = true) :
    exec c s = .next (s.withPart { s.toPart with port := { s.port with shiftedOut := [0] } }) := by
  rw [exec_eq]
  obtain ⟨header, body, row | row⟩ := effect_of_frame frame <;> rw [row]
  · exact congrArg _ (s.run_command_early header body early)
  · exact congrArg _ (s.run_thenArbiter_command_early header body early)

theorem fetch_early {p : Part} (n : Nat) (early : p.port.acceptIn.isSome = true) : fetch n p = earlyFrame p := by
  obtain ⟨t, ht⟩ := Option.isSome_iff_exists.mp early
  rw [fetch, ht]

theorem malformed_early {p : Part} (header : Byte) (early : p.port.acceptIn.isSome = true) :
    malformed header p = earlyFrame p := by
  obtain ⟨t, ht⟩ := Option.isSome_iff_exists.mp early
  rw [malformed, ht]

theorem fetch_taken {p : Part} (n : Nat) (accept : p.port.acceptIn = none) :
    fetch n p = p.shift (p.statusByte :: p.port.slot.fetchBytes n) := by
  rw [fetch, accept]

theorem malformed_taken {p : Part} (header : Byte) (accept : p.port.acceptIn = none) :
    malformed header p = (p.store header (refusal .malformed)).shift [p.statusByte] := by
  rw [malformed, accept]

theorem disregard_long {n : Nat} (long : 8 ≤ n) (p : Part) : disregard n p = earlyFrame p := if_neg (Nat.not_lt.mpr long)

theorem disregard_short {n : Nat} (short : n < 8) (p : Part) : disregard n p = shortFrame n p := if_pos short

theorem Part.carriedStatus_eq (p : Part) :
    p.carriedStatus = if p.port.acceptIn = none then p.statusByte else 0 := by
  unfold Part.carriedStatus
  split
  · rename_i accept; rw [accept]; rfl
  · rename_i accept; rw [accept]; rfl

theorem leadingBits_length (n : Nat) (x : Byte) : (leadingBits n x).length = n := by
  rw [leadingBits, List.length_map, List.length_range]

/-- Most significant bit first. -/
theorem leadingBits_getElem? {n : Nat} (short : n < 8) (x : Byte) (i : Nat) (inside : i < n) :
    (leadingBits n x)[i]? = some (x.getLsbD (7 - i)) := by
  rw [leadingBits, List.getElem?_map, List.getElem?_range inside, Option.map_some, BitVec.getMsbD,
    decide_eq_true (Nat.lt_trans inside short), Bool.true_and]

/-! ## What a frame is -/

theorem decodeFrame_of_length {header : Byte} {operand : List Byte} (command : header ≠ Header.fetch)
    (length : operandLength header = some operand.length) :
    decodeFrame (header :: operand) 0 =
      (decodeOperands header operand).getD (.malformedFrame header (8 * operand.length)) := by
  rw [decodeFrame, if_neg command, if_pos ⟨rfl, length⟩]

theorem decodeFrame_malformed {header : Byte} {operand : List Byte} {clocks : Nat} (command : header ≠ Header.fetch)
    (wrong : ¬(operandLength header = some operand.length ∧ clocks = 0)) :
    decodeFrame (header :: operand) clocks = .malformedFrame header (8 * operand.length + clocks) := by
  rw [decodeFrame, if_neg command, if_neg fun right => wrong right.symm]

theorem map_byteAt_range (operand : List Byte) : (List.range operand.length).map (byteAt operand) = operand := by
  refine List.ext_getElem (by simp) fun i _ bound => ?_
  rw [List.getElem_map, List.getElem_range, byteAt, List.getD_eq_getElem _ _ bound]

/-- The command read from an operand field is sent with the bytes it was read from: header by header of `operandLength`,
whose row 0x38 (EYE FORCE) tells two commands apart. -/
theorem encode_decodeOperands {header : Byte} {n : Nat} (length : operandLength header = some n) (operand : List Byte) :
    (decodeOperands header operand).bind encodeFrame = some (header :: (List.range n).map (byteAt operand)) := by
  have named : header = BitVec.ofNat 8 header.toNat := (BitVec.ofNat_toNat 8 header).symm
  unfold operandLength at length
  split at length
  case h_51 => cases length
  all_goals
    obtain rfl := Option.some.inj length
    rename_i number
    rw [number] at named
    subst named
  case h_19 =>
    simp only [decodeOperands, BitVec.reduceToNat, Option.bind]
    split <;> rfl
  all_goals
    simp only [decodeOperands, BitVec.reduceToNat, Option.bind, encodeFrame, planBytes, laneSettingsBytes, settingsBytes,
      halfAt, wordAt, bytes2_append, bytes4_append]
    rfl

theorem encodeFrame_decodeFrame {header : Byte} {operand : List Byte} (command : header ≠ Header.fetch)
    (length : operandLength header = some operand.length) :
    encodeFrame (decodeFrame (header :: operand) 0) = some (header :: operand) := by
  have sent := encode_decodeOperands length operand
  rw [map_byteAt_range] at sent
  rw [decodeFrame_of_length command length]
  cases decoded : decodeOperands header operand with
  | none => rw [decoded] at sent; cases sent
  | some c => rw [decoded] at sent; exact sent

/-- The other direction, command by command: each number is read where its bytes were put. -/
theorem decodeFrame_encodeFrame {c : Instr} {frame : List Byte} (fits : c.wellFormed = true)
    (sent : encodeFrame c = some frame) : decodeFrame frame 0 = c := by
  cases c with
  | linkFetch | malformedFrame | frameDisregarded | powerOn | resetPin | forwardStep | backwardStep | stopAssertion
  | stopRelease | eyeTransition | leadDebounceTravelled | gapFilterTravelled | discardLightTravelled | approachPointCrossing
  | knifeLineCrossing | trailMarkCrossing | maximumLengthCrossing | gaugePair | moveCompletion | moveTimerExpiry | laneReading
  | laneReseed | batchCompletion | formationTest | holdoffTimerExpiry | arbiterTest | selectAnswer | selectTimerExpiry
  | busSlot | echoArrival | releaseIntervalExpiry | pulseTimerExpiry | framesAccepted => cases sent
  | articleRead x | articleFindNext x | articleRetire x | hideRead x | hideAbort x | hideRetire x | feedClearHold x | gapSet x
  | machineWriteAttentionMask x =>
    obtain rfl := Option.some.inj sent
    conv_rhs => rw [← half_of_bytes x]
    rfl
  | hideFind x | tuneStart x =>
    obtain rfl := Option.some.inj sent
    conv_rhs => rw [← word_of_bytes x]
    rfl
  | hideAnnounce tag code =>
    obtain rfl := Option.some.inj sent
    conv_rhs => rw [← word_of_bytes tag, ← half_of_bytes code]
    rfl
  | hideAmend ticket tag code =>
    obtain rfl := Option.some.inj sent
    conv_rhs => rw [← half_of_bytes ticket, ← word_of_bytes tag, ← half_of_bytes code]
    rfl
  | articleWrite code plan mark =>
    obtain ⟨splitGap, tolerance, speed, base, edge, bottom, boost, band, limit⟩ := plan
    obtain rfl := Option.some.inj sent
    conv_rhs => rw [← half_of_bytes code, ← half_of_bytes splitGap, ← half_of_bytes speed, ← half_of_bytes base,
      ← half_of_bytes edge, ← half_of_bytes bottom, ← half_of_bytes limit]
    rfl
  | laneWrite lane settings calibration =>
    obtain ⟨threshold, hysteresis, enter, exit, bottom, limit, beta, fast, halt⟩ := settings
    obtain ⟨present, gain, offset⟩ := calibration
    obtain rfl := Option.some.inj sent
    conv_rhs => rw [← half_of_bytes threshold, ← half_of_bytes bottom, ← word_of_bytes limit, ← half_of_bytes offset]
    rfl
  | tuneWrite lane settings =>
    obtain ⟨mode, base, target, band, automatic, holdoff⟩ := settings
    obtain rfl := Option.some.inj sent
    conv_rhs => rw [← half_of_bytes base, ← half_of_bytes target]
    rfl
  | routeWrite index route =>
    obtain ⟨enabled, source, filter, task, lines, width, tally⟩ := route
    obtain rfl := Option.some.inj sent
    conv_rhs => rw [← word_of_bytes filter]
    rfl
  | tallyWrite tally threshold scope flags =>
    obtain rfl := Option.some.inj sent
    conv_rhs => rw [← word_of_bytes threshold]
    rfl
  | machineWriteSettings settings =>
    obtain ⟨throat, length, filter, debounce, margin, polarity, policy, speed, idle, park⟩ := settings
    obtain rfl := Option.some.inj sent
    conv_rhs => rw [← half_of_bytes throat, ← half_of_bytes length, ← half_of_bytes filter, ← half_of_bytes debounce,
      ← half_of_bytes margin, ← half_of_bytes speed, ← half_of_bytes idle, ← half_of_bytes park]
    rfl
  | eyeForceLead operand =>
    obtain rfl := Option.some.inj sent
    have lead : operand ≠ 2 := by simpa [Instr.wellFormed] using fits
    exact if_neg lead
  | eyeForceTail operand =>
    obtain rfl := Option.some.inj sent
    have tail : operand = 2 := by simpa [Instr.wellFormed] using fits
    exact if_pos tail
  | _ =>
    obtain rfl := Option.some.inj sent
    rfl

end Sys2Proof.Machine

open Sys2Proof Sys2Proof.Machine

/-- Settles O4: every row of a frame, before acceptance. -/
theorem earlyFramesAreDisregarded : Obligations.EarlyFramesAreDisregarded := by
  refine ⟨fun c s early frame => ?_, fun clocks s long => ?_, fun clocks s status short carried => ?_, fun s => rfl⟩
  · rcases frame with frame | ⟨n, rfl⟩ | ⟨header, n, rfl⟩ | ⟨n, long, rfl⟩
    · exact exec_early_of_frame frame early
    · exact exec_of_effect (fetch_early n early)
    · exact exec_of_effect (malformed_early header early)
    · exact exec_of_effect (disregard_long long _)
  · exact exec_of_effect (disregard_long long _)
  · rw [← Part.carriedStatus_eq] at carried
    subst carried
    exact ⟨leadingBits clocks s.carriedStatus, leadingBits_length _ _, leadingBits_getElem? short _,
      exec_of_effect (disregard_short short _)⟩

/-- Settles O5: the decoder's three answers, and that a command's frame is what its command is sent as. -/
theorem framesAreDecoded : Obligations.FramesAreDecoded := by
  refine ⟨fun clocks s short => ?_, fun operand clocks => ?_, fun header operand clocks s accept command wrong => ?_,
    fun header operand command length => encodeFrame_decodeFrame command length⟩
  · refine ⟨leadingBits clocks s.carriedStatus, leadingBits_length _ _, fun accept => ?_,
      exec_of_effect (disregard_short short _)⟩
    rw [Part.carriedStatus_eq, if_pos accept]
    exact leadingBits_getElem? short _
  · rw [decodeFrame, if_pos rfl]
  · rw [decodeFrame_malformed command wrong]
    exact exec_of_effect (malformed_taken header accept)

/-- Settles O6: each command is read from the frame it is sent as. -/
theorem decodeOfEncodeIsCommand : Obligations.DecodeOfEncodeIsCommand :=
  fun _ _ fits sent => decodeFrame_encodeFrame fits sent
end

section
/-! PROOFS. FETCH, the status byte and the attention sets (R188 to R192, R198, R199), and the sets of hold and attention
causes as the host writes them (R71, R192). -/

namespace Sys2Proof.Machine

/-! ## FETCH -/

/-- A list cut or filled up with zeros to a length. -/
def padded (n : Nat) (bytes : List Byte) : List Byte := bytes.take n ++ List.replicate (n - bytes.length) 0

theorem fetchBytes_eq (r : ResultSlot) (n : Nat) :
    r.fetchBytes n = padded n (r.code.byte :: r.header :: BitVec.ofNat 8 r.reply.length :: r.reply) := rfl

theorem padded_length (n : Nat) (bytes : List Byte) : (padded n bytes).length = n := by
  rw [padded, List.length_append, List.length_take, List.length_replicate]
  omega

theorem padded_getElem? {n i : Nat} (bytes : List Byte) (clocked : i < n) :
    (padded n bytes)[i]? = some (bytes.getD i 0) := by
  rw [padded, List.getD_eq_getElem?_getD, List.getElem?_append, List.length_take]
  by_cases held : i < bytes.length
  · rw [if_pos (by omega), List.getElem?_take_of_lt clocked, List.getElem?_eq_getElem held]
    rfl
  · rw [if_neg (by omega), List.getElem?_replicate, if_pos (by omega), List.getElem?_eq_none (by omega)]
    rfl

/-! ## The sets of causes -/

theorem HoldSet.isEmpty_eq_false_iff (h : HoldSet) : h.isEmpty = false ↔ ∃ c : HoldCause, h.has c = true := by
  rw [← Bool.not_eq_true, h.isEmpty_iff]
  simp only [not_forall, Bool.not_eq_false]

theorem Part.attnActive_iff (p : Part) : p.attnActive = true ↔
    ∃ c : Attention, p.port.attention.has c = true ∧ p.port.attentionMask.has c = true := by
  constructor
  · simp only [Part.attnActive, Bool.or_eq_true, Bool.and_eq_true]
    rintro ((((((((((h | h) | h) | h) | h) | h) | h) | h) | h) | h) | h)
    exacts [⟨.restarted, h⟩, ⟨.hideDone, h⟩, ⟨.unboundEdge, h⟩, ⟨.overlength, h⟩, ⟨.articleGone, h⟩, ⟨.tuneDone, h⟩,
      ⟨.gapFault, h⟩, ⟨.boardFault, h⟩, ⟨.laneFault, h⟩, ⟨.stop, h⟩, ⟨.route, h⟩]
  · rintro ⟨c, pending, enabled⟩
    simp only [Part.attnActive, Bool.or_eq_true, Bool.and_eq_true]
    cases c <;> simp only [AttentionSet.has] at pending enabled <;> simp only [pending, enabled, and_self, true_or, or_true]

theorem Part.batchRunning_iff (p : Part) :
    p.batchRunning = true ↔ ∃ b : Batch, p.tuning.batch = some b ∧ b.running = true := by
  cases batch : p.tuning.batch <;> simp [Part.batchRunning, batch]

theorem Part.splitting?_isSome_iff (p : Part) :
    p.splitting?.isSome = true ↔ ∃ h ∈ p.hides, h.state = .splitting := by
  simp only [Part.splitting?, List.find?_isSome, beq_iff_eq]

theorem Part.knifeOccupied_iff (p : Part) : p.knifeOccupied = true ↔
    (∃ h ∈ p.hides, h.state = .splitting) ∨ p.feed.holds.hideAborted = true ∨ p.feed.holds.stopRecovery = true := by
  rw [Part.knifeOccupied, Bool.or_eq_true, Bool.or_eq_true, p.splitting?_isSome_iff, or_assoc]

theorem Part.feedEnable_iff (p : Part) : p.feedEnable = true ↔
    p.feed.runState ≠ .stopped ∧ ∀ c : HoldCause, p.feed.holds.has c = false := by
  rw [Part.feedEnable, Bool.and_eq_true, p.feed.holds.isEmpty_iff, Bool.not_eq_true', beq_eq_false_iff_ne]

theorem Part.statusByte_getLsbD (p : Part) (i : Nat) : p.statusByte.getLsbD i =
    [true, p.port.slot.code == .none, p.batchRunning, p.knifeOccupied, p.feed.stopLine, !p.feed.holds.isEmpty,
      p.feedEnable, p.attnActive].getD i false :=
  flagByte_getLsbD _ i (Nat.le_refl 8)

/-! ## A set of causes in two bytes -/

/-- A byte of a number is the byte of its bits. -/
theorem flagByte_bits {flags : List Bool} {x : Half} {start : Nat} (short : flags.length ≤ 8)
    (bits : ∀ i : Nat, i < 8 → flags.getD i false = x.getLsbD (start + i)) : flagByte flags = x.extractLsb' start 8 := by
  refine BitVec.eq_of_getLsbD_eq fun i inByte => ?_
  rw [flagByte_getLsbD _ _ short, bits i inByte, BitVec.getLsbD_extractLsb', decide_eq_true inByte, Bool.true_and]

theorem getLsbD_of_flagByte {flags : List Bool} {x : Half} {start : Nat} (short : flags.length ≤ 8)
    (byte : flagByte flags = x.extractLsb' start 8) (i : Nat) (inByte : i < 8) :
    flags.getD i false = x.getLsbD (start + i) := by
  rw [← flagByte_getLsbD _ _ short, byte, BitVec.getLsbD_extractLsb', decide_eq_true inByte, Bool.true_and]

/-- The unassigned bits 11 to 15 of a set of causes are clear. -/
theorem getLsbD_unassigned {x : Half} (causes : x.toNat < 2 ^ 11) {i : Nat} (high : 11 ≤ i) : x.getLsbD i = false :=
  Nat.testBit_lt_two_pow (Nat.lt_of_lt_of_le causes (Nat.pow_le_pow_right (by decide) high))

theorem flagByte_low (x : Half) : flagByte [x.getLsbD 0, x.getLsbD 1, x.getLsbD 2, x.getLsbD 3, x.getLsbD 4, x.getLsbD 5,
    x.getLsbD 6, x.getLsbD 7] = x.extractLsb' 0 8 := by
  refine flagByte_bits (Nat.le_refl 8) fun i inByte => ?_
  rw [Nat.zero_add]
  interval_cases i <;> rfl

theorem flagByte_high {x : Half} (causes : x.toNat < 2 ^ 11) :
    flagByte [x.getLsbD 8, x.getLsbD 9, x.getLsbD 10] = x.extractLsb' 8 8 := by
  refine flagByte_bits (show 3 ≤ 8 by decide) fun i inByte => ?_
  by_cases assigned : i < 3
  · interval_cases i <;> rfl
  · rw [getLsbD_unassigned causes (show 11 ≤ 8 + i by omega), List.getD_eq_default _ _ (by simpa using assigned)]

theorem attentionSetOperand_none {x : Half} (large : 2 ^ 11 ≤ x.toNat) : attentionSetOperand x = none :=
  if_neg (Nat.not_lt.mpr large)

theorem attentionSetOperand_bytes {x : Half} (causes : x.toNat < 2 ^ 11) :
    ∃ mask : AttentionSet, attentionSetOperand x = some mask ∧ mask.bytes = bytes2 x := by
  refine ⟨_, if_pos causes, ?_⟩
  simp only [AttentionSet.bytes, bytes2, flagByte_low, flagByte_high causes]

theorem holdSetOperand_none {x : Half} (large : 2 ^ 11 ≤ x.toNat) : holdSetOperand x = none :=
  if_neg (Nat.not_lt.mpr large)

theorem holdSetOperand_bytes {x : Half} (causes : x.toNat < 2 ^ 11) :
    ∃ named : HoldSet, holdSetOperand x = some named ∧ named.bytes = bytes2 x := by
  refine ⟨_, if_pos causes, ?_⟩
  simp only [HoldSet.bytes, bytes2, flagByte_low, flagByte_high causes]

/-- The bytes of a set of hold causes name it. -/
theorem holdSetOperand_of_bytes {x : Half} {named : HoldSet} (causes : x.toNat < 2 ^ 11) (bytes : named.bytes = bytes2 x) :
    holdSetOperand x = some named := by
  have low := (List.cons.inj (List.cons.inj bytes).2).1
  have lowBit := getLsbD_of_flagByte (by simp) low
  have highBit := getLsbD_of_flagByte (by simp) (List.cons.inj bytes).1
  rw [holdSetOperand, if_pos causes]
  obtain ⟨⟩ := named
  refine congrArg some (HoldSet.mk.injEq .. ▸ ?_)
  exact ⟨(lowBit 0 (by decide)).symm, (lowBit 1 (by decide)).symm, (lowBit 2 (by decide)).symm, (lowBit 3 (by decide)).symm,
    (lowBit 4 (by decide)).symm, (lowBit 5 (by decide)).symm, (lowBit 6 (by decide)).symm, (lowBit 7 (by decide)).symm,
    (highBit 0 (by decide)).symm, (highBit 1 (by decide)).symm, (highBit 2 (by decide)).symm⟩

theorem readAttention_clears (a : Attention) : AttentionSet.empty.has a = false := by
  cases a <;> rfl

end Sys2Proof.Machine

open Sys2Proof Sys2Proof.Machine

/-- Settles O7: FETCH shifts out the slot, padded, and the status byte is a byte of flags. -/
theorem fetchReturnsStoredResult : Obligations.FetchReturnsStoredResult := by
  refine ⟨fun clocked s accept => ?_, rfl, fun p => ?_⟩
  · refine ⟨s.port.slot.fetchBytes clocked, padded_length _ _, exec_of_effect (fetch_taken clocked accept), ?_⟩
    rw [fetchBytes_eq]
    exact ⟨padded_getElem? _, padded_getElem? _, padded_getElem? _, fun i => padded_getElem? _⟩
  · refine ⟨p.statusByte_getLsbD 0, ?_, ?_, ?_, p.statusByte_getLsbD 4, ?_, ?_, ?_⟩
    · exact (p.statusByte_getLsbD 1 ▸ beq_iff_eq)
    · exact (p.statusByte_getLsbD 2 ▸ p.batchRunning_iff)
    · exact (p.statusByte_getLsbD 3 ▸ p.knifeOccupied_iff)
    · rw [p.statusByte_getLsbD 5, ← p.feed.holds.isEmpty_eq_false_iff]
      exact Bool.not_eq_true' _ ▸ Iff.rfl
    · exact (p.statusByte_getLsbD 6 ▸ p.feedEnable_iff)
    · exact (p.statusByte_getLsbD 7 ▸ p.attnActive_iff)

/-- Settles O8: the pending set and the mask, each read, written and compared as a set of causes. -/
theorem attentionIsReadAndMasked : Obligations.AttentionIsReadAndMasked := by
  refine ⟨fun s accept => ?_, fun p => ?_, fun causes s accept small => ?_, fun causes s accept large => ?_,
    fun s accept => exec_command (c := .machineReadAttentionMask) rfl accept rfl⟩
  · refine ⟨_, exec_command (c := .machineReadAttention) rfl accept rfl, rfl, readAttention_clears, ?_⟩
    rw [← Bool.not_eq_true, Part.attnActive_iff]
    rintro ⟨c, pending, _⟩
    cases c <;> cases pending
  · refine ⟨p.attnActive_iff, fun active => ?_, fun inactive => ?_⟩
    · rw [Part.attnPinHigh, active]; rfl
    · rw [Part.attnPinHigh, inactive]; rfl
  · obtain ⟨mask, operand, bytes⟩ := attentionSetOperand_bytes small
    exact ⟨mask, bytes, exec_command (c := .machineWriteAttentionMask causes) rfl accept
      (by rw [writeAttentionMask, operand])⟩
  · exact exec_command (c := .machineWriteAttentionMask causes) (a := refusal .range) rfl accept
      (by rw [writeAttentionMask, attentionSetOperand_none large])
end

section
/-! PROOFS. The operand forms with ranges (R98, R117, R193, R194): what each accepts, and the numbers it carries. -/

namespace Sys2Proof.Machine

/-! ## Yes/no bytes -/

theorem yesNo_eq_some_iff (b : Byte) (v : Bool) : yesNo b = some v ↔ b.toNat ≤ 1 ∧ v = !(b == 0) := by
  have zero : b = 0 ↔ b.toNat = 0 := by rw [← BitVec.toNat_inj]; rfl
  unfold yesNo
  split
  · rename_i number
    have same := zero.mpr number
    subst same
    cases v <;> simp
  · rename_i number
    have other : (b == 0) = false := beq_false_of_ne (mt zero.mp (by omega))
    rw [number, other]
    cases v <;> simp
  · rename_i nonzero nonone
    refine iff_of_false nofun fun bit => ?_
    rcases Nat.le_one_iff_eq_zero_or_eq_one.mp bit.1 with number | number
    · exact nonzero number
    · exact nonone number

theorem yesNo_isSome_iff (b : Byte) : (yesNo b).isSome = true ↔ b.toNat ≤ 1 := by
  simp only [Option.isSome_iff_exists, yesNo_eq_some_iff, exists_and_left, exists_eq, and_true]

theorem yesNo_of_le {b : Byte} (bit : b.toNat ≤ 1) : yesNo b = some (!(b == 0)) := (yesNo_eq_some_iff b _).mpr ⟨bit, rfl⟩

theorem yesNo_eq_none_iff (b : Byte) : yesNo b = none ↔ 2 ≤ b.toNat := by
  rw [← Option.not_isSome_iff_eq_none, yesNo_isSome_iff]
  omega

/-! ## The machine settings -/

/-- The value each operand of a settings write carries, before any range is checked. -/
def settingsNumbers (o : SettingsOperands) : Settings where
  throatLength := o.throatLength.toNat
  maximumHideLength := o.maximumHideLength.toNat
  gapFilter := o.gapFilter.toNat
  leadDebounce := o.leadDebounce.toNat
  approachMargin := o.approachMargin.toNat
  eyePolarity := if o.eyePolarity = 0 then .darkHigh else .darkLow
  unannouncedPolicy := if o.unannouncedPolicy = 0 then .refuse else .adopt
  idleFeedSpeed := o.idleFeedSpeed.toNat
  idlePressure := o.idlePressure.toNat
  parkPressure := o.parkPressure.toNat
  scanPeriod := o.scanPeriod.toNat
  gapMethod := if o.gapMethod = 0 then .atClear else .host
  defaultGapTolerance := o.defaultGapTolerance.toNat
  gapMoveTimeout := o.gapMoveTimeout.toNat
  selectTimeout := o.selectTimeout.toNat
  sessionFrameLimit := o.sessionFrameLimit.toNat
  releaseInterval := o.releaseInterval.toNat

/-- The table of R193 with R194's bound on the gap filter. -/
def Settings.InRanges (t : Settings) : Prop :=
  (3000 ≤ t.throatLength ∧ t.throatLength ≤ 20000) ∧ (10000 ≤ t.maximumHideLength ∧ t.maximumHideLength ≤ 60000) ∧
    (200 ≤ t.gapFilter ∧ t.gapFilter ≤ 3000) ∧ (20 ≤ t.leadDebounce ∧ t.leadDebounce ≤ 500) ∧
    (200 ≤ t.approachMargin ∧ t.approachMargin ≤ 5000) ∧ (50 ≤ t.idleFeedSpeed ∧ t.idleFeedSpeed ≤ 400) ∧
    t.idlePressure ≤ 600 ∧ t.parkPressure ≤ 600 ∧ (2 ≤ t.scanPeriod ∧ t.scanPeriod ≤ 20) ∧
    (2 ≤ t.defaultGapTolerance ∧ t.defaultGapTolerance ≤ 50) ∧ (5 ≤ t.gapMoveTimeout ∧ t.gapMoveTimeout ≤ 200) ∧
    (1 ≤ t.selectTimeout ∧ t.selectTimeout ≤ 255) ∧ (4 ≤ t.sessionFrameLimit ∧ t.sessionFrameLimit ≤ 16) ∧
    (1 ≤ t.releaseInterval ∧ t.releaseInterval ≤ 255) ∧ t.gapFilter + 500 ≤ t.throatLength

/-- The three bytes of a settings write that name one of two values. -/
def settingsFlagsFit (o : SettingsOperands) : Prop :=
  o.eyePolarity.toNat ≤ 1 ∧ o.unannouncedPolicy.toNat ≤ 1 ∧ o.gapMethod.toNat ≤ 1

theorem ite_not_beq_zero {α : Type} (b : Byte) (x y : α) : (if (!(b == 0)) = true then x else y) = if b = 0 then y else x := by
  by_cases zero : b = 0 <;> simp [zero]

theorem settingsOperand_eq_some_iff (o : SettingsOperands) (t : Settings) :
    settingsOperand o = some t ↔ settingsFlagsFit o ∧ (settingsNumbers o).InRanges ∧ t = settingsNumbers o := by
  by_cases fit : settingsFlagsFit o
  · obtain ⟨polarity, policy, method⟩ := fit
    simp only [settingsOperand, yesNo_of_le polarity, yesNo_of_le policy, yesNo_of_le method, ite_not_beq_zero]
    rw [Option.ite_none_right_eq_some, Option.some_inj, eq_comm (b := t)]
    simp only [Bool.and_eq_true, inRange_eq_true_iff, decide_eq_true_eq, Nat.zero_le, true_and, and_assoc,
      Settings.InRanges, settingsFlagsFit, settingsNumbers, polarity, policy, method]
  · refine iff_of_false (fun accepted => fit ?_) fun accepted => fit accepted.1
    unfold settingsOperand at accepted
    split at accepted
    · rename_i polarity policy method
      exact ⟨((yesNo_eq_some_iff _ _).mp polarity).1, ((yesNo_eq_some_iff _ _).mp policy).1,
        ((yesNo_eq_some_iff _ _).mp method).1⟩
    · cases accepted

/-! ## Lane settings and calibration -/

/-- The value each operand of a lane's settings carries, before any range is checked. -/
def laneSettingsNumbers (o : LaneSettingsOperands) : LaneSettings where
  contactThreshold := o.contactThreshold.toNat
  hysteresis := o.hysteresis.toNat
  enterDebounce := o.enterDebounce.toNat
  exitDebounce := o.exitDebounce.toNat
  bottomLimit := o.bottomLimit.toNat
  contactLimit := o.contactLimit.toNat
  referenceBeta := o.referenceBeta.toNat
  fastBeta := o.fastBeta.toNat
  haltEnable := !(o.haltEnable == 0)

/-- The table of R98; the hysteresis takes every value of its byte. -/
def LaneSettings.InRanges (t : LaneSettings) : Prop :=
  (8 ≤ t.contactThreshold ∧ t.contactThreshold ≤ 1024) ∧ t.hysteresis ≤ 255 ∧
    (1 ≤ t.enterDebounce ∧ t.enterDebounce ≤ 15) ∧ (1 ≤ t.exitDebounce ∧ t.exitDebounce ≤ 15) ∧
    (256 ≤ t.bottomLimit ∧ t.bottomLimit ≤ 4095) ∧
    (t.contactLimit = 0 ∨ 5000 ≤ t.contactLimit ∧ t.contactLimit ≤ 80000) ∧
    (2 ≤ t.referenceBeta ∧ t.referenceBeta ≤ 12) ∧ (1 ≤ t.fastBeta ∧ t.fastBeta ≤ 8)

theorem laneSettingsOperand_eq_some_iff (o : LaneSettingsOperands) (t : LaneSettings) :
    laneSettingsOperand o = some t ↔
      o.haltEnable.toNat ≤ 1 ∧ (laneSettingsNumbers o).InRanges ∧ t = laneSettingsNumbers o := by
  by_cases bit : o.haltEnable.toNat ≤ 1
  · simp only [laneSettingsOperand, yesNo_of_le bit]
    rw [Option.ite_none_right_eq_some, Option.some_inj, eq_comm (b := t)]
    simp only [Bool.and_eq_true, Bool.or_eq_true, beq_iff_eq, inRange_eq_true_iff, Nat.zero_le, true_and, and_assoc,
      LaneSettings.InRanges, laneSettingsNumbers, bit]
  · refine iff_of_false (fun accepted => ?_) fun accepted => bit accepted.1
    rw [laneSettingsOperand, (yesNo_eq_none_iff _).mpr (by omega)] at accepted
    cases accepted

theorem calibrationOperand_absent {o : CalibrationOperands} (absent : o.present.toNat = 0) :
    calibrationOperand o = some none := by
  simp only [calibrationOperand, yesNo, absent]

theorem calibrationOperand_present {o : CalibrationOperands} (present : o.present.toNat = 1) :
    calibrationOperand o = if inRange 1 16 o.gain.toNat && inRange 0 1023 o.offset.toNat
      then some (some ⟨o.gain.toNat, o.offset.toNat⟩) else none := by
  simp only [calibrationOperand, yesNo, present]

theorem calibrationOperand_neither {o : CalibrationOperands} (neither : 2 ≤ o.present.toNat) :
    calibrationOperand o = none := by
  rw [calibrationOperand, (yesNo_eq_none_iff _).mpr neither]

end Sys2Proof.Machine

open Sys2Proof Sys2Proof.Machine

/-- Settles O10: each operand form accepts exactly its ranges and carries its operands' numbers. -/
theorem settingsHaveTheirRanges : Obligations.SettingsHaveTheirRanges := by
  refine ⟨fun o => ?_, fun o t accepted => ((settingsOperand_eq_some_iff o t).mp accepted).2.2, fun o => ?_,
    fun o t accepted => ?_, fun o => ⟨calibrationOperand_absent, fun present low high offset => ?_,
      calibrationOperand_neither, fun present out => ?_⟩⟩
  · have select := o.selectTimeout.isLt
    have release := o.releaseInterval.isLt
    simp only [Option.isSome_iff_exists, settingsOperand_eq_some_iff, exists_and_left, exists_eq, and_true,
      settingsFlagsFit, Settings.InRanges, settingsNumbers]
    omega
  · have hysteresis := o.hysteresis.isLt
    simp only [Option.isSome_iff_exists, laneSettingsOperand_eq_some_iff, exists_and_left, exists_eq, and_true,
      LaneSettings.InRanges, laneSettingsNumbers]
    omega
  · obtain ⟨bit, _, rfl⟩ := (laneSettingsOperand_eq_some_iff o t).mp accepted
    have one : (!(o.haltEnable == 0)) = decide (o.haltEnable = 1) := by
      have value : o.haltEnable = 0 ∨ o.haltEnable = 1 := by
        simp only [← BitVec.toNat_inj]
        exact Nat.le_one_iff_eq_zero_or_eq_one.mp bit
      rcases value with value | value <;> rw [value] <;> rfl
    rw [laneSettingsNumbers, one]
  · rw [calibrationOperand_present present, if_pos]
    simp only [Bool.and_eq_true, inRange_eq_true_iff]
    omega
  · rw [calibrationOperand_present present, if_neg]
    simp only [Bool.and_eq_true, inRange_eq_true_iff]
    omega
end

section
/-! PROOFS. MACHINE WRITE SETTINGS (R46, R58, R95, R150, R194): what each block is handed, and what a write leaves. -/

namespace Sys2Proof.Machine

/-! ## What an edge at the eye and the axis leave alone -/

/-- From `p` to `q` the settings, the feed position, the lanes, their tuning, the routes, the eye and the mask have not
changed. -/
structure SameUnderEdges (p q : Part) : Prop where
  settings : q.settings = p.settings
  position : q.feed.position = p.feed.position
  lanes : q.lanes = p.lanes
  tuning : q.tuning = p.tuning
  routes : q.routes = p.routes
  eye : q.eye = p.eye
  attentionMask : q.port.attentionMask = p.port.attentionMask

theorem SameUnderEdges.refl (p : Part) : SameUnderEdges p p := ⟨rfl, rfl, rfl, rfl, rfl, rfl, rfl⟩

theorem SameUnderEdges.trans {p q r : Part} (h : SameUnderEdges p q) (k : SameUnderEdges q r) : SameUnderEdges p r :=
  ⟨k.settings.trans h.settings, k.position.trans h.position, k.lanes.trans h.lanes, k.tuning.trans h.tuning,
    k.routes.trans h.routes, k.eye.trans h.eye, k.attentionMask.trans h.attentionMask⟩

theorem SameUnderEdges.of_base {p q : Part} (base : SameBase p q) (lanes : q.lanes = p.lanes)
    (tuning : q.tuning = p.tuning) : SameUnderEdges p q :=
  ⟨base.settings, base.position, lanes, tuning, base.routes, base.eye, base.attentionMask⟩

theorem crossApproach_sameUnderEdges (t : Nat) (p : Part) : SameUnderEdges p (crossApproach t p) := by
  refine .of_base (crossApproach_sameBase t p) ?_ ?_ <;>
  · unfold crossApproach stopBeforeNext
    split <;> rfl

theorem crossKnife_sameUnderEdges (h : Hide) (p : Part) : SameUnderEdges p (crossKnife h p) := by
  refine .of_base (crossKnife_sameBase h p) ?_ ?_ <;> unfold crossKnife <;> split
  · rfl
  · exact becomeSplitting_lanes h p
  · rfl
  · exact becomeSplitting_tuning h p

theorem testApproach_sameUnderEdges (t : Nat) (p : Part) : SameUnderEdges p (testApproach t p) := by
  unfold testApproach
  split
  · split
    · exact crossApproach_sameUnderEdges _ p
    · exact .refl p
  · exact .refl p

theorem testKnife_sameUnderEdges (t : Nat) (p : Part) : SameUnderEdges p (testKnife t p) := by
  unfold testKnife
  split
  · split
    · exact crossKnife_sameUnderEdges _ p
    · exact .refl p
  · exact .refl p

theorem testMaximum_sameUnderEdges (t : Nat) (p : Part) : SameUnderEdges p (testMaximum t p) := by
  unfold testMaximum
  split
  · split
    · exact .of_base (crossMaximum_sameBase _ p) rfl rfl
    · exact .refl p
  · exact .refl p

theorem hidesFollow_testApproach (t : Nat) (p : Part) : hidesFollow p (testApproach t p) := by
  unfold testApproach
  split
  · split
    · exact hidesFollow_crossApproach _ p
    · exact hidesFollow_refl p
  · exact hidesFollow_refl p

theorem hidesFollow_testKnife (t : Nat) (p : Part) : hidesFollow p (testKnife t p) := by
  unfold testKnife
  split
  · split
    · exact hidesFollow_crossKnife _ p
    · exact hidesFollow_refl p
  · exact hidesFollow_refl p

theorem testTrail_of_no_trail {t : Nat} {p : Part} {h : Hide} (found : p.hide? t = some h) (none : h.trail = none) :
    testTrail t p = p := by
  simp only [testTrail, found, Part.trailDue, none, Option.map_none, Part.reachedAt, Option.any_none, Bool.and_false,
    Bool.false_eq_true, if_false]

/-- A record without a trail has no mark whose crossing reaches the lanes. -/
theorem testMarks_sameUnderEdges {t : Nat} {p : Part} {h : Hide} (found : p.hide? t = some h) (none : h.trail = none) :
    SameUnderEdges p (testMarks t p) := by
  obtain ⟨b, foundThen, follows⟩ :=
    hidesFollow_hide? (hidesFollow_trans (hidesFollow_testApproach t p) (hidesFollow_testKnife t _)) t h found
  unfold testMarks
  rw [testTrail_of_no_trail foundThen (follows.trail.trans none)]
  exact ((testApproach_sameUnderEdges t p).trans (testKnife_sameUnderEdges t _)).trans (testMaximum_sameUnderEdges t _)

theorem bindHide_sameUnderEdges (t : Nat) (lead : Pos) (p : Part) : SameUnderEdges p (bindHide t lead none p) := by
  unfold bindHide
  split
  · exact .refl p
  · rename_i h found
    dsimp only
    generalize bound : p.modifyHide t (fun x => x.bind lead none ((p.plan? h.article).map (·.fields))) = q
    have told : SameUnderEdges p (stopAtClearTest (raise (.hideEntering t h.article) (gapHandOn q))) := by
      subst bound
      refine .of_base ((((modifyHide_sameBase p t _).trans (gapHandOn_sameBase _)).trans (raise_sameBase _ _)).trans
        (stopAtClearTest_sameBase _)) ?_ ?_ <;> simp
    have foundBound : (stopAtClearTest (raise (.hideEntering t h.article) (gapHandOn q))).hide? t =
        some (h.bind lead none ((p.plan? h.article).map (·.fields))) := by
      have hit := Part.hide?_modifyHide_hit p t (fun x => x.bind lead none ((p.plan? h.article).map (·.fields)))
        fun _ => rfl
      rw [found, Option.map_some, bound] at hit
      simpa only [Part.hide?, stopAtClearTest_hides, raise_hides, gapHandOn_hides] using hit
    exact told.trans (testMarks_sameUnderEdges foundBound rfl)

theorem tellUnbound_sameUnderEdges (lead : Pos) (p : Part) : SameUnderEdges p (tellUnbound lead p) := by
  refine .of_base (.trans ?_ (raise_sameBase _ _)) rfl rfl
  exact attend_sameBase p .unboundEdge nofun nofun nofun

theorem confirmLead_sameUnderEdges (lead : Pos) (p : Part) : SameUnderEdges p (confirmLead lead p) := by
  unfold confirmLead
  split
  · exact tellUnbound_sameUnderEdges lead p
  · split
    · exact bindHide_sameUnderEdges _ lead p
    · split
      · refine .trans ?_ (bindHide_sameUnderEdges _ lead _)
        exact ⟨rfl, rfl, rfl, rfl, rfl, rfl, rfl⟩
      · refine .trans ?_ (tellUnbound_sameUnderEdges lead _)
        exact ⟨rfl, rfl, rfl, rfl, rfl, rfl, rfl⟩

/-- With no record in passage a trail goes to the unbound edge or nowhere. -/
theorem confirmTrail_sameUnderEdges (trail : Pos) (p : Part) (empty : p.anyInPassage = false) :
    SameUnderEdges p (confirmTrail trail p) := by
  unfold confirmTrail
  split
  · rename_i h found
    have inPassage := List.find?_some found
    rw [Bool.and_eq_true] at inPassage
    rw [Part.anyInPassage, List.any_eq_false] at empty
    exact absurd inPassage.1 (empty h (List.mem_of_find?_eq_some found))
  · split
    · exact ⟨rfl, rfl, rfl, rfl, rfl, rfl, rfl⟩
    · exact .refl p
    · exact .refl p

theorem startTest_sameUnderEdges (p : Part) : SameUnderEdges p (startTest p) :=
  .of_base (startTest_sameBase p) (startTest_lanes p) (startTest_tuning p)

theorem recompute_sameUnderEdges (p : Part) : SameUnderEdges p (recompute p) :=
  .of_base (recompute_sameBase p) (by simp) (by simp)

/-! ## What the eye and the axis are handed -/

theorem Part.eyeDark_setSettings (p : Part) (t : Settings) :
    (p.setSettings t).eyeDark = ((t.eyePolarity == .darkLow) != p.eye.inputHigh) :=
  Part.eyeDark_eq _

theorem eyeTest_eq (p : Part) : eyeTest p = match p.eye.state with
    | .leadPending c => if p.travelled c p.settings.leadDebounce then confirmLead c (p.setEyeState .body) else p
    | .tailPending c => if p.travelled c p.settings.gapFilter then confirmTrail c (p.setEyeState .clear) else p
    | .discard (some c) => if p.travelled c p.settings.gapFilter then p.setEyeState .clear else p
    | _ => p := by
  cases state : p.eye.state with
  | leadPending c => simp only [eyeTest, state, leadDebounceTest]
  | tailPending c => simp only [eyeTest, state, gapFilterTest]
  | discard light => cases light <;> simp only [eyeTest, state, discardTest]
  | _ => simp only [eyeTest, state]

/-- A settings write may take the eye to another state; of the rest it leaves what an edge leaves. -/
theorem handSettingsToEye_sameUnderEdges (before : Settings) (p : Part) (empty : p.anyInPassage = false) :
    ∃ e : EyeState, SameUnderEdges (p.setEyeState e) (handSettingsToEye before p) := by
  have tested : ∃ e : EyeState, SameUnderEdges (p.setEyeState e) (eyeTest p) := by
    rw [eyeTest_eq]
    split
    · split
      · exact ⟨_, confirmLead_sameUnderEdges _ _⟩
      · exact ⟨p.eye.state, .refl p⟩
    · split
      · exact ⟨_, confirmTrail_sameUnderEdges _ (p.setEyeState .clear) empty⟩
      · exact ⟨p.eye.state, .refl p⟩
    · split
      · exact ⟨_, .refl _⟩
      · exact ⟨p.eye.state, .refl p⟩
    · exact ⟨p.eye.state, .refl p⟩
  unfold handSettingsToEye
  split
  · split
    · exact ⟨p.eye.state, .refl p⟩
    · exact tested
  · exact ⟨_, .refl _⟩

/-- The start test is R83's, made under AT_CLEAR alone. -/
theorem startTest_of_host {p : Part} (host : p.settings.gapMethod = .host) : startTest p = p := by
  rw [startTest, Part.startTarget?, host]
  rfl

theorem handSettingsToGap_eq (before : Settings) (p : Part) : handSettingsToGap before p =
    if before.gapMethod = .host ∧ p.settings.gapMethod = .atClear then startTest p else p := by
  unfold handSettingsToGap
  cases after : p.settings.gapMethod <;> cases was : before.gapMethod <;> simp [startTest_of_host, after]

theorem handSettingsToGap_sameUnderEdges (before : Settings) (p : Part) :
    SameUnderEdges p (handSettingsToGap before p) := by
  unfold handSettingsToGap
  split
  · exact .refl p
  · exact startTest_sameUnderEdges p

theorem handSettingsToPressure_sameUnderEdges (before : Settings) (p : Part) :
    SameUnderEdges p (handSettingsToPressure before p) := by
  unfold handSettingsToPressure
  split
  · exact .refl p
  · exact recompute_sameUnderEdges p

theorem replaceSettings_sameUnderEdges (t : Settings) (p : Part) (empty : p.anyInPassage = false) :
    ∃ e : EyeState, SameUnderEdges ((p.setSettings t).setEyeState e) (replaceSettings t p) := by
  obtain ⟨e, eye⟩ := handSettingsToEye_sameUnderEdges p.settings (p.setSettings t) empty
  exact ⟨e, (eye.trans (handSettingsToGap_sameUnderEdges _ _)).trans (handSettingsToPressure_sameUnderEdges _ _)⟩

/-- A write of the settings in force is handed to no block. -/
theorem replaceSettings_same (p : Part) : replaceSettings p.settings p = p := by
  have set : p.setSettings p.settings = p := rfl
  rw [replaceSettings, set, handSettingsToEye, if_pos rfl, if_pos ⟨rfl, rfl⟩, handSettingsToGap, if_pos rfl,
    handSettingsToPressure, if_pos ⟨rfl, rfl⟩]

/-! ## The reply of a settings write -/

theorem u16_toNat (x : Half) : u16 x.toNat = bytes2 x := by rw [u16, BitVec.ofNat_toNat, BitVec.setWidth_eq]

theorem u32_toNat (x : Word) : u32 x.toNat = bytes4 x := by rw [u32, BitVec.ofNat_toNat, BitVec.setWidth_eq]

theorem u8_toNat (x : Byte) : u8 x.toNat = [x] := by rw [u8, BitVec.ofNat_toNat, BitVec.setWidth_eq]

/-- The two values of a byte that is 0 or 1. -/
theorem byte_eq_zero_or_one {b : Byte} (bit : b.toNat ≤ 1) : b = 0 ∨ b = 1 := by
  simp only [← BitVec.toNat_inj]
  exact Nat.le_one_iff_eq_zero_or_eq_one.mp bit

theorem settings_bytes {o : SettingsOperands} {t : Settings} (accepted : settingsOperand o = some t) :
    t.bytes = settingsBytes o := by
  obtain ⟨⟨polarity, policy, method⟩, _, rfl⟩ := (settingsOperand_eq_some_iff o t).mp accepted
  have zero : u8 0 = [0] := rfl
  have one : u8 1 = [1] := rfl
  simp only [Settings.bytes, settingsNumbers, settingsBytes, u16_toNat, u8_toNat]
  rcases byte_eq_zero_or_one polarity with eye | eye <;> rcases byte_eq_zero_or_one policy with lead | lead <;>
    rcases byte_eq_zero_or_one method with gap | gap <;>
    simp [eye, lead, gap, zero, one]

theorem Part.settingsBusy_iff (p : Part) : p.settingsBusy = true ↔
    p.feed.runState ≠ .stopped ∨ (∃ h ∈ p.hides, h.state = .entering ∨ h.state = .splitting) ∨
      p.feed.holds.hideAborted = true ∨ p.feed.holds.stopRecovery = true := by
  rw [Part.settingsBusy, Bool.or_eq_true, Bool.or_eq_true, p.anyInPassage_iff, p.knifeOccupied_iff, Bool.not_eq_true',
    beq_eq_false_iff_ne]
  constructor
  · rintro ((moving | passage) | ⟨h, member, splitting⟩ | held)
    · exact .inl moving
    · exact .inr (.inl passage)
    · exact .inr (.inl ⟨h, member, .inr splitting⟩)
    · exact .inr (.inr held)
  · rintro (moving | passage | held)
    · exact .inl (.inl moving)
    · exact .inl (.inr passage)
    · exact .inr (.inr held)

theorem writeSettings_taken {o : SettingsOperands} {t : Settings} {p : Part} (accepted : settingsOperand o = some t)
    (free : p.settingsBusy = false) : writeSettings o p = (replaceSettings t p, answerOk (settingsBytes o)) := by
  rw [writeSettings, accepted]
  simp only [free, Bool.false_eq_true, if_false, settings_bytes accepted]

end Sys2Proof.Machine

open Sys2Proof Sys2Proof.Machine

/-- Settles O9: a write that is taken is `replaceSettings`, block by block. -/
theorem writeSettingsDecides : Obligations.WriteSettingsDecides := by
  intro o s accept
  refine ⟨fun refused => ?_, fun t accepted => ⟨fun busy => ?_, fun stopped clear aborted recovery => ?_⟩⟩
  · exact exec_thenArbiter_refused (c := .machineWriteSettings o) rfl accept (by rw [writeSettings, refused])
  · have held := s.toPart.settingsBusy_iff.mpr busy
    exact exec_thenArbiter_refused (c := .machineWriteSettings o) rfl accept (by
      rw [writeSettings, accepted]
      exact if_pos held)
  · have empty : s.anyInPassage = false := s.toPart.anyInPassage_eq_false_iff.mpr clear
    have free : s.settingsBusy = false := by
      rw [← Bool.not_eq_true, Part.settingsBusy_iff]
      rintro (moving | ⟨h, member, inPassage⟩ | held | held)
      · exact moving stopped
      · exact inPassage.elim (clear h member).1 (clear h member).2
      · exact absurd held (by simp [aborted])
      · exact absurd held (by simp [recovery])
    have taken := exec_thenArbiter_command (c := .machineWriteSettings o) rfl accept (writeSettings_taken accepted free)
    refine ⟨fun dark written toEye toGap level written_eq eye gap => ?_, _, taken, ?_⟩
    · rw [taken]
      have toEye_eq : handSettingsToEye s.settings written = toEye := by
        subst written_eq level eye
        unfold handSettingsToEye
        by_cases polarity : t.eyePolarity = s.settings.eyePolarity
        · rw [if_pos polarity, if_neg (not_not_intro polarity), eyeTest_eq]
          rfl
        · rw [if_neg polarity, if_pos polarity, seatEye]
          exact congrArg (fun e => Part.setEyeState _ (if e = true then .discard none else .clear))
            (s.toPart.eyeDark_setSettings t)
      have settings : toEye.settings = t := by
        rw [← toEye_eq, handSettingsToEye_settings, written_eq]
      have toGap_eq : handSettingsToGap s.settings toEye = toGap := by
        rw [handSettingsToGap_eq, settings, gap]
      have gapSettings : toGap.settings = t := by rw [← toGap_eq, handSettingsToGap_settings, settings]
      have replaced : replaceSettings t s.toPart =
          if t.idlePressure = s.settings.idlePressure ∧ t.parkPressure = s.settings.parkPressure then toGap
            else recompute toGap := by
        rw [replaceSettings, show s.toPart.setSettings t = written from written_eq.symm, toEye_eq, toGap_eq,
          handSettingsToPressure, gapSettings]
      rw [replaced]
      rfl
    · obtain ⟨e, same⟩ := replaceSettings_sameUnderEdges t s.toPart empty
      simp only [State.thenWakes, State.withPart_toPart, thenArbiter_settings, thenArbiter_port, thenArbiter_feed,
        thenArbiter_lanes, thenArbiter_tuning, thenArbiter_routes, thenArbiter_eye, State.answers]
      refine ⟨same.settings, rfl, same.position, same.lanes, same.tuning, same.routes, by rw [same.eye]; rfl,
        same.attentionMask, fun unchanged => ?_⟩
      subst unchanged
      rw [replaceSettings_same]
      exact s.thenWakes_of_same _ rfl rfl
end

section
/-! PROOFS. The full reset (R196): the power-on value of each record. -/

namespace Sys2Proof.Machine

theorem powerOn_laneTuning (eyeHigh stop : Bool) (n : LaneNo) :
    (Part.powerOn eyeHigh stop).laneTuning n = LaneTuning.powerOn := by
  simp only [Part.laneTuning, Part.powerOn, Vector.getElem_replicate]

theorem powerOn_wanted (eyeHigh stop : Bool) (n : LaneNo) : (Part.powerOn eyeHigh stop).wanted n = 40 := by
  simp only [Part.wanted, Part.powerOn, Vector.getElem_replicate]

theorem powerOn_board (eyeHigh stop : Bool) (b : BoardNo) :
    (Part.powerOn eyeHigh stop).bus.boards[b.val] = .unknown := by
  simp only [Part.powerOn, Bus.powerOn, Vector.getElem_replicate]

theorem powerOn_drive (eyeHigh stop : Bool) (n : LaneNo) :
    (Part.powerOn eyeHigh stop).drive n = ⟨.waiting, none, 0⟩ := by
  simp only [Part.drive, Part.powerOn, Bus.powerOn, Vector.getElem_replicate]

theorem powerOn_route (eyeHigh stop : Bool) (i : Fin 16) :
    (Part.powerOn eyeHigh stop).routes[i.val] = Route.powerOn := by
  simp only [Part.powerOn, Vector.getElem_replicate]

theorem powerOn_line (eyeHigh stop : Bool) (i : Fin 4) : (Part.powerOn eyeHigh stop).line i = Line.powerOn := by
  simp only [Part.line, Part.powerOn, Vector.getElem_replicate]

theorem powerOn_tally (eyeHigh stop : Bool) (i : Fin 4) :
    (Part.powerOn eyeHigh stop).tallies[i.val] = Tally.powerOn := by
  simp only [Part.powerOn, Vector.getElem_replicate]

theorem exec_fullReset {c : Instr} {eyeHigh stop : Bool} (row : c = .powerOn eyeHigh stop ∨ c = .resetPin eyeHigh stop)
    (s : State) : exec c s = .next (s.withPart (fullReset eyeHigh stop s.toPart)) := by
  rcases row with rfl | rfl <;> exact exec_of_effect rfl

/-- The machine's own reset value is the full reset of a part with a light eye and a released STOP line. -/
theorem withPart_fullReset_eq_reset {s : State} (count : s.freeCount = 0) (levels : s.encoder = ⟨false, false⟩)
    (none : s.pending = []) : s.withPart (fullReset false false s.toPart) = State.reset := by
  have part : fullReset false false s.toPart = Part.powerOn false false := by
    rw [fullReset, levels, count]
    rfl
  rw [part, State.withPart, none]
  rfl

end Sys2Proof.Machine

open Sys2Proof Sys2Proof.Machine

/-- Settles O11: the fields of `Part.powerOn`, with the encoder levels and the free count as they were. -/
theorem fullResetGivesPowerOnValues : Obligations.FullResetGivesPowerOnValues := by
  intro c eyeHigh stop s row
  refine ⟨_, exec_fullReset row s, rfl, rfl, rfl, rfl, rfl, rfl, rfl, rfl, rfl, rfl, fun cause => ?_, rfl, rfl, rfl, rfl,
    rfl, rfl, rfl, rfl, rfl, rfl, rfl, powerOn_lane eyeHigh stop, rfl, rfl, powerOn_laneTuning eyeHigh stop,
    powerOn_wanted eyeHigh stop, rfl, rfl, powerOn_board eyeHigh stop, powerOn_drive eyeHigh stop, rfl, rfl, rfl, rfl, rfl,
    rfl, rfl, rfl, rfl, powerOn_route eyeHigh stop, powerOn_line eyeHigh stop, powerOn_tally eyeHigh stop, rfl,
    fun cause => ?_, fun cause => ?_, rfl, rfl, rfl, rfl, rfl, rfl, ?_⟩
  · cases cause <;> cases stop <;> rfl
  · cases cause <;> rfl
  · cases cause <;> rfl
  · rintro rfl rfl count levels none
    exact withPart_fullReset_eq_reset count levels none
end

section
/-! PROOFS. The ARTICLE commands (R5 to R9, R12 to R14): the table a write or a retirement leaves, code by code. -/

namespace Sys2Proof.Machine

theorem half_eq_iff (x : Half) (n : Nat) (small : n < 65536) : x = BitVec.ofNat 16 n ↔ x.toNat = n := by
  rw [← BitVec.toNat_inj, BitVec.toNat_ofNat, Nat.mod_eq_of_lt small]

/-! ## ARTICLE WRITE -/

/-- The record with the default mark as a write with this mark leaves it (R5, R9). -/
def Plan.markedBy (marked : Bool) (b : Plan) : Plan := { b with mark := b.mark && !marked }

theorem markedTable_eq (marked : Bool) (table : List Plan) : markedTable marked table = table.map (Plan.markedBy marked) := by
  cases marked
  · have same : Plan.markedBy false = id := funext fun b => by simp [Plan.markedBy]
    rw [same, List.map_id]
    rfl
  · have clear : Plan.markedBy true = fun b => { b with mark := false } := funext fun b => by simp [Plan.markedBy]
    rw [clear]
    rfl

theorem find?_markedTable (marked : Bool) (table : List Plan) (code : Nat) :
    (markedTable marked table).find? (fun b => b.code == code) =
      (table.find? fun b => b.code == code).map (Plan.markedBy marked) := by
  rw [markedTable_eq]
  exact find?_map_all table Plan.code code _ fun _ => rfl

/-- The record of a code as a write to it leaves it (R8). -/
def Plan.rewritten (fields : PlanFields) (marked : Bool) (a : Plan) : Plan := { a with fields := fields, mark := marked }

theorem replacePlan_eq (code : Nat) (fields : PlanFields) (marked : Bool) (p : Part) : replacePlan code fields marked p =
    (p.setArticles (markedTable marked p.articles)).modifyPlan code (Plan.rewritten fields marked) := rfl

theorem replacePlan_other {code other : Nat} (differs : other ≠ code) (fields : PlanFields) (marked : Bool) (p : Part) :
    (replacePlan code fields marked p).plan? other = (p.plan? other).map (Plan.markedBy marked) := by
  rw [replacePlan_eq, Part.plan?_modifyPlan_other _ _ _ (Plan.rewritten fields marked) (fun _ => rfl) differs]
  exact find?_markedTable marked p.articles other

theorem replacePlan_hit {code : Nat} {p : Part} {a : Plan} (found : p.plan? code = some a) (fields : PlanFields)
    (marked : Bool) : (replacePlan code fields marked p).plan? code = some { a with fields := fields, mark := marked } := by
  have table : (p.setArticles (markedTable marked p.articles)).plan? code = some (a.markedBy marked) := by
    rw [← Option.map_some, ← found]
    exact find?_markedTable marked p.articles code
  rw [replacePlan_eq, Part.plan?_modifyPlan_hit _ _ (Plan.rewritten fields marked) fun _ => rfl, table]
  rfl

theorem createPlan_other {a : Plan} {other : Nat} (differs : other ≠ a.code) (p : Part) :
    (createPlan a p).plan? other = (p.plan? other).map (Plan.markedBy a.mark) :=
  (find?_insertPlan_other a _ other differs).trans (find?_markedTable a.mark p.articles other)

theorem createPlan_hit {a : Plan} {p : Part} (new : p.plan? a.code = none) : (createPlan a p).plan? a.code = some a := by
  refine find?_insertPlan_hit a _ ?_
  rw [find?_markedTable, show p.articles.find? (fun b => b.code == a.code) = none from new]
  rfl

theorem articleWrite_range {code : Half} {plan : PlanOperands} {mark : Byte}
    (out : code = 0 ∨ code = 65535 ∨ planOperand plan = none ∨ yesNo mark = none) (p : Part) :
    articleWrite code plan mark p = (p, refusal .range) := by
  unfold articleWrite
  rcases out with rfl | rfl | plan | mark
  · rfl
  · rfl
  · rw [plan, ite_self]
  · rw [mark]
    split
    · rfl
    · split
      · rename_i none
        cases none
      · rfl

theorem articleWrite_eq {code : Half} {plan : PlanOperands} {mark : Byte} {fields : PlanFields} {marked : Bool}
    (nonzero : code ≠ 0) (notAll : code ≠ 65535) (accepted : planOperand plan = some fields)
    (bit : yesNo mark = some marked) (p : Part) : articleWrite code plan mark p =
      match p.plan? code.toNat with
      | some a => match a.state with
        | .retiring => (p, refusal .retiring)
        | .active => (replacePlan code.toNat fields marked p,
            answerOk ((replacePlan code.toNat fields marked p).planReply code.toNat ++ u8 0))
      | none => if Config.articleCapacity ≤ p.articles.length then (p, refusal .full)
        else (createPlan (newPlan code.toNat fields marked) p,
          answerOk ((createPlan (newPlan code.toNat fields marked) p).planReply code.toNat ++ u8 1)) := by
  have range : ¬(code.toNat = 0 ∨ code.toNat = 65535) := by
    rw [← half_eq_iff code 0 (by decide), ← half_eq_iff code 65535 (by decide)]
    exact not_or.mpr ⟨nonzero, notAll⟩
  unfold articleWrite
  rw [if_neg range, accepted, bit] <;> rfl

/-! ## ARTICLE RETIRE -/

theorem articleRetire_range {code : Half} (out : code = 0 ∨ code = 65535) (p : Part) :
    articleRetire code p = (p, refusal .range) := by
  rcases out with rfl | rfl <;> rfl

theorem articleRetire_eq {code : Half} (nonzero : code ≠ 0) (notAll : code ≠ 65535) (p : Part) : articleRetire code p =
    match p.plan? code.toNat with
    | none => (p, refusal .notFound)
    | some a => match a.state with
      | .retiring => (p, ⟨.pending, retireReply a.code a.pins⟩)
      | .active => if a.pins = 0 then
          (p.setArticles (p.articles.filter fun b => !(b.code == code.toNat)), answerOk (retireReply a.code 0))
        else (p.modifyPlan code.toNat Plan.retire, ⟨.pending, retireReply a.code a.pins⟩) := by
  have range : ¬(code.toNat = 0 ∨ code.toNat = 65535) := by
    rw [← half_eq_iff code 0 (by decide), ← half_eq_iff code 65535 (by decide)]
    exact not_or.mpr ⟨nonzero, notAll⟩
  exact if_neg range

end Sys2Proof.Machine

open Sys2Proof Sys2Proof.Machine

/-- Settles O14: `articleWrite`, by what the table holds under the code. -/
theorem articleWriteDecides : Obligations.ArticleWriteDecides := by
  intro code plan mark s accept
  refine ⟨fun out => exec_command (c := .articleWrite code plan mark) rfl accept (articleWrite_range out _),
    fun fields marked nonzero notAll accepted bit => ?_⟩
  have body := articleWrite_eq nonzero notAll accepted bit s.toPart
  refine ⟨fun a found retiring => ?_, fun a found active => ?_, fun new full => ?_, fun new room => ?_⟩
  · refine exec_command (c := .articleWrite code plan mark) (a := refusal .retiring) rfl accept (body.trans ?_)
    simp only [found, retiring]
  · have hit := replacePlan_hit found fields marked
    refine ⟨_, exec_command (c := .articleWrite code plan mark) (a := answerOk _) rfl accept (body.trans ?_), rfl, hit,
      fun other differs => replacePlan_other differs fields marked s.toPart⟩
    simp only [found, active, Part.planReply, hit]
    rfl
  · refine exec_command (c := .articleWrite code plan mark) (a := refusal .full) rfl accept (body.trans ?_)
    rw [new]
    exact if_pos full
  · have hit := createPlan_hit (a := newPlan code.toNat fields marked) new
    refine ⟨_, exec_command (c := .articleWrite code plan mark) (a := answerOk _) rfl accept (body.trans ?_), rfl, hit,
      fun other differs => createPlan_other (a := newPlan code.toNat fields marked) differs s.toPart⟩
    have reply : (createPlan (newPlan code.toNat fields marked) s.toPart).planReply code.toNat =
        (newPlan code.toNat fields marked).bytes := by
      rw [Part.planReply, show (createPlan (newPlan code.toNat fields marked) s.toPart).plan? code.toNat = _ from hit]
    rw [new, reply]
    exact if_neg (Nat.not_le.mpr room)

/-- Settles O15: `articleRetire`, by the state and the pins of the record. -/
theorem articleRetireDecides : Obligations.ArticleRetireDecides := by
  intro code s accept
  refine ⟨fun out => exec_command (c := .articleRetire code) rfl accept (articleRetire_range out _),
    fun nonzero notAll => ⟨fun none => ?_, fun a found => ?_⟩⟩
  · refine exec_command (c := .articleRetire code) (a := refusal .notFound) rfl accept
      ((articleRetire_eq nonzero notAll _).trans ?_)
    rw [none]
  · have body := articleRetire_eq nonzero notAll s.toPart
    have reply : ∀ pins, retireReply a.code pins = bytes2 code ++ u8 pins := fun pins => by
      rw [retireReply, Part.plan?_code found, u16_toNat]
    simp only [found, reply] at body
    refine ⟨fun retiring => ?_, fun active free => ?_, fun active pinned => ?_⟩
    · refine exec_command (c := .articleRetire code) (a := ⟨.pending, _⟩) rfl accept (body.trans ?_)
      rw [retiring]
    · refine ⟨s.setArticles (s.articles.filter fun b => !(b.code == code.toNat)),
        exec_command (c := .articleRetire code) (a := answerOk _) rfl accept (body.trans ?_), rfl,
        find?_remove_hit s.articles Plan.code code.toNat,
        fun other differs => find?_remove_other s.articles Plan.code code.toNat other differs⟩
      rw [active]
      exact if_pos free
    · refine ⟨s.modifyPlan code.toNat Plan.retire,
        exec_command (c := .articleRetire code) (a := ⟨.pending, _⟩) rfl accept (body.trans ?_), rfl, ?_,
        fun other differs => Part.plan?_modifyPlan_other _ _ _ Plan.retire (fun _ => rfl) differs⟩
      · rw [active]
        exact if_neg pinned
      · rw [Part.plan?_modifyPlan_hit _ _ Plan.retire fun _ => rfl, found]
        rfl
end

section
/-! PROOFS. The HIDE commands (R15, R16, R23, R25 to R27, R30): announcing, the ticket given, binding an unbound edge,
amending and retiring. -/

namespace Sys2Proof.Machine

/-! ## Tickets -/

theorem nextTicketAfter_bounds (t : Nat) : 1 ≤ nextTicketAfter t ∧ nextTicketAfter t ≤ 65535 := by
  unfold nextTicketAfter
  split <;> omega

theorem nextTicketAfter_of_lt {t : Nat} (below : t < 65535) : nextTicketAfter t = t + 1 := if_neg (Nat.not_le.mpr below)

theorem iterate_nextTicketAfter_bounds {t : Nat} (low : 1 ≤ t) (high : t ≤ 65535) (n : Nat) :
    1 ≤ nextTicketAfter^[n] t ∧ nextTicketAfter^[n] t ≤ 65535 := by
  cases n with
  | zero => exact ⟨low, high⟩
  | succ n =>
    rw [Function.iterate_succ_apply']
    exact nextTicketAfter_bounds _

theorem Part.ticket_skips (p : Part) : ∃ skipped : Nat, skipped ≤ p.hides.length ∧
    p.ticket = nextTicketAfter^[skipped] p.nextTicket ∧
    ∀ j : Nat, j < skipped → ∃ h ∈ p.hides, h.ticket = nextTicketAfter^[j] p.nextTicket := by
  obtain ⟨skipped, few, value, held⟩ := freeTicket_eq_iterate (p.hides.map (·.ticket)) p.hides.length p.nextTicket
  exact ⟨skipped, few, value, fun j passed => List.mem_map.mp (held j passed)⟩

theorem Part.ticket_free {p : Part} (room : p.hides.length ≤ 8) : ∀ h ∈ p.hides, h.ticket ≠ p.ticket := by
  intro h member same
  refine freeTicket_not_mem (p.hides.map (·.ticket)) p.nextTicket (by rw [List.length_map]; omega) ?_
  rw [List.length_map]
  exact List.mem_map.mpr ⟨h, member, same⟩

/-- A ticket that no record holds is the one given. -/
theorem Part.ticket_eq_nextTicket {p : Part} (free : ∀ h ∈ p.hides, h.ticket ≠ p.nextTicket) :
    p.ticket = p.nextTicket := by
  obtain ⟨skipped, _, value, held⟩ := p.ticket_skips
  cases skipped with
  | zero => exact value
  | succ n =>
    obtain ⟨h, member, same⟩ := held 0 (Nat.succ_pos n)
    exact absurd same (free h member)

/-! ## HIDE ANNOUNCE -/

theorem hideAnnounce_range {code : Half} (all : code = 65535) (tag : Word) (p : Part) :
    hideAnnounce tag code p = (p, refusal .range) := by
  subst all
  rfl

theorem toNat_ne_all {code : Half} (notAll : code ≠ 65535) : code.toNat ≠ 65535 := fun number =>
  notAll ((half_eq_iff code 65535 (by decide)).mpr number)

theorem hideAnnounce_full {code : Half} {p : Part} (notAll : code ≠ 65535) (full : 8 ≤ p.hides.length) (tag : Word) :
    hideAnnounce tag code p = (p, refusal .full) := by
  rw [hideAnnounce, if_neg (toNat_ne_all notAll)]
  exact if_pos full

theorem hideAnnounce_eq {code : Half} {p : Part} (notAll : code ≠ 65535) (room : p.hides.length < 8) (tag : Word) :
    hideAnnounce tag code p = match p.claim code.toNat with
      | .error refused => (p, refusal refused)
      | .ok article => (bindUnbound p.ticket (createHide tag article false p),
          answerOk (announceReply p.ticket article p.unbound.isSome)) := by
  rw [hideAnnounce, if_neg (toNat_ne_all notAll)]
  exact if_neg (Nat.not_le.mpr room)

theorem hideAnnounce_refused {code : Half} {p : Part} (notAll : code ≠ 65535) (room : p.hides.length < 8)
    {refused : ResultCode} (claim : p.claim code.toNat = .error refused) (tag : Word) :
    hideAnnounce tag code p = (p, refusal refused) := by
  rw [hideAnnounce_eq notAll room, claim]

theorem hideAnnounce_taken {code : Half} {p : Part} (notAll : code ≠ 65535) (room : p.hides.length < 8) {article : Nat}
    (claim : p.claim code.toNat = .ok article) (tag : Word) : hideAnnounce tag code p =
      (bindUnbound p.ticket (createHide tag article false p),
        answerOk (announceReply p.ticket article p.unbound.isSome)) := by
  rw [hideAnnounce_eq notAll room, claim]

/-! ## Binding the unbound edge -/

theorem testApproach_holds_unboundEdge (t : Nat) (p : Part) :
    (testApproach t p).feed.holds.unboundEdge = p.feed.holds.unboundEdge := by
  unfold testApproach crossApproach stopBeforeNext
  repeat' split
  all_goals rfl

theorem becomeSplitting_holds_unboundEdge (h : Hide) (p : Part) :
    (becomeSplitting h p).feed.holds.unboundEdge = p.feed.holds.unboundEdge := by
  simp [becomeSplitting, clearPerHideTallies, endExcursionRun]

theorem testKnife_holds_unboundEdge (t : Nat) (p : Part) :
    (testKnife t p).feed.holds.unboundEdge = p.feed.holds.unboundEdge := by
  unfold testKnife crossKnife
  split
  · split
    · split
      · rfl
      · exact becomeSplitting_holds_unboundEdge _ p
    · rfl
  · rfl

theorem promoteWaiting_holds_unboundEdge (p : Part) :
    (promoteWaiting p).feed.holds.unboundEdge = p.feed.holds.unboundEdge := by
  unfold promoteWaiting
  split
  · rfl
  · split
    · exact becomeSplitting_holds_unboundEdge _ p
    · rfl

theorem comparePerHideTallies_holds_unboundEdge (p : Part) :
    (comparePerHideTallies p).feed.holds.unboundEdge = p.feed.holds.unboundEdge := by
  rw [comparePerHideTallies_onlyRoutes p]

theorem formationTest_holds_unboundEdge (p : Part) :
    (formationTest p).feed.holds.unboundEdge = p.feed.holds.unboundEdge := by
  rw [formationTest_feed]

theorem clearRecord_holds_unboundEdge (h : Hide) (p : Part) :
    (clearRecord h p).feed.holds.unboundEdge = p.feed.holds.unboundEdge := by
  simp [clearRecord, formationTest_holds_unboundEdge, promoteWaiting_holds_unboundEdge,
    comparePerHideTallies_holds_unboundEdge, endExcursionRun]

theorem testTrail_holds_unboundEdge (t : Nat) (p : Part) :
    (testTrail t p).feed.holds.unboundEdge = p.feed.holds.unboundEdge := by
  unfold testTrail
  split
  · split
    · exact clearRecord_holds_unboundEdge _ p
    · rfl
  · rfl

theorem testMaximum_holds_unboundEdge (t : Nat) (p : Part) :
    (testMaximum t p).feed.holds.unboundEdge = p.feed.holds.unboundEdge := by
  unfold testMaximum
  split
  · split
    · simp [crossMaximum, HoldSet.put]
    · rfl
  · rfl

theorem bindHide_holds_unboundEdge (t : Nat) (lead : Pos) (trail : Option Pos) (p : Part) :
    (bindHide t lead trail p).feed.holds.unboundEdge = p.feed.holds.unboundEdge := by
  unfold bindHide testMarks
  split
  · rfl
  · simp [testMaximum_holds_unboundEdge, testTrail_holds_unboundEdge, testKnife_holds_unboundEdge,
      testApproach_holds_unboundEdge]

/-- The record created under a new ticket is the one found by it. -/
theorem createHide_hide? {p : Part} (new : ∀ h ∈ p.hides, h.ticket ≠ p.ticket) (tag : Word) (article : Nat)
    (unannounced : Bool) :
    (createHide tag article unannounced p).hide? p.ticket = some (newHide p.ticket tag article unannounced) := by
  have absent : p.hides.find? (fun h => h.ticket == p.ticket) = none :=
    List.find?_eq_none.mpr fun h member same => new h member (beq_iff_eq.mp same)
  simp [Part.hide?, createHide, List.find?_append, absent, newHide]

/-- A pin leaves the plan fields of every article as they were. -/
theorem createHide_fields (tag : Word) (article code : Nat) (unannounced : Bool) (p : Part) :
    ((createHide tag article unannounced p).plan? code).map (·.fields) = (p.plan? code).map (·.fields) := by
  change ((p.modifyPlan article Plan.pin).plan? code).map _ = _
  by_cases same : code = article
  · rw [same, Part.plan?_modifyPlan_hit _ _ Plan.pin fun _ => rfl, Option.map_map]
    rfl
  · rw [Part.plan?_modifyPlan_other _ _ _ Plan.pin (fun _ => rfl) same]

/-! ## HIDE AMEND and HIDE RETIRE -/

theorem hideAmend_range {code : Half} (all : code = 65535) (ticket : Half) (tag : Word) (p : Part) :
    hideAmend ticket tag code p = (p, refusal .range) := by
  subst all
  rfl

theorem hideAmend_notFound {code ticket : Half} {p : Part} (notAll : code ≠ 65535) (none : p.hide? ticket.toNat = none)
    (tag : Word) : hideAmend ticket tag code p = (p, refusal .notFound) := by
  rw [hideAmend, if_neg (toNat_ne_all notAll), none]

theorem hideAmend_state {code ticket : Half} {p : Part} {h : Hide} (notAll : code ≠ 65535)
    (found : p.hide? ticket.toNat = some h) (bound : h.state ≠ .announced) (tag : Word) :
    hideAmend ticket tag code p = (p, refusal .state) := by
  rw [hideAmend, if_neg (toNat_ne_all notAll), found]
  exact if_neg bound

theorem hideAmend_refused {code ticket : Half} {p : Part} {h : Hide} {refused : ResultCode} (notAll : code ≠ 65535)
    (found : p.hide? ticket.toNat = some h) (announced : h.state = .announced)
    (claim : p.claim code.toNat = .error refused) (tag : Word) :
    hideAmend ticket tag code p = (p, refusal refused) := by
  rw [hideAmend, if_neg (toNat_ne_all notAll), found]
  simp only [announced, if_true, claim]

theorem hideAmend_taken {code ticket : Half} {p : Part} {h : Hide} {article : Nat} (notAll : code ≠ 65535)
    (found : p.hide? ticket.toNat = some h) (announced : h.state = .announced)
    (claim : p.claim code.toNat = .ok article) (tag : Word) : hideAmend ticket tag code p =
      ((releasePin h.article (p.modifyPlan article Plan.pin)).modifyHide ticket.toNat
          fun x => { x with tag := tag, article := article }, answerOk (bytes2 ticket ++ u16 article)) := by
  rw [hideAmend, if_neg (toNat_ne_all notAll), found]
  simp only [announced, if_true, claim, u16_toNat]

theorem Hide.inPassage_iff (h : Hide) : h.inPassage = true ↔ h.state = .entering ∨ h.state = .splitting := by
  rw [Hide.inPassage, Bool.or_eq_true, beq_iff_eq, beq_iff_eq]

theorem hideRetire_notFound {ticket : Half} {p : Part} (none : p.hide? ticket.toNat = none) :
    hideRetire ticket p = (p, refusal .notFound) := by
  rw [hideRetire, none]

theorem hideRetire_busy {ticket : Half} {p : Part} {h : Hide} (found : p.hide? ticket.toNat = some h)
    (inPassage : h.state = .entering ∨ h.state = .splitting) : hideRetire ticket p = (p, refusal .busy) := by
  rw [hideRetire, found]
  exact if_pos (h.inPassage_iff.mpr inPassage)

theorem hideRetire_taken {ticket : Half} {p : Part} {h : Hide} (found : p.hide? ticket.toNat = some h)
    (left : h.inPassage = false) :
    hideRetire ticket p = (removeHide h p, answerOk (bytes2 ticket ++ u8 h.state.code)) := by
  rw [hideRetire, found]
  simp only [left, Bool.false_eq_true, if_false, Part.hide?_ticket found, u16_toNat]

end Sys2Proof.Machine

open Sys2Proof Sys2Proof.Machine

/-- Settles O16: `hideAnnounce` by the room and the claim; and the ticket as the counter's iterate. -/
theorem hideAnnounceDecides : Obligations.HideAnnounceDecides := by
  refine ⟨fun tag code s accept => ⟨fun all => ?_, fun notAll full => ?_, fun notAll room => ⟨fun none => ?_,
    fun a found => ⟨fun retiring => ?_, fun active unbound => ?_⟩⟩⟩, fun p low high room => ?_⟩
  · exact exec_thenArbiter_refused (c := .hideAnnounce tag code) rfl accept (hideAnnounce_range all tag _)
  · exact exec_thenArbiter_refused (c := .hideAnnounce tag code) rfl accept (hideAnnounce_full notAll full tag)
  · exact exec_thenArbiter_refused (c := .hideAnnounce tag code) rfl accept
      (hideAnnounce_refused notAll room (s.claim_notFound code none) tag)
  · exact exec_thenArbiter_refused (c := .hideAnnounce tag code) rfl accept
      (hideAnnounce_refused notAll room (s.claim_retiring code a found retiring) tag)
  · refine exec_thenArbiter_command_same (c := .hideAnnounce tag code) (a := answerOk _) rfl accept
      ((hideAnnounce_taken notAll room (s.claim_active code a found active) tag).trans ?_) rfl rfl
    rw [bindUnbound, show (createHide tag a.code false s.toPart).unbound = none from unbound, unbound]
    rfl
  · obtain ⟨skipped, few, value, held⟩ := p.ticket_skips
    have bounds := iterate_nextTicketAfter_bounds low high skipped
    rw [← value] at bounds
    exact ⟨bounds.1, bounds.2, Part.ticket_free room, ⟨skipped, few, value, held⟩, Part.ticket_eq_nextTicket,
      nextTicketAfter_bounds _, rfl, fun t below => nextTicketAfter_of_lt below, fun _ _ _ _ => rfl⟩

/-- Settles O17: the announced record is bound to the edge by `bindHide`. -/
theorem hideAnnounceBindsUnboundEdge : Obligations.HideAnnounceBindsUnboundEdge := by
  intro tag code a edge s accept notAll room new found active plan unbound
  have claim := s.claim_active code a found active
  have body : hideAnnounce tag code s.toPart = (bindHide s.ticket edge.lead edge.trail
      (((createHide tag a.code false s.toPart).setUnbound none).putHold .unboundEdge false),
      answerOk (u16 s.ticket ++ u16 a.code ++ [2])) := by
    rw [hideAnnounce_taken notAll room claim, bindUnbound,
      show (createHide tag a.code false s.toPart).unbound = some edge from unbound, unbound]
    rfl
  have taken := exec_thenArbiter_command (c := .hideAnnounce tag code) rfl accept body
  refine ⟨fun created e => e ▸ taken, _, taken, ?_, ?_, ?_, ?_⟩
  · rw [State.thenWakes_unbound]
    exact (bindHide_sameBase _ _ _ _).unbound
  · rw [State.thenWakes_feed]
    exact bindHide_holds_unboundEdge _ _ _ _
  · rw [State.thenWakes_port]
    rfl
  · obtain ⟨h, foundThen, state, lead, trail, snapshot, hTag, article, _⟩ := bindHide_hide? s.ticket edge.lead edge.trail
      (((createHide tag a.code false s.toPart).setUnbound none).putHold .unboundEdge false) _
      (createHide_hide? new tag a.code false)
    have fields := createHide_fields tag a.code a.code false s.toPart
    rw [plan] at fields
    exact ⟨h, (s.thenWakes_hide? _ _).trans foundThen, hTag, article, lead, trail, snapshot.trans fields, state⟩

/-- Settles O18: `hideAmend` by the record's state and the claim; the pins by the old and the new code. -/
theorem hideAmendDecides : Obligations.HideAmendDecides := by
  intro ticket tag code s accept
  refine ⟨fun all => exec_command (c := .hideAmend ticket tag code) rfl accept (hideAmend_range all ticket tag _),
    fun notAll none => exec_command (c := .hideAmend ticket tag code) rfl accept (hideAmend_notFound notAll none tag),
    fun h notAll found => ⟨fun bound => exec_command (c := .hideAmend ticket tag code) rfl accept
      (hideAmend_state notAll found bound tag), fun announced => ⟨fun none => ?_, fun a named => ⟨fun retiring => ?_,
      fun active plan b old => ?_⟩⟩⟩⟩
  · exact exec_command (c := .hideAmend ticket tag code) rfl accept
      (hideAmend_refused notAll found announced (s.claim_notFound code none) tag)
  · exact exec_command (c := .hideAmend ticket tag code) rfl accept
      (hideAmend_refused notAll found announced (s.claim_retiring code a named retiring) tag)
  · have body := hideAmend_taken notAll found announced (s.claim_active code a named active) tag
    have pinned : ∀ other, other ≠ a.code → (s.modifyPlan a.code Plan.pin).plan? other = s.plan? other :=
      fun other differs => Part.plan?_modifyPlan_other _ _ _ Plan.pin (fun _ => rfl) differs
    have gained : (s.modifyPlan a.code Plan.pin).plan? a.code = some a.pin := by
      rw [Part.plan?_modifyPlan_hit _ _ Plan.pin fun _ => rfl, plan]
      rfl
    refine ⟨_, exec_command (c := .hideAmend ticket tag code) rfl accept body, ?_, ?_, fun other new old => ?_,
      fun same => ?_, fun differs => ?_⟩
    · rw [releasePin_eq]
      rfl
    · rw [releasePin_eq]
      simp only [Part.modifyHide_hides, Part.modifyPlan_hides, beq_iff_eq]
    · exact (releasePin_other _ _ _ old).trans (pinned other new)
    · have kept := releasePin_kept a.code (s.modifyPlan a.code Plan.pin) a.pin gained (.inl active)
      rw [← same]
      exact kept
    · have lost : (s.modifyPlan a.code Plan.pin).plan? h.article = some b := (pinned _ (Ne.symm differs)).trans old
      exact ⟨(releasePin_other _ _ _ differs).trans gained,
        fun keeps => releasePin_kept h.article (s.modifyPlan a.code Plan.pin) b lost keeps,
        fun retiring last => releasePin_gone h.article (s.modifyPlan a.code Plan.pin) b lost retiring last⟩

/-- Settles O19: `hideRetire` by the record's state; its pin by `releasePin`. -/
theorem hideRetireDecides : Obligations.HideRetireDecides := by
  intro ticket s accept
  refine ⟨fun none => exec_command (c := .hideRetire ticket) rfl accept (hideRetire_notFound none), fun h found =>
    ⟨fun inPassage => exec_command (c := .hideRetire ticket) rfl accept (hideRetire_busy found inPassage),
      fun entering splitting b plan => ?_⟩⟩
  have left : h.inPassage = false := by
    rw [← Bool.not_eq_true, h.inPassage_iff]
    exact not_or.mpr ⟨entering, splitting⟩
  refine ⟨_, exec_command (c := .hideRetire ticket) rfl accept (hideRetire_taken found left), ?_, ?_,
    fun other differs => releasePin_other _ _ _ differs, fun keeps => releasePin_kept _ _ b plan keeps,
    fun retiring last => releasePin_gone _ _ b plan retiring last⟩
  · rw [removeHide, releasePin_eq]
    rfl
  · rw [removeHide, releasePin_eq, ← Part.hide?_ticket found]
    refine List.filter_congr fun x _ => ?_
    by_cases same : x.ticket = h.ticket <;> simp [same]
end

section
/-! PROOFS. HIDE ABORT and the edges (R18, R24, R28 to R31, R42, R48 to R56): what an abort leaves, and where a confirmed edge
goes. -/

namespace Sys2Proof.Machine

/-! ## Exec of events -/

theorem exec_thenArbiter_of_effect {c : Instr} {f : Part → Part} (row : effect c = thenArbiter f) (s : State) :
    exec c s = .next (s.thenWakes (f s.toPart)) := by
  rw [exec_eq, row]
  rfl

/-- An operation that leaves the part as it is makes no arbiter test. -/
theorem exec_thenArbiter_unchanged {c : Instr} {f : Part → Part} (row : effect c = thenArbiter f) {s : State}
    (same : f s.toPart = s.toPart) : exec c s = .next s := by
  rw [exec_thenArbiter_of_effect row, same, s.thenWakes_of_same _ rfl rfl]
  rfl

theorem exec_unchanged {c : Instr} {s : State} (same : effect c s.toPart = s.toPart) : exec c s = .next s :=
  exec_of_effect same

/-! ## Promotion of the waiting record -/

theorem becomeSplitting_hide?_other {w : Hide} {t : Nat} (differs : t ≠ w.ticket) (p : Part) :
    (becomeSplitting w p).hide? t = p.hide? t := by
  rw [Part.hide?, becomeSplitting_hides]
  exact Part.hide?_modifyHide_other p w.ticket t (fun x => x.split (!p.gap.idleOn (w.snapshot.map (·.splitGap))))
    (fun _ => rfl) differs

/-- A record that is not ENTERING is not the one promoted. -/
theorem promoteWaiting_hide? {p : Part} {t : Nat} {a : Hide} (distinct : (p.hides.map (·.ticket)).Nodup)
    (found : p.hide? t = some a) (left : a.state ≠ .entering) : (promoteWaiting p).hide? t = some a := by
  unfold promoteWaiting
  split
  · exact found
  · split
    · rename_i w waiting
      have entering := (Bool.and_eq_true _ _ ▸ List.find?_some waiting).1
      have own := Part.hide?_of_mem distinct (List.mem_of_find?_eq_some waiting)
      rw [becomeSplitting_hide?_other _ p, found]
      rintro rfl
      rw [found] at own
      obtain rfl := Option.some.inj own
      exact left (beq_iff_eq.mp entering)
    · exact found

theorem promoteWaiting_articles (p : Part) : (promoteWaiting p).articles = p.articles := by
  unfold promoteWaiting
  split
  · rfl
  · split
    · exact becomeSplitting_articles _ p
    · rfl

theorem promoteWaiting_lanes (p : Part) : (promoteWaiting p).lanes = p.lanes := by
  unfold promoteWaiting
  split
  · rfl
  · split
    · exact becomeSplitting_lanes _ p
    · rfl

theorem promoteWaiting_tuning (p : Part) : (promoteWaiting p).tuning = p.tuning := by
  unfold promoteWaiting
  split
  · rfl
  · split
    · exact becomeSplitting_tuning _ p
    · rfl

/-! ## Aborts -/

/-- The PER_HIDE tallies cleared, as a statement on tallies writes it (R180). -/
theorem Tally.clearPerHide_eq (t : Tally) : t.clearPerHide = if t.scope = .perHide then { t with count := 0 } else t := by
  unfold Tally.clearPerHide
  cases t.scope <;> simp

theorem clearPerHideTallies_eq (p : Part) : clearPerHideTallies p =
    p.setTallies (p.tallies.map fun k => if k.scope = .perHide then { k with count := 0 } else k) := by
  rw [clearPerHideTallies, mapAll_eq_map, funext Tally.clearPerHide_eq]

/-- The record of an aborted hide and its article's count. -/
def countAbort (h : Hide) (cause : AbortCause) (p : Part) : Part :=
  (p.modifyHide h.ticket fun x => x.abort cause).modifyPlan h.article Plan.countAborted

theorem abortRecord_of_splitting {h : Hide} (splitting : h.state = .splitting) (cause : AbortCause) (p : Part) :
    abortRecord h cause p = { countAbort h cause p with
      gap := { p.gap with excursionRun := false }
      tallies := p.tallies.map fun k => if k.scope = .perHide then { k with count := 0 } else k } := by
  rw [abortRecord, if_pos splitting, clearPerHideTallies_eq]
  rfl

theorem abortRecord_of_not_splitting {h : Hide} (other : h.state ≠ .splitting) (cause : AbortCause) (p : Part) :
    abortRecord h cause p = countAbort h cause p := if_neg other

theorem abortRecord_sameBase (h : Hide) (cause : AbortCause) (p : Part) : SameBase p (abortRecord h cause p) := by
  have counted : SameBase p (countAbort h cause p) := (modifyHide_sameBase p _ _).trans (modifyPlan_sameBase _ _ _)
  unfold abortRecord
  split
  · exact (counted.trans (endExcursionRun_sameBase _)).trans (clearPerHideTallies_sameBase _)
  · exact counted

theorem abortRecord_hides (h : Hide) (cause : AbortCause) (p : Part) :
    (abortRecord h cause p).hides = (p.modifyHide h.ticket fun x => x.abort cause).hides := by
  unfold abortRecord
  split <;> rfl

theorem abortRecord_articles (h : Hide) (cause : AbortCause) (p : Part) : (abortRecord h cause p).articles =
    p.articles.map fun b => if b.code == h.article then { b with aborted := b.aborted + 1 } else b := by
  unfold abortRecord
  split <;> rfl

theorem abortRecord_lanes (h : Hide) (cause : AbortCause) (p : Part) : (abortRecord h cause p).lanes = p.lanes := by
  unfold abortRecord
  split <;> rfl

theorem abortRecord_tuning (h : Hide) (cause : AbortCause) (p : Part) : (abortRecord h cause p).tuning = p.tuning := by
  unfold abortRecord
  split <;> rfl

theorem abortRecord_bus (h : Hide) (cause : AbortCause) (p : Part) : (abortRecord h cause p).bus = p.bus := by
  unfold abortRecord
  split <;> rfl

theorem abortRecord_feed (h : Hide) (cause : AbortCause) (p : Part) : (abortRecord h cause p).feed = p.feed := by
  unfold abortRecord
  split <;> rfl

/-- A change of the records of one ticket leaves the tickets. -/
theorem modifyHide_tickets (p : Part) (t : Nat) (f : Hide → Hide) (ticket : ∀ h, (f h).ticket = h.ticket) :
    (p.modifyHide t f).hides.map (·.ticket) = p.hides.map (·.ticket) := by
  rw [Part.modifyHide_hides, List.map_map]
  refine List.map_congr_left fun h _ => ?_
  simp only [Function.comp_apply]
  split
  · exact ticket h
  · rfl

theorem abortInPassage_eq (h : Hide) (p : Part) : abortInPassage h p = stopAtClearTest (recompute (gapHandOn
    (promoteWaiting (raise (.hideAborted h.ticket h.article) ((abortRecord h .host p).putHold .hideAborted true))))) := rfl

theorem abortInPassage_sameBase (h : Hide) (p : Part) : SameBase p (abortInPassage h p) := by
  have held : SameBase (abortRecord h .host p) ((abortRecord h .host p).putHold .hideAborted true) := by
    constructor <;> rfl
  rw [abortInPassage_eq]
  exact ((((((abortRecord_sameBase h .host p).trans held).trans (raise_sameBase _ _)).trans
    (promoteWaiting_sameBase _)).trans (gapHandOn_sameBase _)).trans (recompute_sameBase _)).trans
    (stopAtClearTest_sameBase _)

theorem abortInPassage_articles (h : Hide) (p : Part) : (abortInPassage h p).articles =
    p.articles.map fun b => if b.code == h.article then { b with aborted := b.aborted + 1 } else b := by
  simp [abortInPassage_eq, promoteWaiting_articles, abortRecord_articles]

theorem abortInPassage_lanes (h : Hide) (p : Part) : (abortInPassage h p).lanes = p.lanes := by
  simp [abortInPassage_eq, promoteWaiting_lanes, abortRecord_lanes]

theorem abortInPassage_tuning (h : Hide) (p : Part) : (abortInPassage h p).tuning = p.tuning := by
  simp [abortInPassage_eq, promoteWaiting_tuning, abortRecord_tuning]

theorem promoteWaiting_holds_hideAborted (p : Part) :
    (promoteWaiting p).feed.holds.hideAborted = p.feed.holds.hideAborted := by
  have splits : ∀ w, (becomeSplitting w p).feed.holds.hideAborted = p.feed.holds.hideAborted := fun w => by
    simp [becomeSplitting, clearPerHideTallies, endExcursionRun]
  unfold promoteWaiting
  split
  · rfl
  · split
    · exact splits _
    · rfl

theorem abortInPassage_holds_hideAborted (h : Hide) (p : Part) : (abortInPassage h p).feed.holds.hideAborted = true := by
  simp [abortInPassage_eq, promoteWaiting_holds_hideAborted, HoldSet.put]

theorem abortInPassage_hide? {p : Part} {t : Nat} {h : Hide} (distinct : (p.hides.map (·.ticket)).Nodup)
    (found : p.hide? t = some h) : (abortInPassage h p).hide? t = some (h.abort .host) := by
  have own := Part.hide?_ticket found
  have hides : (raise (.hideAborted h.ticket h.article) ((abortRecord h .host p).putHold .hideAborted true)).hides =
      (p.modifyHide h.ticket fun x => x.abort .host).hides := by
    rw [raise_hides, Part.putHold_hides, abortRecord_hides]
  have aborted : (raise (.hideAborted h.ticket h.article) ((abortRecord h .host p).putHold .hideAborted true)).hide? t =
      some (h.abort .host) := by
    have hit := Part.hide?_modifyHide_hit p h.ticket (Hide.abort · .host) fun _ => rfl
    rw [own, found] at hit
    rw [Part.hide?, hides, own]
    exact hit
  have kept := promoteWaiting_hide? (by rw [hides, modifyHide_tickets _ _ (Hide.abort · .host) fun _ => rfl]; exact distinct) aborted nofun
  rw [abortInPassage_eq, Part.hide?, stopAtClearTest_hides, recompute_hides, gapHandOn_hides]
  exact kept

theorem hideAbort_notFound {ticket : Half} {p : Part} (none : p.hide? ticket.toNat = none) :
    hideAbort ticket p = (p, refusal .notFound) := by
  rw [hideAbort, none]

theorem hideAbort_left {ticket : Half} {p : Part} {h : Hide} (found : p.hide? ticket.toNat = some h)
    (left : h.state = .cleared ∨ h.state = .aborted) : hideAbort ticket p = (p, refusal .state) := by
  rw [hideAbort, found]
  rcases left with state | state <;> simp only [state]

theorem hideAbort_announced {ticket : Half} {p : Part} {h : Hide} (found : p.hide? ticket.toNat = some h)
    (announced : h.state = .announced) : hideAbort ticket p = (abortAnnounced h p, answerOk []) := by
  rw [hideAbort, found]
  simp only [announced]

theorem hideAbort_inPassage {ticket : Half} {p : Part} {h : Hide} (found : p.hide? ticket.toNat = some h)
    (inPassage : h.state = .entering ∨ h.state = .splitting) :
    hideAbort ticket p = (abortInPassage h p, answerOk []) := by
  rw [hideAbort, found]
  rcases inPassage with state | state <;> simp only [state]

end Sys2Proof.Machine

open Sys2Proof Sys2Proof.Machine

/-- Settles O20: `hideAbort`, by the record's state. -/
theorem hideAbortDecides : Obligations.HideAbortDecides := by
  intro ticket s accept
  refine ⟨fun none => exec_thenArbiter_refused (c := .hideAbort ticket) rfl accept (hideAbort_notFound none),
    fun h found => ⟨fun left => exec_thenArbiter_refused (c := .hideAbort ticket) rfl accept (hideAbort_left found left),
      fun announced => ?_, fun inPassage aborted eq => ?_, fun inPassage distinct => ?_⟩⟩
  · have counted : abortRecord h .host s.toPart = countAbort h .host s.toPart :=
      abortRecord_of_not_splitting (by rw [announced]; nofun) .host s.toPart
    have body := hideAbort_announced found announced
    rw [abortAnnounced, counted] at body
    exact exec_thenArbiter_command_same (c := .hideAbort ticket) rfl accept body
      (by rw [stopAtClearTest_bus, raise_bus]; rfl) (by rw [stopAtClearTest_lanes, raise_lanes]; rfl)
  · have record : (abortRecord h .host s.toPart).putHold .hideAborted true = aborted := by
      subst eq
      by_cases splitting : h.state = .splitting
      · simp only [abortRecord_of_splitting splitting, if_pos splitting]
        rfl
      · simp only [abortRecord_of_not_splitting splitting, if_neg splitting]
        rfl
    rw [exec_thenArbiter_command (c := .hideAbort ticket) rfl accept (hideAbort_inPassage found inPassage),
      abortInPassage_eq, record]
    rfl
  · have taken := exec_thenArbiter_command (c := .hideAbort ticket) rfl accept (hideAbort_inPassage found inPassage)
    have base := abortInPassage_sameBase h s.toPart
    refine ⟨_, taken, ?_⟩
    simp only [State.thenWakes_port, State.thenWakes_feed, State.thenWakes_hide?, State.thenWakes_articles,
      State.thenWakes_eye, State.thenWakes_unbound, State.thenWakes_lanes, State.thenWakes_tuning,
      State.thenWakes_settings, State.thenWakes_routes]
    have held := abortInPassage_holds_hideAborted h s.toPart
    have record := abortInPassage_hide? distinct found
    have articles := abortInPassage_articles h s.toPart
    have lanes := abortInPassage_lanes h s.toPart
    have tuning := abortInPassage_tuning h s.toPart
    generalize abortInPassage h s.toPart = q at *
    exact ⟨rfl, held, record, articles, base.position, base.eye, base.unbound, lanes, tuning, base.settings, base.routes⟩
end

section
/-! PROOFS. The edges (R28 to R31, R48 to R56): when one is confirmed, and where it goes. -/

namespace Sys2Proof.Machine

/-! ## The eye's three distance tests -/

theorem leadDebounceTest_pending {p : Part} {c : Pos} (state : p.eye.state = .leadPending c) : leadDebounceTest p =
    if p.travelled c p.settings.leadDebounce then confirmLead c (p.setEyeState .body) else p := by
  rw [leadDebounceTest, state]

theorem leadDebounceTest_other {p : Part} (other : ∀ c, p.eye.state ≠ .leadPending c) : leadDebounceTest p = p := by
  unfold leadDebounceTest
  split
  · rename_i c state
    exact absurd state (other c)
  · rfl

theorem gapFilterTest_pending {p : Part} {c : Pos} (state : p.eye.state = .tailPending c) : gapFilterTest p =
    if p.travelled c p.settings.gapFilter then confirmTrail c (p.setEyeState .clear) else p := by
  rw [gapFilterTest, state]

theorem gapFilterTest_other {p : Part} (other : ∀ c, p.eye.state ≠ .tailPending c) : gapFilterTest p = p := by
  unfold gapFilterTest
  split
  · rename_i c state
    exact absurd state (other c)
  · rfl

theorem discardTest_light {p : Part} {c : Pos} (state : p.eye.state = .discard (some c)) : discardTest p =
    if p.travelled c p.settings.gapFilter then p.setEyeState .clear else p := by
  rw [discardTest, state]

theorem discardTest_other {p : Part} (other : ∀ c, p.eye.state ≠ .discard (some c)) : discardTest p = p := by
  unfold discardTest
  split
  · rename_i c state
    exact absurd state (other c)
  · rfl

theorem eyeTest_leadPending {p : Part} {c : Pos} (state : p.eye.state = .leadPending c) : eyeTest p = leadDebounceTest p := by
  rw [eyeTest, state]

theorem eyeTest_tailPending {p : Part} {c : Pos} (state : p.eye.state = .tailPending c) : eyeTest p = gapFilterTest p := by
  rw [eyeTest, state]

theorem eyeTest_discard {p : Part} {c : Option Pos} (state : p.eye.state = .discard c) : eyeTest p = discardTest p := by
  rw [eyeTest, state]

theorem eyeTest_idle {p : Part} (state : p.eye.state = .clear ∨ p.eye.state = .body) : eyeTest p = p := by
  rcases state with state | state <;> rw [eyeTest, state]

/-! ## EYE FORCE -/

theorem eyeForce_lead {p : Part} (clear : p.eye.state = .clear) : eyeForce 1 p =
    (confirmLead p.feed.position (p.setEyeState .body), answerOk (eyeForceReply .body p.feed.position)) := by
  change forceLead p = _
  rw [forceLead, clear]

theorem eyeForce_lead_refused {p : Part} (other : p.eye.state ≠ .clear) : eyeForce 1 p = (p, refusal .state) := by
  change forceLead p = _
  unfold forceLead
  split
  · rename_i state
    exact absurd state other
  · rfl

theorem eyeForce_tail {p : Part} (taken : p.eye.state = .body ∨ ∃ c, p.eye.state = .tailPending c) : eyeForce 2 p =
    (confirmTrail p.feed.position (p.setEyeState .clear), answerOk (eyeForceReply .clear p.feed.position)) := by
  change forceTail p = _
  rcases taken with state | ⟨c, state⟩ <;> rw [forceTail, state]

theorem eyeForce_tail_refused {p : Part} (noBody : p.eye.state ≠ .body) (noTail : ∀ c, p.eye.state ≠ .tailPending c) :
    eyeForce 2 p = (p, refusal .state) := by
  change forceTail p = _
  unfold forceTail
  split
  · rename_i state
    exact absurd state noBody
  · rename_i c state
    exact absurd state (noTail c)
  · rfl

theorem eyeForce_range {operand : Byte} (noLead : operand ≠ 1) (noTail : operand ≠ 2) (p : Part) :
    eyeForce operand p = (p, refusal .range) := by
  unfold eyeForce
  split
  · rename_i number
    exact absurd (BitVec.eq_of_toNat_eq number) noLead
  · rename_i number
    exact absurd (BitVec.eq_of_toNat_eq number) noTail
  · rfl

/-! ## A confirmed lead -/

theorem confirmLead_waiting {p : Part} (waiting : p.unbound.isSome = true) (lead : Pos) :
    confirmLead lead p = tellUnbound lead p := by
  obtain ⟨edge, unbound⟩ := Option.isSome_iff_exists.mp waiting
  rw [confirmLead, unbound]

theorem confirmLead_bound {p : Part} {h : Hide} (unbound : p.unbound = none)
    (oldest : p.hides.find? (fun x => x.state == .announced) = some h) (lead : Pos) :
    confirmLead lead p = bindHide h.ticket lead none p := by
  rw [confirmLead, unbound]
  simp only [oldest]

theorem find?_announced_none {l : List Hide} (no : ∀ h ∈ l, h.state ≠ .announced) :
    l.find? (fun x => x.state == .announced) = none :=
  List.find?_eq_none.mpr fun h member state => no h member (beq_iff_eq.mp state)

theorem confirmLead_adopted {p : Part} {article : Nat} (unbound : p.unbound = none)
    (no : ∀ h ∈ p.hides, h.state ≠ .announced) (adopts : p.adoptable? = some article) (lead : Pos) :
    confirmLead lead p = bindHide p.ticket lead none (createHide 0 article true p) := by
  rw [confirmLead, unbound]
  simp only [find?_announced_none no, adopts]

theorem confirmLead_held {p : Part} (unbound : p.unbound = none) (no : ∀ h ∈ p.hides, h.state ≠ .announced)
    (adopts : p.adoptable? = none) (lead : Pos) : confirmLead lead p = holdUnbound lead p := by
  rw [confirmLead, unbound]
  simp only [find?_announced_none no, adopts]

theorem Part.adoptable?_of_default {p : Part} {a : Plan} (policy : p.settings.unannouncedPolicy = .adopt)
    (mark : p.articles.find? (·.mark) = some a) (active : a.state = .active) (room : p.hides.length < 8) :
    p.adoptable? = some a.code := by
  rw [Part.adoptable?, if_pos ⟨policy, room⟩, show (0 : Nat) = (0 : Half).toNat from rfl,
    p.claim_active 0 a (by rw [if_pos rfl]; exact mark) active]
  rfl

theorem Part.adoptable?_eq_none {p : Part} (no : p.settings.unannouncedPolicy = .refuse ∨
    p.articles.find? (·.mark) = none ∨ 8 ≤ p.hides.length) : p.adoptable? = none := by
  unfold Part.adoptable?
  split
  · rename_i adopts
    rcases no with policy | mark | full
    · rw [policy] at adopts
      cases adopts.1
    · rw [show (0 : Nat) = (0 : Half).toNat from rfl, p.claim_notFound 0 (by rw [if_pos rfl]; exact mark)]
      rfl
    · exact absurd adopts.2 (Nat.not_lt.mpr full)
  · rfl

/-! ## A confirmed trail -/

theorem confirmTrail_record {p : Part} {h : Hide} {before after : List Hide} (hides : p.hides = before ++ h :: after)
    (older : ∀ x ∈ before, ¬((x.state = .entering ∨ x.state = .splitting) ∧ x.trail = none))
    (inPassage : h.state = .entering ∨ h.state = .splitting) (none : h.trail = none) (trail : Pos) :
    confirmTrail trail p = testMarks h.ticket (p.modifyHide h.ticket fun x => { x with trail := some trail }) := by
  have oldest : p.hides.find? (fun x => x.inPassage && x.trail.isNone) = some h := by
    refine List.find?_eq_some_iff_append.mpr ⟨?_, before, after, hides, fun x member => ?_⟩
    · rw [h.inPassage_iff.mpr inPassage, none]
      rfl
    · rw [Bool.not_eq_true', ← Bool.not_eq_true, Bool.and_eq_true, x.inPassage_iff, Option.isNone_iff_eq_none]
      exact older x member
  rw [confirmTrail, oldest]

theorem find?_trail_none {l : List Hide}
    (no : ∀ x ∈ l, ¬((x.state = .entering ∨ x.state = .splitting) ∧ x.trail = none)) :
    l.find? (fun x => x.inPassage && x.trail.isNone) = none := by
  refine List.find?_eq_none.mpr fun x member both => no x member ?_
  rwa [Bool.and_eq_true, x.inPassage_iff, Option.isNone_iff_eq_none] at both

theorem confirmTrail_unbound {p : Part} {lead : Pos}
    (no : ∀ x ∈ p.hides, ¬((x.state = .entering ∨ x.state = .splitting) ∧ x.trail = none))
    (unbound : p.unbound = some ⟨lead, none⟩) (trail : Pos) :
    confirmTrail trail p = p.setUnbound (some ⟨lead, some trail⟩) := by
  rw [confirmTrail, find?_trail_none no, unbound]

theorem confirmTrail_dropped {p : Part}
    (no : ∀ x ∈ p.hides, ¬((x.state = .entering ∨ x.state = .splitting) ∧ x.trail = none))
    (other : ∀ lead : Pos, p.unbound ≠ some ⟨lead, none⟩) (trail : Pos) : confirmTrail trail p = p := by
  rw [confirmTrail, find?_trail_none no]
  dsimp only
  split
  · rename_i lead unbound
    exact absurd unbound (other lead)
  · rfl
  · rfl

end Sys2Proof.Machine

open Sys2Proof Sys2Proof.Machine

/-- Settles O28: the three distance tests, the eye's own test, and EYE FORCE, by the eye's state. -/
theorem edgesAreConfirmed : Obligations.EdgesAreConfirmed := by
  refine ⟨fun s => ⟨fun c state => ⟨fun reached => ?_, fun short => ?_⟩, fun other => ?_, fun c state => ⟨fun reached => ?_,
    fun short => ?_⟩, fun other => ?_, fun c state => ⟨fun reached => ?_, fun short => ?_⟩, fun other => ?_, fun ⟨c, state⟩ => ?_,
    fun ⟨c, state⟩ => ?_, fun ⟨c, state⟩ => ?_, eyeTest_idle⟩, fun s accept => ⟨fun clear => ?_, fun other => ?_,
    fun taken => ?_, fun noBody noTail => ?_, fun operand noLead noTail => ?_⟩⟩
  · rw [exec_thenArbiter_of_effect (c := .leadDebounceTravelled) rfl, leadDebounceTest_pending state]
    exact congrArg (fun q => Host.Outcome.next (s.thenWakes q)) (if_pos reached)
  · refine exec_thenArbiter_unchanged (c := .leadDebounceTravelled) rfl ((leadDebounceTest_pending state).trans (if_neg ?_))
    exact Bool.not_eq_true _ ▸ short
  · exact exec_thenArbiter_unchanged (c := .leadDebounceTravelled) rfl (leadDebounceTest_other other)
  · rw [exec_thenArbiter_of_effect (c := .gapFilterTravelled) rfl, gapFilterTest_pending state]
    exact congrArg (fun q => Host.Outcome.next (s.thenWakes q)) (if_pos reached)
  · refine exec_thenArbiter_unchanged (c := .gapFilterTravelled) rfl ((gapFilterTest_pending state).trans (if_neg ?_))
    exact Bool.not_eq_true _ ▸ short
  · exact exec_thenArbiter_unchanged (c := .gapFilterTravelled) rfl (gapFilterTest_other other)
  · exact exec_of_effect (c := .discardLightTravelled) ((discardTest_light state).trans (if_pos reached))
  · refine exec_unchanged (c := .discardLightTravelled) ((discardTest_light state).trans (if_neg ?_))
    exact Bool.not_eq_true _ ▸ short
  · exact exec_unchanged (c := .discardLightTravelled) (discardTest_other other)
  · rw [eyeTest_leadPending state]
    exact exec_thenArbiter_of_effect (c := .leadDebounceTravelled) rfl s
  · rw [eyeTest_tailPending state]
    exact exec_thenArbiter_of_effect (c := .gapFilterTravelled) rfl s
  · rw [eyeTest_discard state]
    exact exec_of_effect (c := .discardLightTravelled) rfl
  · exact exec_thenArbiter_command (c := .eyeForceLead 1) rfl accept (eyeForce_lead clear)
  · exact exec_thenArbiter_refused (c := .eyeForceLead 1) rfl accept (eyeForce_lead_refused other)
  · exact exec_thenArbiter_command (c := .eyeForceTail 2) rfl accept (eyeForce_tail taken)
  · exact exec_thenArbiter_refused (c := .eyeForceTail 2) rfl accept (eyeForce_tail_refused noBody noTail)
  · exact exec_thenArbiter_refused (c := .eyeForceLead operand) rfl accept (eyeForce_range noLead noTail _)

/-- Settles O29: `confirmLead` by the unbound edge, the announced records and the default article. -/
theorem confirmedLeadIsBoundAdoptedOrHeld : Obligations.ConfirmedLeadIsBoundAdoptedOrHeld := by
  refine ⟨fun ticket lead trail h p bound found eq => ?_, fun lead p => ⟨fun waiting => confirmLead_waiting waiting lead,
    fun h unbound oldest distinct => ?_, fun a unbound no policy mark active plan room new => ?_,
    fun unbound no why => confirmLead_held unbound no (Part.adoptable?_eq_none why) lead⟩⟩
  · subst eq
    rw [bindHide, found]
    rfl
  · have binds := confirmLead_bound unbound oldest lead
    obtain ⟨b, foundThen, state, hasLead, trail, snapshot, tag, article, _⟩ := bindHide_hide? h.ticket lead none p h
      (Part.hide?_of_mem distinct (List.mem_of_find?_eq_some oldest))
    rw [binds]
    exact ⟨rfl, b, foundThen, state, hasLead, trail, snapshot, tag, article,
      (bindHide_sameBase _ _ _ _).unbound.trans unbound, bindHide_length _ _ _ _⟩
  · have binds := confirmLead_adopted unbound no (Part.adoptable?_of_default policy mark active room) lead
    obtain ⟨b, foundThen, state, hasLead, trail, snapshot, tag, article, unannounced⟩ := bindHide_hide? p.ticket lead none _ _
      (createHide_hide? new 0 a.code true)
    have fields := createHide_fields 0 a.code a.code true p
    rw [plan] at fields
    rw [binds]
    exact ⟨rfl, b, foundThen, state, hasLead, trail, snapshot.trans fields, tag, article, unannounced,
      (bindHide_sameBase _ _ _ _).unbound.trans unbound, (bindHide_sameBase _ _ _ _).nextTicket⟩

/-- Settles O30: `confirmTrail` by the oldest record in passage without a trail and by the unbound edge. -/
theorem confirmedTrailGoesToOldest : Obligations.ConfirmedTrailGoesToOldest := by
  intro trail p
  exact ⟨fun h before after hides older inPassage none => confirmTrail_record hides older inPassage none trail,
    fun no => ⟨fun lead unbound => confirmTrail_unbound no unbound trail,
      fun other => confirmTrail_dropped no other trail⟩⟩
end

section
/-! PROOFS. The marks of a record (R32 to R36): when one is due, and what its crossing leaves. -/

namespace Sys2Proof.Machine

/-! ## When a mark is due -/

theorem Part.approachDue_iff {p : Part} {h : Hide} {lead : Pos} (hasLead : h.lead = some lead) : p.approachDue h = true ↔
    h.state = .entering ∧ h.approachReached = false ∧
      reached (lead + BitVec.ofNat 32 p.settings.throatLength - BitVec.ofNat 32 p.settings.approachMargin)
        p.feed.position = true := by
  rw [Part.approachDue, hasLead, Bool.and_eq_true, Bool.and_eq_true, beq_iff_eq, Bool.not_eq_true', and_assoc]
  rfl

theorem Part.knifeDue_iff {p : Part} {h : Hide} {lead : Pos} (hasLead : h.lead = some lead) : p.knifeDue h = true ↔
    h.state = .entering ∧ h.waiting = false ∧
      reached (lead + BitVec.ofNat 32 p.settings.throatLength) p.feed.position = true := by
  rw [Part.knifeDue, hasLead, Bool.and_eq_true, Bool.and_eq_true, beq_iff_eq, Bool.not_eq_true', and_assoc]
  rfl

theorem Part.knifeDue_eq_false {p : Part} {h : Hide} (other : h.state ≠ .entering ∨ h.waiting = true) :
    ¬p.knifeDue h = true := by
  rw [Part.knifeDue, Bool.and_eq_true, Bool.and_eq_true, beq_iff_eq, Bool.not_eq_true']
  rintro ⟨⟨entering, notWaiting⟩, _⟩
  rcases other with left | waiting
  · exact left entering
  · rw [waiting] at notWaiting
    cases notWaiting

theorem Part.trailDue_iff {p : Part} {h : Hide} {trail : Pos} (hasTrail : h.trail = some trail) : p.trailDue h = true ↔
    h.state = .splitting ∧ reached (trail + BitVec.ofNat 32 p.settings.throatLength) p.feed.position = true := by
  rw [Part.trailDue, hasTrail, Bool.and_eq_true, beq_iff_eq]
  rfl

theorem Part.maximumDue_iff {p : Part} {h : Hide} {lead : Pos} (hasLead : h.lead = some lead) : p.maximumDue h = true ↔
    (h.state = .entering ∨ h.state = .splitting) ∧ h.trail = none ∧ h.overlength = false ∧
      reached (lead + BitVec.ofNat 32 p.settings.maximumHideLength) p.feed.position = true := by
  rw [Part.maximumDue, hasLead, Bool.and_eq_true, Bool.and_eq_true, Bool.and_eq_true, h.inPassage_iff, Bool.not_eq_true',
    Option.isNone_iff_eq_none, and_assoc, and_assoc]
  rfl

/-! ## The mark tests -/

section
variable {t : Nat} {h : Hide} {p : Part}

theorem testApproach_due (found : p.hide? t = some h) (due : p.approachDue h = true) :
    testApproach t p = crossApproach t p := by
  rw [testApproach, found]
  exact if_pos due

theorem testApproach_not_due (found : p.hide? t = some h) (due : ¬p.approachDue h = true) : testApproach t p = p := by
  rw [testApproach, found]
  exact if_neg due

theorem testKnife_due (found : p.hide? t = some h) (due : p.knifeDue h = true) : testKnife t p = crossKnife h p := by
  rw [testKnife, found]
  exact if_pos due

theorem testKnife_not_due (found : p.hide? t = some h) (due : ¬p.knifeDue h = true) : testKnife t p = p := by
  rw [testKnife, found]
  exact if_neg due

theorem testKnife_unknown (found : p.hide? t = none) : testKnife t p = p := by
  rw [testKnife, found]

theorem testTrail_due (found : p.hide? t = some h) (due : p.trailDue h = true) : testTrail t p = clearRecord h p := by
  rw [testTrail, found]
  exact if_pos due

theorem testTrail_not_due (found : p.hide? t = some h) (due : ¬p.trailDue h = true) : testTrail t p = p := by
  rw [testTrail, found]
  exact if_neg due

theorem testMaximum_due (found : p.hide? t = some h) (due : p.maximumDue h = true) :
    testMaximum t p = crossMaximum h p := by
  rw [testMaximum, found]
  exact if_pos due

theorem testMaximum_not_due (found : p.hide? t = some h) (due : ¬p.maximumDue h = true) : testMaximum t p = p := by
  rw [testMaximum, found]
  exact if_neg due

end

/-! ## The approach point and the maximum length -/

theorem crossApproach_feed (t : Nat) (p : Part) : (crossApproach t p).feed = { p.feed with
    runState := if p.feed.runState = .stoppingBeforeNext then .stopped else p.feed.runState
    holds := { p.feed.holds with gapNotReady := (crossApproach t p).notReady } } := by
  unfold crossApproach stopBeforeNext
  split
  · rename_i before
    rw [if_pos (c := p.feed.runState = .stoppingBeforeNext) before]
    rfl
  · rename_i before
    rw [if_neg (c := p.feed.runState = .stoppingBeforeNext) before]
    rfl

theorem crossApproach_hides (t : Nat) (p : Part) : (crossApproach t p).hides =
    p.hides.map fun x => if x.ticket = t then { x with approachReached := true } else x := by
  unfold crossApproach stopBeforeNext
  split <;> simp [Part.modifyHide, Part.setHides, Part.setRunState]

theorem crossApproach_eq (t : Nat) (p : Part) : crossApproach t p =
    { p with hides := (crossApproach t p).hides, feed := (crossApproach t p).feed } := by
  unfold crossApproach stopBeforeNext
  split <;> rfl

end Sys2Proof.Machine

open Sys2Proof Sys2Proof.Machine

/-- Settles O32: the two mark tests, by whether the mark is due. -/
theorem approachAndMaximumMarksAct : Obligations.ApproachAndMaximumMarksAct := by
  intro ticket h lead s found hasLead
  have approach := s.toPart.approachDue_iff hasLead
  have maximum := s.toPart.maximumDue_iff hasLead
  refine ⟨fun entering fresh passed => ?_, fun no => ?_, fun inPassage noTrail fresh passed => ?_, fun no => ?_⟩
  · refine ⟨s.withPart (crossApproach ticket.toNat s.toPart), exec_of_effect (c := .approachPointCrossing ticket)
      (testApproach_due found (approach.mpr ⟨entering, fresh, passed⟩)), ?_, crossApproach_hides _ _, crossApproach_feed _ _⟩
    exact congrArg s.withPart (crossApproach_eq _ _)
  · refine exec_unchanged (c := .approachPointCrossing ticket) (testApproach_not_due found fun due => ?_)
    obtain ⟨entering, fresh, passed⟩ := approach.mp due
    rcases no with left | crossed | short
    · exact left entering
    · exact Bool.noConfusion (fresh.symm.trans crossed)
    · exact Bool.noConfusion (short.symm.trans passed)
  · exact exec_of_effect (c := .maximumLengthCrossing ticket)
      (testMaximum_due found (maximum.mpr ⟨inPassage, noTrail, fresh, passed⟩))
  · refine exec_unchanged (c := .maximumLengthCrossing ticket) (testMaximum_not_due found fun due => ?_)
    obtain ⟨inPassage, noTrail, fresh, passed⟩ := maximum.mp due
    rcases no with ⟨notEntering, notSplitting⟩ | hasTrail | crossed | short
    · exact inPassage.elim notEntering notSplitting
    · rw [noTrail] at hasTrail
      cases hasTrail
    · exact Bool.noConfusion (fresh.symm.trans crossed)
    · exact Bool.noConfusion (short.symm.trans passed)
end

section
/-! PROOFS. The knife-line crossing of a lead (R33). -/

namespace Sys2Proof.Machine

/-- An operation that leaves the drive records and the lanes makes no arbiter test. -/
theorem exec_thenArbiter_same {c : Instr} {f : Part → Part} {s : State} {p : Part} (row : effect c = thenArbiter f)
    (gives : f s.toPart = p) (drives : p.bus.drives = s.bus.drives) (lanes : p.lanes = s.lanes) :
    exec c s = .next (s.withPart p) := by
  rw [exec_thenArbiter_of_effect row, gives, s.thenWakes_of_same p drives lanes]

/-! ## The gap axis over an occupied knife line -/

/-- Over an occupied knife line a hand-on only tests the readiness (R81, R83, R84). -/
theorem gapHandOn_of_occupied {p : Part} (occupied : p.knifeOccupied = true) : gapHandOn p = notReadyTest p := by
  have kept : stage p = p := if_pos occupied
  have noApply : p.applyDue = false := by simp [Part.applyDue, occupied]
  have noMove : p.startTarget? = none := by simp [Part.startTarget?, occupied]
  simp only [gapHandOn, kept, noApply, startTest, noMove]
  rfl

/-! ## STOPPING_AT_CLEAR -/

theorem stopAtClearTest_ends {p : Part} (stopping : p.feed.runState = .stoppingAtClear) (empty : p.anyInPassage = false) :
    stopAtClearTest p = p.setRunState .stopped := if_pos ⟨stopping, empty⟩

theorem stopAtClearTest_same {p : Part} (no : p.feed.runState ≠ .stoppingAtClear ∨ p.anyInPassage = true) :
    stopAtClearTest p = p := by
  refine if_neg fun ⟨stopping, empty⟩ => ?_
  rcases no with other | some
  · exact other stopping
  · exact Bool.noConfusion (empty.symm.trans some)

/-! ## The record becomes SPLITTING -/

/-- The part with its record SPLITTING, before the hand-ons (R33). -/
def splitRecord (h : Hide) (p : Part) : Part :=
  endExcursionRun (p.modifyHide h.ticket fun x => x.split (!p.gap.idleOn (h.snapshot.map (·.splitGap))))

section
variable {h : Hide} {p : Part}

theorem splitRecord_splitting (found : p.hide? h.ticket = some h) : ∃ x ∈ (splitRecord h p).hides, x.state = .splitting := by
  refine ⟨h.split (!p.gap.idleOn (h.snapshot.map (·.splitGap))), List.mem_map.mpr ⟨h, List.mem_of_find?_eq_some found, ?_⟩,
    rfl⟩
  exact if_pos (beq_self_eq_true h.ticket)

theorem becomeSplitting_splitting (found : p.hide? h.ticket = some h) :
    ∃ x ∈ (becomeSplitting h p).hides, x.state = .splitting := by
  rw [becomeSplitting_hides]
  exact splitRecord_splitting found

theorem splitRecord_occupied (found : p.hide? h.ticket = some h) : (splitRecord h p).knifeOccupied = true :=
  (Part.knifeOccupied_iff _).mpr (.inl (splitRecord_splitting found))

/-- With its own record in passage the crossing leaves the run state (R67). -/
theorem becomeSplitting_handsOn (found : p.hide? h.ticket = some h) : becomeSplitting h p =
    raise (.hideSplitting h.ticket h.article) (clearPerHideTallies (recompute (gapHandOn (splitRecord h p)))) := by
  obtain ⟨x, member, splitting⟩ := splitRecord_splitting found
  refine stopAtClearTest_same (.inr ((Part.anyInPassage_iff _).mpr ⟨x, ?_, .inr splitting⟩))
  rw [raise_hides]
  simp only [clearPerHideTallies, Part.setTallies, recompute_hides, gapHandOn_hides]
  exact member

theorem becomeSplitting_eq (found : p.hide? h.ticket = some h) : becomeSplitting h p =
    raise (.hideSplitting h.ticket h.article) (clearPerHideTallies (recompute (notReadyTest (splitRecord h p)))) := by
  rw [becomeSplitting_handsOn found, gapHandOn_of_occupied (splitRecord_occupied found)]

theorem becomeSplitting_gap (found : p.hide? h.ticket = some h) :
    (becomeSplitting h p).gap = { p.gap with excursionRun := false } := by
  rw [becomeSplitting_eq found, raise_gap]
  simp only [clearPerHideTallies, Part.setTallies, recompute_gap]
  rfl

/-- With every route disabled nothing acts on HIDE_SPLITTING. -/
theorem becomeSplitting_of_disabled (found : p.hide? h.ticket = some h)
    (disabled : ∀ i : Fin 16, (p.routes[i.val]).enabled = false) : (becomeSplitting h p).lines = p.lines ∧
      (becomeSplitting h p).port = p.port ∧ (becomeSplitting h p).tallies =
        p.tallies.map fun k => if k.scope = .perHide then { k with count := 0 } else k := by
  have quiet : ∀ i : Fin 16,
      ((clearPerHideTallies (recompute (notReadyTest (splitRecord h p)))).routes[i.val]).enabled = false := disabled
  rw [becomeSplitting_eq found, raise_of_disabled _ _ quiet, clearPerHideTallies_eq]
  simp only [Part.setTallies, recompute_tallies, recompute_port, recompute_lines, notReadyTest_tallies, notReadyTest_port,
    notReadyTest_lines]
  exact ⟨rfl, rfl, rfl⟩

end

theorem crossKnife_waits {h : Hide} {p : Part} (other : ∃ x ∈ p.hides, x.state = .splitting) :
    crossKnife h p = p.modifyHide h.ticket fun x => { x with waiting := true } :=
  if_pos (p.splitting?_isSome_iff.mpr other)

theorem crossKnife_splits {h : Hide} {p : Part} (alone : ∀ x ∈ p.hides, x.state ≠ .splitting) :
    crossKnife h p = becomeSplitting h p := by
  refine if_neg fun some => ?_
  obtain ⟨x, member, splitting⟩ := p.splitting?_isSome_iff.mp some
  exact alone x member splitting

/-! ## Wanted pressures -/

theorem Part.wanted_of_decided {p : Part} (decided : wantedIsDecided p) (n : LaneNo) :
    p.wanted n = p.pressureFor p.contactSpan n := by
  rw [Part.wanted, decided, Part.pressures, Vector.getElem_ofFn]

theorem State.thenWakes_pressureFor (s : State) (p : Part) (n : LaneNo) :
    (s.thenWakes p).pressureFor (s.thenWakes p).contactSpan n = p.pressureFor p.contactSpan n :=
  Part.pressureFor_congr (s.thenWakes_lanes p) (s.thenWakes_hides p) (s.thenWakes_settings p)
    (congrArg (·.stopLevel) (s.thenWakes_pressure p)) n

end Sys2Proof.Machine

open Sys2Proof Sys2Proof.Machine

/-- Settles O33: the knife-line test, by whether it is due and another record is SPLITTING. -/
theorem knifeCrossingSplitsOrWaits : Obligations.KnifeCrossingSplitsOrWaits := by
  refine ⟨fun ticket s => ⟨fun none => ?_, fun h found => ⟨fun other => ?_, fun lead f hasLead fields entering ready =>
    ⟨fun short => ?_, fun passed => ⟨fun other => ?_, fun alone => ?_⟩⟩⟩⟩, fun h f p split told fields found splitEq toldEq => ?_⟩
  · exact exec_thenArbiter_unchanged (c := .knifeLineCrossing ticket) rfl (testKnife_unknown none)
  · exact exec_thenArbiter_unchanged (c := .knifeLineCrossing ticket) rfl
      (testKnife_not_due found (Part.knifeDue_eq_false other))
  · refine exec_thenArbiter_unchanged (c := .knifeLineCrossing ticket) rfl (testKnife_not_due found fun due => ?_)
    exact Bool.noConfusion (short.symm.trans ((Part.knifeDue_iff hasLead).mp due).2.2)
  · have waits := (testKnife_due found ((Part.knifeDue_iff hasLead).mpr ⟨entering, ready, passed⟩)).trans
      (crossKnife_waits other)
    rw [exec_thenArbiter_same (c := .knifeLineCrossing ticket) rfl waits rfl rfl, Part.hide?_ticket found]
    rfl
  · have splits := (testKnife_due found ((Part.knifeDue_iff hasLead).mpr ⟨entering, ready, passed⟩)).trans
      (crossKnife_splits alone)
    have own : s.hide? h.ticket = some h := Part.hide?_ticket found ▸ found
    have hides := becomeSplitting_hides h s.toPart
    simp only [Part.hide?_ticket found, beq_iff_eq] at hides
    have base := becomeSplitting_sameBase h s.toPart
    have gap := becomeSplitting_gap own
    have articles := becomeSplitting_articles h s.toPart
    have lanes := becomeSplitting_lanes h s.toPart
    have tuning := becomeSplitting_tuning h s.toPart
    have decided := Part.wanted_of_decided (becomeSplitting_decides h s.toPart)
    have quiet := becomeSplitting_of_disabled own
    have splitting := becomeSplitting_splitting own
    refine ⟨s.thenWakes (becomeSplitting h s.toPart), ?_, rfl, ?_⟩
    · rw [exec_thenArbiter_of_effect (c := .knifeLineCrossing ticket) rfl, splits]
    rw [Part.knifeOccupied_iff]
    simp only [State.thenWakes_port, State.thenWakes_feed, State.thenWakes_hides, State.thenWakes_articles,
      State.thenWakes_gap, State.thenWakes_wanted, State.thenWakes_pressureFor, State.thenWakes_lines,
      State.thenWakes_tallies, State.thenWakes_eye, State.thenWakes_unbound, State.thenWakes_lanes, State.thenWakes_tuning,
      State.thenWakes_settings, State.thenWakes_routes]
    generalize becomeSplitting h s.toPart = q at *
    refine ⟨?_, .inl splitting, by rw [gap], by rw [gap], by rw [gap], by rw [gap], decided, articles, lanes, tuning, base.eye,
      base.position, base.unbound, base.settings, base.routes, base.slot, base.attentionMask, fun disabled => ?_⟩
    · rw [hides, fields]
      rfl
    · obtain ⟨lines, port, tallies⟩ := quiet disabled
      refine ⟨lines, by rw [port], fun i => ?_⟩
      simp only [tallies, Vector.getElem_map]
  · have record : split = splitRecord h p := by
      rw [splitEq, splitRecord, fields]
      rfl
    rw [becomeSplitting_handsOn found, ← record, toldEq, clearPerHideTallies_eq, recompute_tallies, gapHandOn_tallies,
      record]
    rfl
end

section
/-! PROOFS. The trail mark (R17, R24, R33, R34, R180): what a CLEARED record leaves. -/

namespace Sys2Proof.Machine

/-! ## The excursion run -/

theorem stage_excursionRun (p : Part) : (stage p).gap.excursionRun = p.gap.excursionRun := by
  unfold stage
  split
  · rfl
  · split <;> rfl

theorem startTest_excursionRun (p : Part) : (startTest p).gap.excursionRun = p.gap.excursionRun := by
  unfold startTest
  split <;> rfl

theorem startPendingApply_excursionRun (p : Part) : (startPendingApply p).gap.excursionRun = p.gap.excursionRun := by
  unfold startPendingApply
  dsimp only
  split <;> rfl

theorem gapHandOn_excursionRun (p : Part) : (gapHandOn p).gap.excursionRun = p.gap.excursionRun := by
  unfold gapHandOn
  rw [notReadyTest_gap_excursionRun]
  split
  · rw [startPendingApply_excursionRun, stage_excursionRun]
  · rw [startTest_excursionRun, stage_excursionRun]

theorem gapCleared_excursionRun (p : Part) : (gapCleared p).gap.excursionRun = p.gap.excursionRun := by
  unfold gapCleared
  rw [notReadyTest_gap_excursionRun]
  split
  · rw [startPendingApply_excursionRun, stage_excursionRun]
  · split
    · rw [startTest_excursionRun, stage_excursionRun]
    · split
      · split
        · exact stage_excursionRun p
        · exact stage_excursionRun p
      · exact stage_excursionRun p

/-! ## The record that waits -/

theorem promoteWaiting_of_splitting {p : Part} (other : ∃ x ∈ p.hides, x.state = .splitting) : promoteWaiting p = p :=
  if_pos (p.splitting?_isSome_iff.mpr other)

theorem find?_waiting_eq_none {l : List Hide} (none : ∀ x ∈ l, ¬(x.state = .entering ∧ x.waiting = true)) :
    l.find? (fun x => x.state == .entering && x.waiting) = .none :=
  List.find?_eq_none.mpr fun x member both => none x member (by rwa [Bool.and_eq_true, beq_iff_eq] at both)

theorem promoteWaiting_of_none {p : Part} (none : ∀ x ∈ p.hides, ¬(x.state = .entering ∧ x.waiting = true)) :
    promoteWaiting p = p := by
  unfold promoteWaiting
  rw [find?_waiting_eq_none none]
  exact ite_self p

theorem promoteWaiting_oldest {p : Part} {w : Hide} (alone : ∀ x ∈ p.hides, x.state ≠ .splitting)
    (oldest : p.hides.find? (fun x => x.state == .entering && x.waiting) = some w) :
    promoteWaiting p = becomeSplitting w p := by
  unfold promoteWaiting
  rw [if_neg fun other => ?_, oldest]
  obtain ⟨x, member, splitting⟩ := p.splitting?_isSome_iff.mp other
  exact alone x member splitting

/-- A property of the part that holds of it, and of it with a record newly SPLITTING, holds after the promotion. -/
theorem promoteWaiting_cases {P : Part → Prop} {p : Part} (same : P p) (split : ∀ w, P (becomeSplitting w p)) :
    P (promoteWaiting p) := by
  unfold promoteWaiting
  split
  · exact same
  · split
    · exact split _
    · exact same

theorem becomeSplitting_excursionRun (h : Hide) (p : Part) : (becomeSplitting h p).gap.excursionRun = false := by
  simp [becomeSplitting, clearPerHideTallies, Part.setTallies, gapHandOn_excursionRun, endExcursionRun]

theorem promoteWaiting_excursionRun {p : Part} (ended : p.gap.excursionRun = false) :
    (promoteWaiting p).gap.excursionRun = false :=
  promoteWaiting_cases (P := fun q => q.gap.excursionRun = false) ended fun w => becomeSplitting_excursionRun w p

theorem becomeSplitting_hideDone (h : Hide) (p : Part) :
    (becomeSplitting h p).port.attention.hideDone = p.port.attention.hideDone := by
  simp [becomeSplitting, clearPerHideTallies, Part.setTallies, endExcursionRun]

theorem promoteWaiting_hideDone (p : Part) :
    (promoteWaiting p).port.attention.hideDone = p.port.attention.hideDone :=
  promoteWaiting_cases (P := fun q => q.port.attention.hideDone = p.port.attention.hideDone) rfl
    fun w => becomeSplitting_hideDone w p

/-! ## The verdict and the events of a CLEARED record -/

theorem Hide.verdictOf_eq {h : Hide} {f : PlanFields} (fields : h.snapshot = some f) : h.verdictOf =
    if f.rejectLimit = 0 then .none else if f.rejectLimit ≤ h.bottomEvents then .reject else .pass := by
  rw [Hide.verdictOf, fields, Option.map_some, Option.getD_some]
  split
  · rename_i zero
    rw [if_pos zero]
  · rename_i limit positive
    rw [positive]
    rfl

theorem raiseAll_clearedEvents (h : Hide) (p : Part) : raiseAll h.clearedEvents p =
    if h.verdictOf = .reject then raise (.hideReject h.ticket h.article) (raise (.hideCleared h.ticket h.article) p)
    else raise (.hideCleared h.ticket h.article) p := by
  unfold Hide.clearedEvents
  split
  · rename_i reject
    rw [if_pos reject]
    rfl
  · rename_i other
    rw [if_neg other]
    rfl

theorem raiseAll_eq_foldl (events : List Event) (p : Part) : raiseAll events p = events.foldl (fun q e => raise e q) p := by
  induction events generalizing p with
  | nil => rfl
  | cons e rest ih => exact ih (raise e p)

theorem Tally.reachedByHide_eq (t : Tally) : t.reachedByHide = decide (t.scope = .perHide ∧
    (if t.invert = true then t.count.toNat < t.threshold.toNat else t.threshold.toNat ≤ t.count.toNat)) := by
  rw [Tally.reachedByHide, Bool.decide_and, beq_eq_decide]
  cases t.invert <;> rfl

/-- Each PER_HIDE tally that its comparison has reached raises its event, in ascending index (R180). -/
theorem raiseAll_perHideEvents (p q : Part) : raiseAll (perHideEvents p) q =
    ((List.finRange 4).filter fun i => decide ((p.tallies[i.val]).scope = .perHide ∧
      (if (p.tallies[i.val]).invert = true
        then (p.tallies[i.val]).count.toNat < (p.tallies[i.val]).threshold.toNat
        else (p.tallies[i.val]).threshold.toNat ≤ (p.tallies[i.val]).count.toNat))).foldl
      (fun q i => raise (.tallyReached i (p.tallies[i.val]).count) q) q := by
  have events : perHideEvents p = ((List.finRange 4).filter fun i => (p.tallies[i.val]).reachedByHide).map
      fun i => .tallyReached i (p.tallies[i.val]).count := by
    rw [perHideEvents, ← List.filterMap_eq_filter, ← List.filterMap_eq_map, List.filterMap_filterMap]
    refine List.filterMap_congr fun i _ => ?_
    by_cases reached : (p.tallies[i.val]).reachedByHide = true <;> simp [reached, Option.guard]
  rw [raiseAll_eq_foldl, events, List.foldl_map]
  simp only [Tally.reachedByHide_eq]

/-! ## The CLEARED record -/

/-- A CLEARED record before the comparison of the tallies (R34). -/
def clearedRecord (h : Hide) (p : Part) : Part :=
  endExcursionRun ((p.modifyHide h.ticket Hide.clear).modifyPlan h.article Plan.countCleared)

theorem clearedRecord_hides {p : Part} {h : Hide} {verdict : Verdict} (distinct : (p.hides.map (·.ticket)).Nodup)
    (found : p.hide? h.ticket = some h) (decided : h.verdictOf = verdict) : (clearedRecord h p).hides =
      p.hides.map fun x =>
        if x.ticket == h.ticket then { h with state := .cleared, verdict := some verdict } else x := by
  refine List.map_congr_left fun x member => ?_
  by_cases same : (x.ticket == h.ticket) = true
  · have own := Part.hide?_of_mem distinct member
    rw [beq_iff_eq.mp same, found] at own
    obtain rfl := Option.some.inj own
    rw [if_pos same, if_pos same, Hide.clear, decided]
  · rw [if_neg same, if_neg same]

/-- What `promoteWaiting` is handed: the tallies compared, HIDE_DONE added and the events of the record taken (R34). -/
def clearedAndTold (h : Hide) (p : Part) : Part :=
  raiseAll h.clearedEvents ((comparePerHideTallies (clearedRecord h p)).attend .hideDone)

theorem clearRecord_eq (h : Hide) (p : Part) : clearRecord h p =
    stopAtClearTest (recompute (formationTest (gapCleared (promoteWaiting (clearedAndTold h p))))) := rfl

theorem clearedAndTold_hides (h : Hide) (p : Part) : (clearedAndTold h p).hides =
    p.hides.map fun x => if x.ticket == h.ticket then x.clear else x := by
  rw [clearedAndTold, raiseAll_hides, Part.attend_hides, comparePerHideTallies_hides]
  rfl

theorem clearedAndTold_articles (h : Hide) (p : Part) : (clearedAndTold h p).articles =
    p.articles.map fun b => if b.code == h.article then { b with cleared := b.cleared + 1 } else b := by
  rw [clearedAndTold, raiseAll_articles, Part.attend_articles, comparePerHideTallies_onlyRoutes]
  rfl

theorem clearedAndTold_gap (h : Hide) (p : Part) : (clearedAndTold h p).gap = { p.gap with excursionRun := false } := by
  rw [clearedAndTold, raiseAll_gap, Part.attend_gap, comparePerHideTallies_onlyRoutes]
  rfl

theorem clearedAndTold_hideDone (h : Hide) (p : Part) : (clearedAndTold h p).port.attention.hideDone = true := by
  rw [clearedAndTold, raiseAll_attention_hideDone]
  rfl

theorem clearRecord_articles (h : Hide) (p : Part) : (clearRecord h p).articles =
    p.articles.map fun b => if b.code = h.article then { b with cleared := b.cleared + 1 } else b := by
  simp [clearRecord_eq, promoteWaiting_articles, clearedAndTold_articles]

theorem clearRecord_hideDone (h : Hide) (p : Part) : (clearRecord h p).port.attention.hideDone = true := by
  simp [clearRecord_eq, promoteWaiting_hideDone, clearedAndTold_hideDone]

theorem clearRecord_excursionRun (h : Hide) (p : Part) : (clearRecord h p).gap.excursionRun = false := by
  simp [clearRecord_eq, gapCleared_excursionRun, promoteWaiting_excursionRun, clearedAndTold_gap]

theorem clearRecord_hide? {p : Part} {h : Hide} (distinct : (p.hides.map (·.ticket)).Nodup)
    (found : p.hide? h.ticket = some h) : (clearRecord h p).hide? h.ticket = some h.clear := by
  have tickets : ((clearedAndTold h p).hides.map (·.ticket)).Nodup := by
    rw [clearedAndTold_hides, List.map_map]
    refine (congrArg List.Nodup (List.map_congr_left fun x _ => ?_)).mpr distinct
    rw [Function.comp_apply]
    split <;> rfl
  have cleared : (clearedAndTold h p).hide? h.ticket = some h.clear := by
    rw [Part.hide?, clearedAndTold_hides]
    exact (Part.hide?_modifyHide_hit p h.ticket Hide.clear fun _ => rfl).trans (by rw [found]; rfl)
  have promoted := promoteWaiting_hide? tickets cleared (by simp [Hide.clear])
  rw [Part.hide?] at promoted ⊢
  rw [clearRecord_eq, stopAtClearTest_hides, recompute_hides, formationTest_hides, gapCleared_hides, promoted]

/-- With no record waiting behind it, none is SPLITTING after it. -/
theorem clearRecord_none_splitting {p : Part} {h : Hide}
    (alone : ∀ x ∈ p.hides, x.ticket ≠ h.ticket → x.state ≠ .splitting ∧ x.waiting = false) :
    ∀ x ∈ (clearRecord h p).hides, x.state ≠ .splitting := by
  have left : ∀ x ∈ (clearedAndTold h p).hides, x.state ≠ .splitting ∧ ¬(x.state = .entering ∧ x.waiting = true) := by
    rw [clearedAndTold_hides]
    intro x member
    obtain ⟨before, own, rfl⟩ := List.mem_map.mp member
    by_cases same : before.ticket = h.ticket
    · simp [same, Hide.clear]
    · obtain ⟨notSplitting, notWaiting⟩ := alone before own same
      simp [same, notSplitting, notWaiting]
  rw [clearRecord_eq, stopAtClearTest_hides, recompute_hides, formationTest_hides, gapCleared_hides,
    promoteWaiting_of_none fun x member => (left x member).2]
  exact fun x member => (left x member).1

theorem clearRecord_length (h : Hide) (p : Part) : (clearRecord h p).hides.length = p.hides.length :=
  hidesFollow_length (hidesFollow_clearRecord h p)

end Sys2Proof.Machine

open Sys2Proof Sys2Proof.Machine

/-- Settles O34: `clearRecord` in the order of R34, the promotion of the waiting record, and STOPPING_AT_CLEAR. -/
theorem trailCrossingClears : Obligations.TrailCrossingClears := by
  refine ⟨fun ticket h trail f s found hasTrail fields splitting => ⟨fun passed distinct => ?_, fun short => ?_⟩,
    fun p => ⟨promoteWaiting_of_splitting, promoteWaiting_of_none, fun w => promoteWaiting_oldest⟩,
    fun p => ⟨fun stopping none => ?_, fun no => ?_⟩⟩
  · have own : s.hide? h.ticket = some h := Part.hide?_ticket found ▸ found
    have clears := testTrail_due found ((Part.trailDue_iff hasTrail).mpr ⟨splitting, passed⟩)
    have taken := exec_thenArbiter_of_effect (c := .trailMarkCrossing ticket) rfl s
    rw [clears] at taken
    refine ⟨fun verdict cleared compared told verdictEq clearedEq comparedEq toldEq => ?_,
      ⟨s.thenWakes (clearRecord h s.toPart), taken, ?_⟩⟩
    · have decided : h.verdictOf = verdict := verdictEq ▸ Hide.verdictOf_eq fields
      have record : clearPerHideTallies (clearedRecord h s.toPart) = cleared := by
        rw [clearedEq, ← clearedRecord_hides distinct own decided, clearPerHideTallies_eq]
        rfl
      have handed : clearedAndTold h s.toPart =
          if verdict = .reject then raise (.hideReject h.ticket h.article) told else told := by
        rw [clearedAndTold, raiseAll_clearedEvents, comparePerHideTallies, record, decided, toldEq, comparedEq,
          raiseAll_perHideEvents]
        rfl
      rw [taken, clearRecord_eq, handed]
    · have base := clearRecord_sameBase h s.toPart
      have record := clearRecord_hide? distinct own
      have articles := clearRecord_articles h s.toPart
      have done := clearRecord_hideDone h s.toPart
      have run := clearRecord_excursionRun h s.toPart
      have length := clearRecord_length h s.toPart
      have none := clearRecord_none_splitting (p := s.toPart) (h := h)
      simp only [State.thenWakes_port, State.thenWakes_feed, State.thenWakes_hides, State.thenWakes_hide?,
        State.thenWakes_articles, State.thenWakes_gap, State.thenWakes_eye, State.thenWakes_unbound,
        State.thenWakes_nextTicket, State.thenWakes_settings, State.thenWakes_routes]
      generalize clearRecord h s.toPart = q at *
      refine ⟨?_, articles, done, run, length, base.nextTicket, base.unbound, base.eye, base.position, base.stopLine,
        base.settings, base.routes, base.slot, none⟩
      rw [← Part.hide?_ticket found, record, Hide.clear, Hide.verdictOf_eq fields]
  · refine exec_thenArbiter_unchanged (c := .trailMarkCrossing ticket) rfl (testTrail_not_due found fun due => ?_)
    exact Bool.noConfusion (short.symm.trans ((Part.trailDue_iff hasTrail).mp due).2)
  · refine stopAtClearTest_ends stopping ((Part.anyInPassage_eq_false_iff p).mpr none)
  · exact stopAtClearTest_same (no.imp_right p.anyInPassage_iff.mpr)
end

section
/-! PROOFS. The reads of the article and hide tables (R10, R11, R39 to R41), and the outputs that the records give (R73, R74,
R176, R177). -/

namespace Sys2Proof.Machine

/-! ## Finding a record -/

/-- In a table ascending by code, the first code above a number is the smallest one (R11). -/
theorem find?_above {l : List Plan} {a : Plan} {code : Nat} (ascending : l.Pairwise fun a b => a.code < b.code)
    (member : a ∈ l) (above : code < a.code) (least : ∀ b ∈ l, code < b.code → a.code ≤ b.code) :
    l.find? (fun b => decide (code < b.code)) = some a := by
  obtain ⟨before, after, rfl⟩ := List.append_of_mem member
  refine List.find?_eq_some_iff_append.mpr ⟨decide_eq_true above, before, after, rfl, fun b earlier => ?_⟩
  have smaller : b.code < a.code := (List.pairwise_append.mp ascending).2.2 b earlier a List.mem_cons_self
  have notAbove : ¬code < b.code := fun high =>
    Nat.not_le.mpr smaller (least b (List.mem_append_left _ earlier) high)
  simp [notAbove]

theorem find?_above_eq_none {l : List Plan} {code : Nat} (none : ∀ b ∈ l, b.code ≤ code) :
    l.find? (fun b => decide (code < b.code)) = .none :=
  List.find?_eq_none.mpr fun b member high => Nat.not_le.mpr (of_decide_eq_true high) (none b member)

theorem articlePlan_eq (code : Half) (p : Part) : (if code.toNat = 0 then p.defaultPlan? else p.plan? code.toNat) =
    if code = 0 then p.articles.find? (·.mark) else p.articles.find? (·.code == code.toNat) := by
  have zero : code.toNat = 0 ↔ code = 0 := (half_eq_iff code 0 (by decide)).symm
  simp only [zero]
  rfl

theorem find?_tag {l before after : List Hide} {h : Hide} {tag : Word} (table : l = before ++ h :: after)
    (own : h.tag = tag) (older : ∀ x ∈ before, x.tag ≠ tag) : l.find? (fun x => x.tag == tag) = some h :=
  List.find?_eq_some_iff_append.mpr ⟨beq_iff_eq.mpr own, before, after, table, fun x member => by simp [older x member]⟩

/-! ## The records' bytes -/

theorem PlanFields.bytes_length (f : PlanFields) : f.bytes.length = 15 := rfl

theorem Hide.bytes_eq (h : Hide) {snapshot : List Byte} {low high last : Nat}
    (snapshotEq : snapshot = (match h.snapshot with
      | some f => f.bytes
      | none => List.replicate 15 0))
    (span : match h.coverage with
      | some (a, z) => low = a ∧ high = z
      | none => low = 0 ∧ high = 0)
    (lastEq : last = (match h.verdict, h.abortCause with
      | some v, _ => v.code
      | none, some c => c.code
      | none, none => 0)) :
    h.bytes = u16 h.ticket ++ bytes4 h.tag ++ u16 h.article ++ u8 h.state.code ++
      [flagByte [h.unannounced, h.overlength, h.gapUnsettled],
       flagByte [h.lead.isSome, h.trail.isSome, h.snapshot.isSome, h.coverage.isSome, h.verdict.isSome,
         h.abortCause.isSome]] ++
      bytes4 (h.lead.getD 0) ++ bytes4 (h.trail.getD 0) ++ snapshot ++ u8 low ++ u8 high ++ u16 h.bottomEvents ++
      u16 h.gapExcursions ++ u8 last := by
  have ends : low = (h.coverage.map (·.1)).getD 0 ∧ high = (h.coverage.map (·.2)).getD 0 := by
    revert span
    cases h.coverage with
    | none => exact id
    | some ends => exact id
  rw [ends.1, ends.2, snapshotEq, lastEq]
  rfl

theorem Hide.bytes_length (h : Hide) : h.bytes.length = 41 := by
  unfold Hide.bytes
  simp only [List.length_append]
  split <;> rfl

/-! ## Outputs -/

theorem Part.speedReference_splitting {p : Part} {h : Hide} {f : PlanFields}
    (found : p.hides.find? (fun x => x.state == .splitting) = some h) (fields : h.snapshot = some f) :
    p.speedReference = f.feedSpeed := by
  rw [Part.speedReference, Part.splitting?, found]
  simp only [Option.orElse_some, fields]
  rfl

theorem Part.speedReference_entering {p : Part} {h : Hide} {f : PlanFields} (none : ∀ x ∈ p.hides, x.state ≠ .splitting)
    (found : p.hides.find? (fun x => x.state == .entering) = some h) (fields : h.snapshot = some f) :
    p.speedReference = f.feedSpeed := by
  rw [Part.speedReference, p.splitting?_eq_none.mpr none, Part.oldestEntering?, found]
  simp only [Option.orElse_none, fields]
  rfl

theorem Part.speedReference_idle {p : Part} (none : ∀ x ∈ p.hides, x.state ≠ .splitting ∧ x.state ≠ .entering) :
    p.speedReference = p.settings.idleFeedSpeed := by
  have noEntering : p.oldestEntering? = .none :=
    List.find?_eq_none.mpr fun x member entering => (none x member).2 (beq_iff_eq.mp entering)
  rw [Part.speedReference, p.splitting?_eq_none.mpr fun x member => (none x member).1, noEntering]
  rfl

theorem mem_maskLanes (mask : BitVec 32) (n : LaneNo) : n ∈ maskLanes mask ↔ mask.getLsbD n.val = true := by
  simp [maskLanes, allLanes]

theorem Part.levelHolds_lanes (p : Part) (mask : BitVec 32) (holds : Lane → Bool) :
    ((maskLanes mask).any fun n => holds (p.lane n)) = true ↔
      ∃ n : LaneNo, mask.getLsbD n.val = true ∧ holds (p.lane n) = true := by
  simp only [List.any_eq_true, mem_maskLanes]

theorem Part.conditionTrue_iff (p : Part) (r : Route) : p.conditionTrue r = true ↔
    ∃ l : Level, r.source = .level l ∧ p.levelHolds l r.filter = true := by
  unfold Part.conditionTrue
  split
  · rename_i l source
    simp [source]
  · rename_i e source
    simp [source]

theorem Part.follows_iff (p : Part) (i : Fin 4) (r : Route) :
    (match r.task with
      | .follow lines => r.enabled && lines.getLsbD i.val && p.conditionTrue r
      | _ => false) = true ↔
    ∃ (lines : BitVec 4) (l : Level), r.enabled = true ∧ r.task = .follow lines ∧ lines.getLsbD i.val = true ∧
      r.source = .level l ∧ p.levelHolds l r.filter = true := by
  split
  · rename_i lines task
    simp [task, p.conditionTrue_iff, and_assoc]
  · rename_i other
    exact ⟨nofun, fun ⟨lines, _, _, task, _⟩ => absurd task (other lines)⟩

theorem Part.lineFollowed_iff (p : Part) (i : Fin 4) : p.lineFollowed i = true ↔
    ∃ (k : Fin 16) (lines : BitVec 4) (l : Level), (p.routes[k.val]).enabled = true ∧
      (p.routes[k.val]).task = .follow lines ∧ lines.getLsbD i.val = true ∧ (p.routes[k.val]).source = .level l ∧
      p.levelHolds l (p.routes[k.val]).filter = true := by
  rw [Part.lineFollowed, List.any_eq_true]
  constructor
  · rintro ⟨r, member, follows⟩
    obtain ⟨k, small, rfl⟩ := List.mem_iff_getElem.mp member
    exact ⟨⟨k, by simpa using small⟩, (p.follows_iff i _).mp follows⟩
  · rintro ⟨k, follows⟩
    exact ⟨p.routes[k.val], by simp, (p.follows_iff i _).mpr follows⟩

end Sys2Proof.Machine

open Sys2Proof Sys2Proof.Machine

/-- Settles O21: each read command's record, and the bytes of the two records. -/
theorem tableReadsFindTheirRecords : Obligations.TableReadsFindTheirRecords := by
  refine ⟨fun code s accept => ⟨fun a found => ?_, fun none => ?_, fun ascending => ⟨fun a member above least => ?_,
    fun none => ?_⟩⟩, fun s accept => ⟨fun ticket none => ?_, fun ticket h found => ?_, fun tag none => ?_,
    fun tag before after h table own older => ?_, ?_⟩, fun f => rfl, fun a => ⟨rfl, rfl⟩,
    fun h snapshot low high last snapshotEq span lastEq => ⟨h.bytes_length, h.bytes_eq snapshotEq span lastEq⟩⟩
  · exact exec_command (c := .articleRead code) rfl accept
      (congrArg (fun r => (s.toPart, planAnswer r)) ((articlePlan_eq code s.toPart).trans found))
  · exact exec_command (c := .articleRead code) rfl accept
      (congrArg (fun r => (s.toPart, planAnswer r)) ((articlePlan_eq code s.toPart).trans none))
  · exact exec_command (c := .articleFindNext code) rfl accept
      (congrArg (fun r => (s.toPart, planAnswer r)) (find?_above ascending member above least))
  · exact exec_command (c := .articleFindNext code) rfl accept
      (congrArg (fun r => (s.toPart, planAnswer r)) (find?_above_eq_none none))
  · exact exec_command (c := .hideRead ticket) rfl accept (congrArg (fun r => (s.toPart, hideAnswer r)) none)
  · exact exec_command (c := .hideRead ticket) rfl accept (congrArg (fun r => (s.toPart, hideAnswer r)) found)
  · exact exec_command (c := .hideFind tag) rfl accept (congrArg (fun r => (s.toPart, hideAnswer r))
      (List.find?_eq_none.mpr fun x member own => none x member (beq_iff_eq.mp own)))
  · exact exec_command (c := .hideFind tag) rfl accept
      (congrArg (fun r => (s.toPart, hideAnswer r)) (find?_tag table own older))
  · exact exec_command (c := .hideList) (a := answerOk (hideListBytes s.hides)) rfl accept rfl

/-- Settles O25: each output, from the definition of what it is driven by. -/
theorem feedOutputsFollowTheRecords : Obligations.FeedOutputsFollowTheRecords := by
  intro p
  refine ⟨p.feedEnable_iff, fun h f found fields => Part.speedReference_splitting found fields,
    fun h f none found fields => Part.speedReference_entering none found fields, Part.speedReference_idle, ?_, fun mask =>
    ⟨?_, ?_, ?_⟩, rfl, ?_, beq_iff_eq, fun i => ⟨p.lineFollowed_iff i, fun direct => ?_, fun routed => ?_, fun drive => ?_,
    fun drive => ?_⟩⟩
  · rw [Part.speedReferenceLevel]
    omega
  · simp only [← Lane.inContactSet_iff]
    exact p.levelHolds_lanes mask Lane.inContactSet
  · refine (p.levelHolds_lanes mask fun l => l.seeing && l.contact == .bottomed).trans ?_
    simp only [Bool.and_eq_true, Lane.seeing_iff, beq_iff_eq, and_assoc]
  · simp only [← Lane.seeing_iff]
    exact (p.levelHolds_lanes mask fun l => !l.seeing).trans (by simp)
  · exact (Iff.of_eq (Bool.not_eq_true' _)).trans p.feed.holds.isEmpty_eq_false_iff
  · rw [Part.lineActive, direct]
  · rw [Part.lineActive, routed]
    simp only [Bool.or_eq_true, or_assoc]
  · rw [Part.linePinHigh, drive]
  · rw [Part.linePinHigh, drive]
end

section
/-! PROOFS. Encoder steps (R36, R61 to R63). -/

namespace Sys2Proof.Machine

/-! ## What a forward step leaves -/

/-- From `p` to `q` the levels of the inputs, the feed's count, the settings, the routes and what belongs to the port, the
boards and the gauge have not changed. -/
structure SameAroundEye (p q : Part) : Prop where
  inputHigh : q.eye.inputHigh = p.eye.inputHigh
  encoder : q.encoder = p.encoder
  position : q.feed.position = p.feed.position
  backwardRun : q.feed.backwardRun = p.feed.backwardRun
  stopLine : q.feed.stopLine = p.feed.stopLine
  scanPeriod : q.scanPeriod = p.scanPeriod
  stopLevel : q.pressure.stopLevel = p.pressure.stopLevel
  routes : q.routes = p.routes
  settings : q.settings = p.settings
  slot : q.port.slot = p.port.slot
  acceptIn : q.port.acceptIn = p.port.acceptIn
  attentionMask : q.port.attentionMask = p.port.attentionMask
  boards : q.bus.boards = p.bus.boards
  lastPair : q.gap.lastPair = p.gap.lastPair
  active : q.gap.active = p.gap.active

theorem SameAroundEye.refl (p : Part) : SameAroundEye p p := by constructor <;> rfl

theorem SameAroundEye.trans {p q r : Part} (h : SameAroundEye p q) (k : SameAroundEye q r) : SameAroundEye p r where
  inputHigh := k.inputHigh.trans h.inputHigh
  encoder := k.encoder.trans h.encoder
  position := k.position.trans h.position
  backwardRun := k.backwardRun.trans h.backwardRun
  stopLine := k.stopLine.trans h.stopLine
  scanPeriod := k.scanPeriod.trans h.scanPeriod
  stopLevel := k.stopLevel.trans h.stopLevel
  routes := k.routes.trans h.routes
  settings := k.settings.trans h.settings
  slot := k.slot.trans h.slot
  acceptIn := k.acceptIn.trans h.acceptIn
  attentionMask := k.attentionMask.trans h.attentionMask
  boards := k.boards.trans h.boards
  lastPair := k.lastPair.trans h.lastPair
  active := k.active.trans h.active

theorem SameAroundEye.of_base {p q : Part} (h : SameBase p q) : SameAroundEye p q where
  inputHigh := congrArg (·.inputHigh) h.eye
  encoder := h.encoder
  position := h.position
  backwardRun := h.backwardRun
  stopLine := h.stopLine
  scanPeriod := h.scanPeriod
  stopLevel := h.stopLevel
  routes := h.routes
  settings := h.settings
  slot := h.slot
  acceptIn := h.acceptIn
  attentionMask := h.attentionMask
  boards := h.boards
  lastPair := h.lastPair
  active := h.active

theorem setEyeState_sameAroundEye (e : EyeState) (p : Part) : SameAroundEye p (p.setEyeState e) := by
  constructor <;> rfl

theorem tellUnbound_sameAroundEye (lead : Pos) (p : Part) : SameAroundEye p (tellUnbound lead p) :=
  .of_base ((attend_sameBase p .unboundEdge nofun nofun nofun).trans (raise_sameBase _ _))

theorem confirmLead_sameAroundEye (lead : Pos) (p : Part) : SameAroundEye p (confirmLead lead p) := by
  unfold confirmLead
  split
  · exact tellUnbound_sameAroundEye lead p
  · split
    · exact .of_base (bindHide_sameBase _ lead none p)
    · split
      · exact .trans (by constructor <;> rfl) (.of_base (bindHide_sameBase _ lead none _))
      · exact .trans (by constructor <;> rfl) (tellUnbound_sameAroundEye lead _)

theorem confirmTrail_sameAroundEye (trail : Pos) (p : Part) : SameAroundEye p (confirmTrail trail p) := by
  unfold confirmTrail
  split
  · exact .of_base ((modifyHide_sameBase p _ _).trans (testMarks_sameBase _ _))
  · split
    · constructor <;> rfl
    · exact .refl p
    · exact .refl p

theorem eyeTest_sameAroundEye (p : Part) : SameAroundEye p (eyeTest p) := by
  rw [eyeTest_eq]
  split
  · split
    · exact .trans (setEyeState_sameAroundEye _ p) (confirmLead_sameAroundEye _ _)
    · exact .refl p
  · split
    · exact .trans (setEyeState_sameAroundEye _ p) (confirmTrail_sameAroundEye _ _)
    · exact .refl p
  · split
    · exact setEyeState_sameAroundEye _ p
    · exact .refl p
  · exact .refl p

theorem forwardStep_sameAroundEye (p : Part) : SameAroundEye (advance p) (forwardStep p) :=
  (eyeTest_sameAroundEye _).trans (.of_base ((testAllMarks_sameBase _).trans (forwardLanes_sameBase _)))

theorem State.thenWakes_encoder (s : State) (p : Part) : (s.thenWakes p).encoder = p.encoder := by
  change (thenArbiter _ _).encoder = _
  rw [thenArbiter_eq]

/-! ## A forward step with nothing to test -/

theorem testMarks_idle {p : Part} (idle : ∀ h ∈ p.hides, h.state ≠ .entering ∧ h.state ≠ .splitting) (t : Nat) :
    testMarks t p = p := by
  cases found : p.hide? t with
  | none => simp only [testMarks, testApproach, testKnife, testTrail, testMaximum, found]
  | some h =>
    obtain ⟨notEntering, notSplitting⟩ := idle h (List.mem_of_find?_eq_some found)
    have approach : ¬p.approachDue h = true := by simp [Part.approachDue, notEntering]
    have knife : ¬p.knifeDue h = true := Part.knifeDue_eq_false (.inl notEntering)
    have trail : ¬p.trailDue h = true := by simp [Part.trailDue, notSplitting]
    have maximum : ¬p.maximumDue h = true := by simp [Part.maximumDue, Hide.inPassage, notEntering, notSplitting]
    rw [testMarks, testApproach_not_due found approach, testKnife_not_due found knife, testTrail_not_due found trail,
      testMaximum_not_due found maximum]

theorem testAllMarks_idle {p : Part} (idle : ∀ h ∈ p.hides, h.state ≠ .entering ∧ h.state ≠ .splitting) :
    testAllMarks p = p := List.foldl_fixed' (testMarks_idle idle) _

theorem forwardLane_empty {n : LaneNo} {p : Part} (empty : (p.lane n).contact = .empty) : forwardLane n p = p :=
  if_neg (by simp [Lane.inContact, empty])

theorem forwardLanes_empty {p : Part} (empty : ∀ n : LaneNo, (p.lane n).contact = .empty) : forwardLanes p = p :=
  List.foldl_fixed' (fun n => forwardLane_empty (empty n)) _

theorem eyeTest_waits {p : Part} (state : p.eye.state = .clear ∨ p.eye.state = .body ∨ p.eye.state = .discard none) :
    eyeTest p = p := by
  rw [eyeTest_eq]
  rcases state with state | state | state <;> rw [state]

theorem forwardStep_idle {p : Part} (state : p.eye.state = .clear ∨ p.eye.state = .body ∨ p.eye.state = .discard none)
    (idle : ∀ h ∈ p.hides, h.state ≠ .entering ∧ h.state ≠ .splitting)
    (empty : ∀ n : LaneNo, (p.lane n).contact = .empty) : forwardStep p = advance p := by
  have waits : eyeTest (advance p) = advance p := eyeTest_waits state
  have marks : testAllMarks (advance p) = advance p := testAllMarks_idle idle
  have lanes : forwardLanes (advance p) = advance p := forwardLanes_empty empty
  rw [forwardStep, waits, marks, lanes]

/-! ## Backward steps -/

theorem backwardStep_counts {p : Part} (run : p.feed.backwardRun ≠ 20) :
    backwardStep p = p.setFeed { p.feed with backwardRun := p.feed.backwardRun + 1 } :=
  if_neg fun last => run (Nat.succ.inj last)

theorem backwardStep_reverse {p : Part} (run : p.feed.backwardRun = 20) :
    backwardStep p = (p.setFeed { p.feed with backwardRun := 0 }).putHold .reverse true :=
  if_pos (congrArg Nat.succ run)

end Sys2Proof.Machine

open Sys2Proof Sys2Proof.Machine

/-- Settles O26: the two steps of the encoder pair, and what a forward step can reach. -/
theorem encoderStepsCount : Obligations.EncoderStepsCount := by
  have forward : ∀ s : State, exec .forwardStep s = .next (s.thenWakes (forwardStep (s.toPart.setEncoder s.encoder.forward))) :=
    fun s => (exec_thenArbiter_of_effect (c := .forwardStep) rfl s).trans
      (congrArg (fun q => Host.Outcome.next (s.thenWakes q)) (takeEncoder_forward s.toPart))
  have backward : ∀ s : State, effect .backwardStep s.toPart = backwardStep (s.toPart.setEncoder s.encoder.backward) :=
    fun s => takeEncoder_backward s.toPart
  refine ⟨fun s q eq => ?_, fun ticket p => rfl, fun ticket s => ⟨?_, ?_, ?_, ?_⟩, fun s => ⟨_, forward s, ?_⟩,
    fun s run => ?_, fun s run => ?_, fun levels s => ⟨fun one => ?_, fun none => takeEncoder_of_no_step levels s.toPart none⟩,
    fun s state idle empty => ?_⟩
  · subst eq
    exact forward s
  · exact exec_of_effect (c := .approachPointCrossing ticket) rfl
  · exact exec_thenArbiter_of_effect (c := .knifeLineCrossing ticket) rfl s
  · exact exec_thenArbiter_of_effect (c := .trailMarkCrossing ticket) rfl s
  · exact exec_of_effect (c := .maximumLengthCrossing ticket) rfl
  · have same := forwardStep_sameAroundEye (s.toPart.setEncoder s.encoder.forward)
    simp only [State.thenWakes_port, State.thenWakes_feed, State.thenWakes_gap, State.thenWakes_eye,
      State.thenWakes_settings, State.thenWakes_routes, State.thenWakes_scanPeriod, State.thenWakes_pressure,
      State.thenWakes_boards, State.thenWakes_encoder]
    exact ⟨same.position, same.backwardRun, same.stopLine, same.encoder, same.inputHigh, same.settings, same.routes,
      same.scanPeriod, same.stopLevel, same.slot, same.attentionMask, same.acceptIn, same.boards, same.lastPair, same.active⟩
  · exact exec_of_effect ((backward s).trans (backwardStep_counts run))
  · exact exec_of_effect ((backward s).trans (backwardStep_reverse run))
  · rcases s.encoder.changes_one levels one with rfl | rfl
    · exact .inl ⟨exec_thenArbiter_of_effect (c := .forwardStep) rfl s, rfl⟩
    · exact .inr ⟨exec_of_effect (c := .backwardStep) rfl, rfl⟩
  · have stays : forwardStep (s.toPart.setEncoder s.encoder.forward) = advance (s.toPart.setEncoder s.encoder.forward) :=
      forwardStep_idle state idle empty
    exact exec_thenArbiter_same (c := .forwardStep) rfl ((takeEncoder_forward s.toPart).trans stays) rfl rfl
end

section
/-! PROOFS. The recompute of the lane pressures (R144 to R146, R156) and the arbiter of the drive bus (R156, R158, R164). -/

namespace Sys2Proof.Machine

/-! ## The arbiter -/

theorem Part.waitingDriven_iff (p : Part) (n : LaneNo) : p.waitingDriven n = true ↔
    (p.drive n).state = .waiting ∧ (p.lane n).service ≠ .faulted .drive ∧ (p.lane n).service ≠ .faulted .board := by
  simp only [Part.waitingDriven, Lane.driven, Bool.and_eq_true, beq_iff_eq, Bool.not_eq_true', Bool.or_eq_false_iff,
    beq_eq_false_iff_ne]

theorem BoardState.isFaulted_eq_false_iff (b : BoardState) : b.isFaulted = false ↔ ∀ k, b ≠ .faulted k := by
  cases b <;> simp [BoardState.isFaulted]

theorem mem_lanesOfBoard (b : BoardNo) (n : LaneNo) : n ∈ lanesOfBoard b ↔ n.val / 8 = b.val := by
  rw [lanesOfBoard, List.mem_map]
  constructor
  · rintro ⟨i, _, rfl⟩
    change (8 * b.val + i.val) / 8 = b.val
    omega
  · intro board
    refine ⟨⟨n.val % 8, Nat.mod_lt _ (by decide)⟩, List.mem_finRange _, Fin.ext ?_⟩
    change 8 * b.val + n.val % 8 = n.val
    omega

theorem Part.hasWork_iff (p : Part) (b : BoardNo) : p.hasWork b = true ↔
    (∀ k, p.bus.boards[b.val] ≠ .faulted k) ∧ ∃ n : LaneNo, n.val / 8 = b.val ∧
      (p.drive n).state = .waiting ∧ (p.lane n).service ≠ .faulted .drive ∧ (p.lane n).service ≠ .faulted .board := by
  simp only [Part.hasWork, Bool.and_eq_true, Bool.not_eq_true', BoardState.isFaulted_eq_false_iff, List.any_eq_true,
    mem_lanesOfBoard, p.waitingDriven_iff]

theorem Part.hasWork_eq {p : Part} {work : BoardNo → Bool} (has : ∀ b, work b = true ↔
    (∀ k, p.bus.boards[b.val] ≠ .faulted k) ∧ ∃ n : LaneNo, n.val / 8 = b.val ∧
      (p.drive n).state = .waiting ∧ (p.lane n).service ≠ .faulted .drive ∧ (p.lane n).service ≠ .faulted .board) :
    p.hasWork = work :=
  funext fun b => Bool.eq_iff_iff.mpr ((p.hasWork_iff b).trans (has b).symm)

theorem arbiterTest_selects {p : Part} {b : BoardNo} (idle : p.bus.master = .idle)
    (first : (roundRobin p.bus.pointer).find? p.hasWork = some b) :
    arbiterTest p = p.setBus (p.bus.select b p.settings.selectTimeout) := by
  rw [arbiterTest, if_pos idle, first]

theorem arbiterTest_without_work {p : Part} (none : ∀ b, p.hasWork b = false) : arbiterTest p = p := by
  have first : (roundRobin p.bus.pointer).find? p.hasWork = .none :=
    List.find?_eq_none.mpr fun b _ => by rw [none b]; nofun
  rw [arbiterTest, first]
  exact ite_self p

theorem State.thenWakes_of_wakes (s : State) (p : Part)
    (wakes : ∃ n : LaneNo, p.waitingDriven n = true ∧ ¬s.toPart.waitingDriven n = true) :
    s.thenWakes p = s.withPart (arbiterTest p) := by
  obtain ⟨n, waits, before⟩ := wakes
  refine congrArg s.withPart (if_pos (List.any_eq_true.mpr ⟨n, List.mem_finRange n, ?_⟩))
  simp [waits, before]

theorem State.thenWakes_of_waiting (s : State) (p : Part)
    (waiting : ∀ n : LaneNo, p.waitingDriven n = true → s.toPart.waitingDriven n = true) : s.thenWakes p = s.withPart p :=
  congrArg s.withPart (thenArbiter_of_waiting (fun _ => p) s.toPart waiting)

end Sys2Proof.Machine

open Sys2Proof Sys2Proof.Machine

/-- Settles O49: the two rules of `recompute`. -/
theorem recomputeHandsChangesOn : Obligations.RecomputeHandsChangesOn := fun p =>
  ⟨rfl, fun n => ⟨recompute_wanted p n, recompute_drive p n⟩⟩

/-- Settles O50: the arbiter test by the master and the boards with work, and the test at the end of a step. -/
theorem arbiterSelectsInTurn : Obligations.ArbiterSelectsInTurn := by
  refine ⟨fun s => ⟨fun busy => exec_unchanged (c := .arbiterTest) (arbiterTest_of_busy s.toPart busy), fun work has idle =>
    ⟨fun none => ?_, fun b first => ?_⟩, fun releasing => ?_, fun other => ?_⟩, fun s p waits isWaiting => ?_⟩
  · refine exec_unchanged (c := .arbiterTest) (arbiterTest_without_work fun b => ?_)
    rw [Part.hasWork_eq has, none b]
  · rw [← Part.hasWork_eq has] at first
    exact exec_of_effect (c := .arbiterTest) (arbiterTest_selects idle first)
  · rw [exec_of_effect (c := .releaseIntervalExpiry) (s := s) (if_pos releasing), exec_eq .arbiterTest]
    rfl
  · exact exec_unchanged (c := .releaseIntervalExpiry) (if_neg other)
  · simp only [isWaiting, ← Part.waitingDriven_iff]
    refine ⟨fun wakes => ?_, s.thenWakes_of_waiting p⟩
    rw [s.thenWakes_of_wakes p wakes, exec_eq .arbiterTest]
    rfl
end

section
/-! PROOFS. The LANE and TUNE commands (R99, R111, R113 to R117, R122, R134, R136, R157). -/

namespace Sys2Proof.Machine

/-! ## A command on one lane -/

theorem onLane_of_lane {lane : Byte} {n : LaneNo} (number : lane.toNat = n.val) (body : LaneNo → Part → Part × Answer)
    (p : Part) : onLane lane body p = body n p := by
  have named : laneOperand lane = some n := by
    rw [laneOperand, dif_pos (number ▸ n.isLt)]
    exact congrArg some (Fin.ext number)
  rw [onLane, named]

theorem onLane_range {lane : Byte} (out : 32 ≤ lane.toNat) (body : LaneNo → Part → Part × Answer) (p : Part) :
    onLane lane body p = (p, refusal .range) := by
  rw [onLane, laneOperand, dif_neg (Nat.not_lt.mpr out)]

/-! ## PARK, UNPARK, RECOVER -/

section
variable {n : LaneNo} {p : Part}

theorem parkLane_faulted (faulted : ∃ k, (p.lane n).service = .faulted k) : parkLane n p = (p, refusal .state) := by
  obtain ⟨k, service⟩ := faulted
  rw [parkLane, service]

theorem parkLane_busy (unfaulted : ∀ k, (p.lane n).service ≠ .faulted k) (tuning : (p.lane n).tune = .tuning) :
    parkLane n p = (p, refusal .busy) := by
  unfold parkLane
  split
  · rename_i k service
    exact absurd service (unfaulted k)
  · exact if_pos tuning
  · exact if_pos tuning

theorem parkLane_parked (parked : (p.lane n).service = .parked) (free : (p.lane n).tune ≠ .tuning) :
    parkLane n p = (p, answerOk []) := by
  rw [parkLane, parked]
  exact if_neg free

theorem parkLane_inService (service : (p.lane n).service = .inService) (free : (p.lane n).tune ≠ .tuning) : parkLane n p =
    (recompute (p.setLane n { p.lane n with
      service := .parked, contact := .empty, enterCount := 0, exitCount := 0, distance := 0, railCount := 0 }),
      answerOk []) := by
  rw [parkLane, service]
  exact if_neg free

theorem unparkLane_parked (parked : (p.lane n).service = .parked) : unparkLane n p =
    (recompute (p.setLane n { p.lane n with
      service := .inService, contact := .empty, enterCount := 0, exitCount := 0, distance := 0 }), answerOk []) := by
  rw [unparkLane, parked]
  rfl

theorem unparkLane_refused (other : (p.lane n).service ≠ .parked) : unparkLane n p = (p, refusal .state) := by
  unfold unparkLane
  split
  · rename_i parked
    exact absurd parked other
  · rfl

theorem recoverLane_sensor (service : (p.lane n).service = .faulted .sensor) :
    recoverLane n p = (recompute (p.setLane n { p.lane n with
      service := .inService, tune := .untuned, contact := .empty, enterCount := 0, exitCount := 0, distance := 0
      railCount := 0 }), answerOk []) := by
  rw [recoverLane, service]
  rfl

theorem recoverLane_drive (service : (p.lane n).service = .faulted .drive) :
    recoverLane n p = ((recompute (p.setLane n { p.lane n with
      service := .inService, tune := .untuned, contact := .empty, enterCount := 0, exitCount := 0, distance := 0
      railCount := 0 })).setDrive n ⟨.waiting, none, 0⟩, answerOk []) := by
  rw [recoverLane, service]
  rfl

theorem recoverLane_refused (noSensor : (p.lane n).service ≠ .faulted .sensor)
    (noDrive : (p.lane n).service ≠ .faulted .drive) : recoverLane n p = (p, refusal .state) := by
  unfold recoverLane
  split
  · rename_i service
    exact absurd service noSensor
  · rename_i service
    exact absurd service noDrive
  · rfl
  · rfl
  · rfl

end

/-! ## LANE WRITE -/

theorem laneWrite_range {o : LaneSettingsOperands} {c : CalibrationOperands}
    (out : laneSettingsOperand o = none ∨ calibrationOperand c = none) (n : LaneNo) (p : Part) :
    laneWrite o c n p = (p, refusal .range) := by
  unfold laneWrite
  split
  · rename_i settings calibration
    rcases out with none | none
    · rw [none] at settings
      cases settings
    · rw [none] at calibration
      cases calibration
  · rfl

theorem laneWrite_busy {o : LaneSettingsOperands} {c : CalibrationOperands} {t : LaneSettings} {n : LaneNo} {p : Part}
    (settings : laneSettingsOperand o = some t) (calibration : (calibrationOperand c).isSome = true)
    (tuning : (p.lane n).tune = .tuning) : laneWrite o c n p = (p, refusal .busy) := by
  obtain ⟨k, given⟩ := Option.isSome_iff_exists.mp calibration
  rw [laneWrite, settings, given]
  exact if_pos tuning

theorem laneWrite_taken {o : LaneSettingsOperands} {c : CalibrationOperands} {t : LaneSettings}
    {k : Option Calibration} {n : LaneNo} {p : Part} (settings : laneSettingsOperand o = some t)
    (calibration : calibrationOperand c = some k) (free : (p.lane n).tune ≠ .tuning) :
    laneWrite o c n p = (writeLane n t k p, answerOk []) := by
  rw [laneWrite, settings, calibration]
  exact if_neg free

/-! ## Reseeding -/

theorem Lane.reseedDue_iff (l : Lane) : l.reseedDue = true ↔
    l.contact ≠ .empty ∧ l.settings.contactLimit ≠ 0 ∧ l.settings.contactLimit ≤ l.distance := by
  simp only [Lane.reseedDue, Lane.inContact, Bool.and_eq_true, Bool.not_eq_true', beq_eq_false_iff_ne, decide_eq_true_eq,
    and_assoc, ne_eq]

theorem reseedTest_due {n : LaneNo} {p : Part} (contact : (p.lane n).contact ≠ .empty)
    (limit : (p.lane n).settings.contactLimit ≠ 0) (covered : (p.lane n).settings.contactLimit ≤ (p.lane n).distance) :
    reseedTest n p = raise (.laneReseed n) (recompute (p.setLane n { p.lane n with
      reference := (p.lane n).lastConditioned, contact := .empty, enterCount := 0, exitCount := 0, distance := 0 })) :=
  if_pos ((p.lane n).reseedDue_iff.mpr ⟨contact, limit, covered⟩)

theorem reseedTest_not_due {n : LaneNo} {p : Part} (no : (p.lane n).contact = .empty ∨
    (p.lane n).settings.contactLimit = 0 ∨ (p.lane n).distance < (p.lane n).settings.contactLimit) :
    reseedTest n p = p := by
  refine if_neg fun due => ?_
  obtain ⟨contact, limit, covered⟩ := (p.lane n).reseedDue_iff.mp due
  rcases no with empty | zero | short
  · exact contact empty
  · exact limit zero
  · exact Nat.not_lt.mpr covered short

theorem Part.setLane_setLane (p : Part) (n : LaneNo) (l k : Lane) : (p.setLane n l).setLane n k = p.setLane n k := by
  simp [Part.setLane, Part.setLanes]

theorem Part.lane_setLane_same (p : Part) (n : LaneNo) (l : Lane) : (p.setLane n l).lane n = l := by
  rw [Part.lane_setLane, if_pos rfl]

/-! ## TUNE WRITE -/

theorem tuneModeOperand_eq_some_iff (b : Byte) (mode : TuneMode) : tuneModeOperand b = some mode ↔ b.toNat = mode.code := by
  unfold tuneModeOperand
  split
  · rename_i number
    rw [number]
    cases mode <;> simp [TuneMode.code]
  · rename_i number
    rw [number]
    cases mode <;> simp [TuneMode.code]
  · rename_i number
    rw [number]
    cases mode <;> simp [TuneMode.code]
  · rename_i notFull notOffset notOff
    cases mode
    · simpa [TuneMode.code] using notFull
    · simpa [TuneMode.code] using notOffset
    · simpa [TuneMode.code] using notOff

theorem tuneSettingsOperand_eq {o : TuneOperands} {mode : TuneMode} (named : o.mode.toNat = mode.code)
    (bit : o.automatic.toNat ≤ 1) : tuneSettingsOperand o =
      if (256 ≤ o.base.toNat ∧ o.base.toNat ≤ 3072) ∧ (64 ≤ o.target.toNat ∧ o.target.toNat ≤ 1024) ∧
        (5 ≤ o.band.toNat ∧ o.band.toNat ≤ 50) ∧ 1 ≤ o.holdoff.toNat
      then some ⟨mode, o.base.toNat, o.target.toNat, o.band.toNat, o.automatic == 1, o.holdoff.toNat⟩ else none := by
  have automatic : (!(o.automatic == 0)) = (o.automatic == 1) := by
    rcases byte_eq_zero_or_one bit with zero | one
    · rw [zero]; rfl
    · rw [one]; rfl
  have byte : o.holdoff.toNat ≤ 255 := Nat.le_of_lt_succ o.holdoff.isLt
  simp only [tuneSettingsOperand, (tuneModeOperand_eq_some_iff _ _).mpr named, yesNo_of_le bit, automatic,
    Bool.and_eq_true, inRange_eq_true_iff, and_assoc, byte, and_true]

theorem tuneSettingsOperand_eq_none {o : TuneOperands} (out : 2 < o.mode.toNat ∨ o.base.toNat < 256 ∨
    3072 < o.base.toNat ∨ o.target.toNat < 64 ∨ 1024 < o.target.toNat ∨ o.band.toNat < 5 ∨ 50 < o.band.toNat ∨
    1 < o.automatic.toNat ∨ o.holdoff.toNat = 0) : tuneSettingsOperand o = none := by
  cases named : tuneModeOperand o.mode with
  | none => simp only [tuneSettingsOperand, named]
  | some mode =>
    have number := (tuneModeOperand_eq_some_iff _ _).mp named
    by_cases bit : o.automatic.toNat ≤ 1
    · rw [tuneSettingsOperand_eq number bit]
      refine if_neg fun fits => ?_
      have small : mode.code ≤ 2 := by cases mode <;> decide
      omega
    · simp only [tuneSettingsOperand, named, (yesNo_eq_none_iff _).mpr (Nat.lt_of_not_le bit)]

theorem tuneWrite_range {o : TuneOperands} (out : tuneSettingsOperand o = none) (n : LaneNo) (p : Part) :
    tuneWrite o n p = (p, refusal .range) := by
  rw [tuneWrite, out]

theorem tuneWrite_busy {o : TuneOperands} {t : TuneSettings} {n : LaneNo} {p : Part} (accepted : tuneSettingsOperand o = some t)
    (tuning : (p.lane n).tune = .tuning) : tuneWrite o n p = (p, refusal .busy) := by
  rw [tuneWrite, accepted]
  exact if_pos tuning

theorem tuneWrite_taken {o : TuneOperands} {t : TuneSettings} {n : LaneNo} {p : Part}
    (accepted : tuneSettingsOperand o = some t) (free : (p.lane n).tune ≠ .tuning) :
    tuneWrite o n p = (p.setLaneTuning n ((p.laneTuning n).write t), answerOk []) := by
  rw [tuneWrite, accepted]
  exact if_neg free

theorem LaneTuning.write_eq (x : LaneTuning) (t : TuneSettings) {kept : Bool}
    (keeps : kept = (!(t.mode == .off) && t.automatic)) :
    x.write t = ⟨t, kept && x.requested, if kept = true then x.holdoff else none⟩ := by
  subst keeps
  unfold LaneTuning.write
  cases off : t.mode == .off <;> cases automatic : t.automatic <;> rfl

end Sys2Proof.Machine

open Sys2Proof Sys2Proof.Machine

/-- Settles O39: the three commands by the lane's number and service state. -/
theorem laneServiceCommandsDecide : Obligations.LaneServiceCommandsDecide := by
  intro lane s accept
  refine ⟨fun out => ⟨?_, ?_, ?_⟩, fun n number => ⟨fun faulted => ?_, fun unfaulted tuning => ?_, fun parked free => ?_,
    fun service free => ?_, fun parked => ?_, fun other => ?_, fun noSensor noDrive => ?_,
    fun l eq => ⟨fun service => ?_, fun service => ?_⟩⟩⟩
  · exact exec_thenArbiter_refused (c := .lanePark lane) rfl accept (onLane_range out _ _)
  · exact exec_thenArbiter_refused (c := .laneUnpark lane) rfl accept (onLane_range out _ _)
  · exact exec_thenArbiter_refused (c := .laneRecover lane) rfl accept (onLane_range out _ _)
  · exact exec_thenArbiter_refused (c := .lanePark lane) rfl accept ((onLane_of_lane number _ _).trans (parkLane_faulted faulted))
  · exact exec_thenArbiter_refused (c := .lanePark lane) rfl accept
      ((onLane_of_lane number _ _).trans (parkLane_busy unfaulted tuning))
  · exact exec_thenArbiter_command_same (c := .lanePark lane) rfl accept
      ((onLane_of_lane number _ _).trans (parkLane_parked parked free)) rfl rfl
  · exact exec_thenArbiter_command (c := .lanePark lane) (a := answerOk []) rfl accept
      ((onLane_of_lane number _ _).trans (parkLane_inService service free))
  · exact exec_thenArbiter_command (c := .laneUnpark lane) (a := answerOk []) rfl accept
      ((onLane_of_lane number _ _).trans (unparkLane_parked parked))
  · exact exec_thenArbiter_refused (c := .laneUnpark lane) rfl accept
      ((onLane_of_lane number _ _).trans (unparkLane_refused other))
  · exact exec_thenArbiter_refused (c := .laneRecover lane) rfl accept
      ((onLane_of_lane number _ _).trans (recoverLane_refused noSensor noDrive))
  · subst eq
    exact exec_thenArbiter_command (c := .laneRecover lane) (a := answerOk []) rfl accept
      ((onLane_of_lane number _ _).trans (recoverLane_sensor service))
  · subst eq
    exact exec_thenArbiter_command (c := .laneRecover lane) (a := answerOk []) rfl accept
      ((onLane_of_lane number _ _).trans (recoverLane_drive service))

/-- Settles O40: the two writes by their operands and the lane's tune state. -/
theorem laneAndTuneWritesDecide : Obligations.LaneAndTuneWritesDecide := by
  refine ⟨fun lane o c s accept => ⟨fun out => ?_, fun n t number settings => ⟨fun calibration tuning => ?_,
    fun absent free => ⟨fun no => ?_, fun contact limit covered => ?_⟩, fun k given free => ?_⟩⟩,
    fun lane o s accept => ⟨fun out => ?_, fun n mode number named baseLow baseHigh targetLow targetHigh bandLow bandHigh bit
      holdoff => ⟨fun tuning => ?_, fun free kept keeps => ?_⟩⟩⟩
  · refine exec_thenArbiter_refused (c := .laneWrite lane o c) rfl accept ?_
    rcases lt_or_ge lane.toNat 32 with small | large
    · rw [onLane_of_lane (n := ⟨lane.toNat, small⟩) rfl]
      exact laneWrite_range (out.resolve_left (Nat.not_le.mpr small)) _ _
    · exact onLane_range large _ _
  · exact exec_thenArbiter_refused (c := .laneWrite lane o c) rfl accept
      ((onLane_of_lane number _ _).trans (laneWrite_busy settings calibration tuning))
  · have body := (onLane_of_lane number (laneWrite o c) s.toPart).trans (laneWrite_taken settings absent free)
    have stays : writeLane n t none s.toPart = s.setLane n { s.lane n with settings := t } :=
      reseedTest_not_due (by rwa [Part.lane_setLane_same])
    rw [stays] at body
    rw [exec_thenArbiter_command (c := .laneWrite lane o c) rfl accept body, State.thenWakes_of_waiting]
    · rfl
    · intro m
      simp only [Part.waitingDriven_iff]
      change (s.drive m).state = .waiting ∧ ((s.setLane n _).lane m).service ≠ _ ∧ ((s.setLane n _).lane m).service ≠ _ → _
      rw [Part.lane_setLane]
      by_cases same : n = m
      · subst same
        rw [if_pos rfl]
        exact id
      · rw [if_neg same]
        exact id
  · have body := (onLane_of_lane number (laneWrite o c) s.toPart).trans (laneWrite_taken settings absent free)
    have reseeds := reseedTest_due (n := n) (p := s.toPart.setLane n { s.lane n with settings := t })
    rw [Part.lane_setLane_same] at reseeds
    rw [exec_thenArbiter_command (c := .laneWrite lane o c) rfl accept body, writeLane, reseeds contact limit covered,
      Part.setLane_setLane]
    rfl
  · exact exec_thenArbiter_command (c := .laneWrite lane o c) (a := answerOk []) rfl accept
      ((onLane_of_lane number _ _).trans (laneWrite_taken settings given free))
  · refine exec_command (c := .tuneWrite lane o) (a := refusal .range) rfl accept ?_
    rcases out with large | out
    · exact onLane_range large _ _
    · rcases lt_or_ge lane.toNat 32 with small | large
      · rw [onLane_of_lane (n := ⟨lane.toNat, small⟩) rfl]
        exact tuneWrite_range (tuneSettingsOperand_eq_none out) _ _
      · exact onLane_range large _ _
  · have accepted := (tuneSettingsOperand_eq named bit).trans
      (if_pos ⟨⟨baseLow, baseHigh⟩, ⟨targetLow, targetHigh⟩, ⟨bandLow, bandHigh⟩, holdoff⟩)
    exact exec_command (c := .tuneWrite lane o) (a := refusal .busy) rfl accept
      ((onLane_of_lane number _ _).trans (tuneWrite_busy accepted tuning))
  · have accepted := (tuneSettingsOperand_eq named bit).trans
      (if_pos ⟨⟨baseLow, baseHigh⟩, ⟨targetLow, targetHigh⟩, ⟨bandLow, bandHigh⟩, holdoff⟩)
    rw [exec_command (c := .tuneWrite lane o) (a := answerOk []) rfl accept
      ((onLane_of_lane number _ _).trans (tuneWrite_taken accepted free)), LaneTuning.write_eq _ _ keeps]
    rfl
end

section
/-! PROOFS. The contact machine of a lane (R105 to R107). -/

namespace Sys2Proof.Machine

/-! ## Counters -/

theorem counted_decide (P : Prop) [Decidable P] (k : Nat) : counted (decide P) k = if P then k + 1 else 0 := by
  simp [counted]

/-- A counter that has reached its debounce by this reading is one that counts. -/
theorem counted_reaches (counts : Bool) (debounce k : Nat) : (counts && decide (debounce ≤ counted counts k)) =
    decide (0 < counted counts k ∧ debounce ≤ counted counts k) := by
  cases counts <;> simp [counted]

/-! ## The three contact states -/

theorem Lane.sense_of_empty {l : Lane} (empty : l.contact = .empty) : l.sense = l.senseEmpty := by
  rw [Lane.sense, empty]

theorem Lane.sense_of_contact {l : Lane} (contact : l.contact = .contact) : l.sense = l.senseContact := by
  rw [Lane.sense, contact]

theorem Lane.sense_of_bottomed {l : Lane} (bottomed : l.contact = .bottomed) : l.sense = l.senseBottomed := by
  rw [Lane.sense, bottomed]

theorem Lane.sense_empty_below {l : Lane} (empty : l.contact = .empty) (below : l.delta < (l.settings.contactThreshold : Int)) :
    l.sense = ({ l with enterCount := 0 }, none) := by
  have stays : l.atContactThreshold = false := decide_eq_false (not_le.mpr below)
  rw [Lane.sense_of_empty empty]
  simp only [Lane.senseEmpty, stays, counted, Bool.false_and, Bool.false_eq_true, if_false]

theorem Lane.sense_empty_counts {l : Lane} (empty : l.contact = .empty) (above : (l.settings.contactThreshold : Int) ≤ l.delta) :
    l.sense = if l.settings.enterDebounce ≤ l.enterCount + 1
      then ({ l with contact := .contact, enterCount := 0, exitCount := 0, distance := 0 }, some .contactOn)
      else ({ l with enterCount := l.enterCount + 1 }, none) := by
  have counts : l.atContactThreshold = true := decide_eq_true above
  rw [Lane.sense_of_empty empty]
  simp only [Lane.senseEmpty, counts, counted, if_true, Bool.true_and, decide_eq_true_eq]
  rfl

theorem Lane.sense_contact {l : Lane} {enter exit : Nat} (contact : l.contact = .contact)
    (enters : enter = if l.settings.bottomLimit ≤ l.lastConditioned then l.enterCount + 1 else 0)
    (exits : exit = if l.delta < (l.settings.contactThreshold : Int) - (l.settings.hysteresis : Int)
      then l.exitCount + 1 else 0) :
    l.sense = if 0 < exit ∧ l.settings.exitDebounce ≤ exit
      then ({ l with contact := .empty, enterCount := 0, exitCount := 0, distance := 0 }, some .contactOff)
      else if 0 < enter ∧ l.settings.enterDebounce ≤ enter
        then ({ l with contact := .bottomed, enterCount := 0, exitCount := 0 }, some .bottomOn)
        else ({ l with enterCount := enter, exitCount := exit }, none) := by
  have enterCount : counted l.atBottomLimit l.enterCount = enter := (counted_decide _ _).trans enters.symm
  have exitCount : counted l.belowContactExit l.exitCount = exit := (counted_decide _ _).trans exits.symm
  rw [Lane.sense_of_contact contact]
  have enterReaches := counted_reaches l.atBottomLimit l.settings.enterDebounce l.enterCount
  have exitReaches := counted_reaches l.belowContactExit l.settings.exitDebounce l.exitCount
  rw [enterCount] at enterReaches
  rw [exitCount] at exitReaches
  simp only [Lane.senseContact, enterCount, exitCount, enterReaches, exitReaches, decide_eq_true_eq]
  rfl

theorem Lane.sense_bottomed {l : Lane} {exit : Nat} (bottomed : l.contact = .bottomed)
    (exits : exit = if (l.lastConditioned : Int) < (l.settings.bottomLimit : Int) - (l.settings.hysteresis : Int)
      then l.exitCount + 1 else 0) :
    l.sense = if 0 < exit ∧ l.settings.exitDebounce ≤ exit
      then if l.delta < (l.settings.contactThreshold : Int) - (l.settings.hysteresis : Int)
        then ({ l with contact := .empty, enterCount := 0, exitCount := 0, distance := 0 }, some .contactOff)
        else ({ l with contact := .contact, enterCount := 0, exitCount := 0 }, some .bottomOff)
      else ({ l with exitCount := exit }, none) := by
  have exitCount : counted l.belowBottomExit l.exitCount = exit := (counted_decide _ _).trans exits.symm
  rw [Lane.sense_of_bottomed bottomed]
  have exitReaches := counted_reaches l.belowBottomExit l.settings.exitDebounce l.exitCount
  rw [exitCount] at exitReaches
  simp only [Lane.senseBottomed, exitCount, exitReaches, decide_eq_true_eq, Lane.belowContactExit]
  rfl

end Sys2Proof.Machine

open Sys2Proof Sys2Proof.Machine

/-- Settles O42: `Lane.sense` by the contact state, its counters and its debounces. -/
theorem contactMachineCounts : Obligations.ContactMachineCounts := by
  intro l delta eq
  obtain rfl : delta = l.delta := eq
  refine ⟨fun empty => ⟨Lane.sense_empty_below empty, fun above short => ?_, fun above reached => ?_⟩,
    fun contact enter exit enters exits => ⟨fun left reached => ?_, fun stays left reached => ?_, fun stays short => ?_⟩,
    fun bottomed exit exits => ⟨fun stays => ?_, fun left reached => ⟨fun below => ?_, fun above => ?_⟩⟩⟩
  · rw [Lane.sense_empty_counts empty above, if_neg (by omega)]
  · rw [Lane.sense_empty_counts empty above, if_pos reached]
  · rw [Lane.sense_contact contact enters exits, if_pos ⟨left, reached⟩]
  · rw [Lane.sense_contact contact enters exits, if_neg (by omega), if_pos ⟨left, reached⟩]
  · rw [Lane.sense_contact contact enters exits, if_neg (by omega), if_neg (by omega)]
  · rw [Lane.sense_bottomed bottomed exits, if_neg (by omega)]
  · rw [Lane.sense_bottomed bottomed exits, if_pos ⟨left, reached⟩, if_pos below]
  · rw [Lane.sense_bottomed bottomed exits, if_pos ⟨left, reached⟩, if_neg (by omega)]
end

section
/-! PROOFS. The reference of a lane (R62, R109 to R112, R134): global halt, the filter, drift requests and reseeding. -/

namespace Sys2Proof.Machine

/-! ## The step of the filter -/

/-- A difference divided by a power of 2 toward zero, at least 1 away from zero. -/
theorem tdiv_step_nat (d b : Nat) (positive : 0 < d) :
    (if (d : Int).tdiv (2 ^ b) = 0 then (d : Int).sign else (d : Int).tdiv (2 ^ b)) = (max 1 (d / 2 ^ b) : Nat) := by
  have quotient : (d : Int).tdiv (2 ^ b) = ((d / 2 ^ b : Nat) : Int) := by
    rw [Int.ofNat_tdiv, Nat.cast_pow]
    rfl
  rw [quotient, Int.sign_natCast_of_ne_zero positive.ne']
  generalize d / 2 ^ b = q
  split <;> omega

theorem tdiv_step_neg (d b : Nat) (positive : 0 < d) :
    (if (-(d : Int)).tdiv (2 ^ b) = 0 then (-(d : Int)).sign else (-(d : Int)).tdiv (2 ^ b)) =
      -((max 1 (d / 2 ^ b) : Nat) : Int) := by
  rw [← tdiv_step_nat d b positive, Int.neg_tdiv, Int.sign_neg]
  simp only [Int.neg_eq_zero]
  split <;> rfl

theorem Lane.filterStep_below {l : Lane} (below : l.delta < 0) :
    l.filterStep = -((max 1 (l.delta.natAbs / 2 ^ l.settings.fastBeta) : Nat) : Int) := by
  obtain ⟨d, same⟩ := Int.eq_ofNat_of_zero_le (a := -l.delta) (by omega)
  have negative : l.delta = -(d : Int) := by omega
  rw [Lane.filterStep, if_pos below, negative, Int.natAbs_neg, Int.natAbs_natCast]
  exact tdiv_step_neg d _ (by omega)

theorem Lane.filterStep_above {l : Lane} (above : 0 < l.delta) :
    l.filterStep = ((max 1 (l.delta.natAbs / 2 ^ l.settings.referenceBeta) : Nat) : Int) := by
  obtain ⟨d, positive⟩ := Int.eq_ofNat_of_zero_le above.le
  rw [Lane.filterStep, if_neg (not_lt.mpr above.le), positive, Int.natAbs_natCast]
  exact tdiv_step_nat d _ (by omega)

theorem Lane.filterStep_level {l : Lane} (level : l.delta = 0) : l.filterStep = 0 := by
  simp [Lane.filterStep, level]

/-- The reference after a step, by the sign of the difference (R109). -/
theorem Lane.filter_eq {l : Lane} {magnitude reference : Nat}
    (magnitudeEq : magnitude = l.delta.natAbs / 2 ^ (if l.delta < 0 then l.settings.fastBeta else l.settings.referenceBeta))
    (referenceEq : reference = if l.delta < 0 then l.reference - max 1 magnitude
      else if 0 < l.delta then min 4095 (l.reference + max 1 magnitude) else l.reference)
    (fits : l.reference ≤ 4095) : l.filter = { l with reference := reference } := by
  have stepped : min ((l.reference : Int) + l.filterStep).toNat 4095 = reference := by
    rcases lt_trichotomy l.delta 0 with below | level | above
    · rw [if_pos below] at magnitudeEq referenceEq
      rw [Lane.filterStep_below below, ← magnitudeEq, referenceEq]
      omega
    · rw [if_neg (by omega), if_neg (by omega)] at referenceEq
      rw [Lane.filterStep_level level, referenceEq]
      omega
    · rw [if_neg (by omega)] at magnitudeEq
      rw [if_neg (by omega), if_pos above] at referenceEq
      rw [Lane.filterStep_above above, ← magnitudeEq, referenceEq]
      omega
  exact congrArg (fun x => { l with reference := x }) stepped

/-! ## The filter at the part -/

theorem Part.halted_iff (p : Part) (n : LaneNo) : p.halted n = true ↔ (p.lane n).settings.haltEnable = true ∧
    ∃ m : LaneNo, (p.lane m).seeing = true ∧ (p.lane m).contact ≠ .empty ∧ (p.lane m).settings.haltEnable = true := by
  simp only [Part.halted, Part.globalHalt, Bool.and_eq_true, List.any_eq_true, allLanes, List.mem_finRange, true_and,
    Lane.inContactSet, Lane.inContact, Bool.not_eq_true', beq_eq_false_iff_ne, and_assoc, ne_eq]

theorem filterReference_same {n : LaneNo} {p : Part}
    (no : ((p.lane n).settings.contactThreshold : Int) ≤ (p.lane n).delta ∨ p.halted n = true) :
    filterReference n p = p := by
  refine if_pos ?_
  rwa [Bool.or_eq_true, Lane.atContactThreshold, decide_eq_true_eq]

theorem filterReference_filters {n : LaneNo} {p : Part}
    (below : (p.lane n).delta < ((p.lane n).settings.contactThreshold : Int)) (free : p.halted n = false) :
    filterReference n p = if (p.laneTuning n).settings.inWindow (p.lane n).filter.reference = true
      then p.setLane n (p.lane n).filter else driftRequest n (p.setLane n (p.lane n).filter) := by
  have acts : ¬((p.lane n).atContactThreshold || p.halted n) = true := by
    rw [Bool.or_eq_true, Lane.atContactThreshold, decide_eq_true_eq, free]
    rintro (above | halted)
    · exact absurd below (not_lt.mpr above)
    · cases halted
  rw [filterReference, if_neg acts]
  dsimp only
  rw [Part.lane_setLane_same]
  rfl

theorem TuneSettings.inWindow_iff (t : TuneSettings) (x : Nat) : t.inWindow x = true ↔
    t.target - t.target * t.band / 100 ≤ x ∧ x ≤ t.target + t.target * t.band / 100 := by
  rw [TuneSettings.inWindow, Bool.and_eq_true, decide_eq_true_eq, decide_eq_true_eq]
  rfl

/-! ## Drift requests -/

theorem driftRequest_condition (p : Part) (n : LaneNo) : (p.retunable n && (p.lane n).tune == .tuned) = true ↔
    (p.laneTuning n).settings.automatic = true ∧ (p.laneTuning n).settings.mode ≠ .off ∧
      (p.lane n).service = .inService ∧ (p.lane n).tune = .tuned := by
  simp only [Part.retunable, Bool.and_eq_true, Bool.not_eq_true', beq_eq_false_iff_ne, beq_iff_eq, and_assoc, ne_eq]

theorem driftRequest_asks {n : LaneNo} {p : Part} (asks : (p.retunable n && (p.lane n).tune == .tuned) = true)
    (fresh : (p.laneTuning n).requested = false) :
    driftRequest n p = formationTest (p.setLaneTuning n { p.laneTuning n with requested := true }) := by
  have joins : addRequest n p = _ := if_neg (by rw [fresh]; nofun)
  rw [driftRequest, if_pos asks, joins]

theorem driftRequest_same {n : LaneNo} {p : Part}
    (no : ¬(p.retunable n && (p.lane n).tune == .tuned) = true ∨ (p.laneTuning n).requested = true) :
    driftRequest n p = p := by
  unfold driftRequest
  split
  · rename_i asks
    exact if_pos (no.resolve_left (not_not_intro asks))
  · rfl

/-! ## A forward step at a lane -/

theorem forwardLane_counts {n : LaneNo} {p : Part} (contact : (p.lane n).contact ≠ .empty) :
    forwardLane n p = reseedTest n (p.setLane n { p.lane n with distance := min ((p.lane n).distance + 1) 80000 }) :=
  if_pos (by simp [Lane.inContact, contact])

end Sys2Proof.Machine

open Sys2Proof Sys2Proof.Machine

/-- Settles O43: the filter by its conditions, the drift request, the reseed and the forward step of a lane. -/
theorem referencesFilterAndReseed : Obligations.ReferencesFilterAndReseed := by
  refine ⟨Part.halted_iff, fun n p delta eq => ?_, fun n p asks isAsked => ?_, fun n s => ⟨fun contact limit covered => ?_,
    fun no => ?_⟩, fun n p => ⟨forwardLane_empty, fun contact d count => ⟨fun no => ?_, fun limit covered => ?_⟩⟩⟩
  · obtain rfl : delta = (p.lane n).delta := eq
    refine ⟨filterReference_same, fun below free magnitude reference l magnitudeEq referenceEq fits lane => ?_⟩
    have stepped := Lane.filter_eq magnitudeEq referenceEq fits
    rw [filterReference_filters below free, stepped, lane, ← TuneSettings.inWindow_iff]
    exact ⟨fun inside => if_pos inside, fun outside => if_neg outside⟩
  · rw [isAsked, ← driftRequest_condition]
    exact ⟨driftRequest_asks, driftRequest_same⟩
  · have reseeds := exec_thenArbiter_of_effect (c := .laneReseed n) rfl s
    rwa [reseedTest_due contact limit covered] at reseeds
  · exact exec_thenArbiter_unchanged (c := .laneReseed n) rfl (reseedTest_not_due no)
  · rw [forwardLane_counts contact, ← count]
    exact reseedTest_not_due (by rw [Part.lane_setLane_same]; exact .inr no)
  · have reseeds := reseedTest_due (n := n) (p := p.setLane n { p.lane n with distance := d })
    rw [Part.lane_setLane_same] at reseeds
    rw [forwardLane_counts contact, ← count, reseeds contact limit covered, Part.setLane_setLane]
end

section
/-! PROOFS. The knife gap axis (R72, R80 to R92): its commands and what the record changes decide. -/

namespace Sys2Proof.Machine

/-! ## Readiness -/

theorem Part.notReady_of_none {p : Part} (none : ∀ h ∈ p.hides, h.state = .entering → h.approachReached = false) :
    p.notReady = false := by
  have unreached : p.oldestApproached? = .none := by
    refine List.find?_eq_none.mpr fun h member both => ?_
    rw [Bool.and_eq_true, beq_iff_eq] at both
    exact Bool.noConfusion ((none h member both.1).symm.trans both.2)
  rw [Part.notReady, unreached]

theorem GapAxis.idleOn_iff (g : GapAxis) (gap : Nat) : g.idleOn (some gap) = true ↔
    g.state = .idle ∧ ∃ a : GapTol, g.active = some a ∧ a.gap = gap := by
  rw [GapAxis.idleOn, Bool.and_eq_true, beq_iff_eq, beq_iff_eq, Option.map_eq_some_iff]

theorem Part.notReady_eq_false_iff {p : Part} {h : Hide} {f : PlanFields}
    (oldest : p.hides.find? (fun x => x.state == .entering && x.approachReached) = some h) (fields : h.snapshot = some f) :
    p.notReady = false ↔ p.gap.state = .idle ∧ ∃ a : GapTol, p.gap.active = some a ∧ a.gap = f.splitGap := by
  have ready : p.notReady = !p.gap.idleOn (some f.splitGap) := by
    rw [Part.notReady, Part.oldestApproached?, oldest]
    simp only [fields, Option.map_some]
  rw [ready, Bool.not_eq_false', GapAxis.idleOn_iff]

/-- With no record ENTERING the readiness test removes GAP_NOT_READY (R89). -/
theorem notReadyTest_of_no_entering {p : Part} (none : ∀ h ∈ p.hides, h.state ≠ .entering) :
    notReadyTest p = p.putHold .gapNotReady false := by
  rw [notReadyTest, Part.notReady_of_none fun h member entering => absurd entering (none h member)]

/-! ## Staging -/

theorem oldestEntering?_none {p : Part} (none : ∀ h ∈ p.hides, h.state ≠ .entering) : p.oldestEntering? = .none :=
  List.find?_eq_none.mpr fun h member entering => none h member (beq_iff_eq.mp entering)

theorem oldestEntering?_isSome {p : Part} (some : ∃ h ∈ p.hides, h.state = .entering) :
    p.oldestEntering?.isSome = true := by
  obtain ⟨h, member, entering⟩ := some
  exact List.find?_isSome.mpr ⟨h, member, beq_iff_eq.mpr entering⟩

theorem stage_same {p : Part} (no : p.knifeOccupied = true ∨ ∀ h ∈ p.hides, h.state ≠ .entering) : stage p = p := by
  unfold stage
  split
  · rfl
  · rename_i clear
    rw [oldestEntering?_none (no.resolve_left clear)]
    rfl

theorem stage_oldest {p : Part} {h : Hide} {f : PlanFields} (clear : p.knifeOccupied = false)
    (oldest : p.hides.find? (fun x => x.state == .entering) = some h) (fields : h.snapshot = some f) :
    stage p = p.setGap { p.gap with staged := some ⟨f.splitGap, f.gapTolerance⟩ } := by
  rw [stage, if_neg (by rw [clear]; nofun), Part.oldestEntering?, oldest, Option.bind_some, fields]

/-! ## The start of a move -/

/-- Whether the start test moves to a staged gap (R83). -/
def Part.startsTo (p : Part) (g : GapTol) : Bool :=
  p.settings.gapMethod == .atClear && !p.knifeOccupied &&
    (p.gap.state == .stale || (p.gap.state == .idle && !(p.gap.active.map (·.gap) == some g.gap)))

theorem Part.startTarget?_of_staged {p : Part} {g : GapTol} (staged : p.gap.staged = some g) :
    p.startTarget? = if p.startsTo g = true then some g else none := by
  unfold Part.startTarget? Part.startsTo
  rw [staged]
  cases p.settings.gapMethod == .atClear && !p.knifeOccupied with
  | false => rfl
  | true =>
    cases p.gap.state with
    | stale => rfl
    | idle =>
      by_cases same : p.gap.active.map (·.gap) = some g.gap
      · simp [same]
      · simp [same]
    | moving => rfl
    | fault => rfl

theorem Part.startTarget?_of_unstaged {p : Part} (staged : p.gap.staged = none) : p.startTarget? = none := by
  unfold Part.startTarget?
  rw [staged]
  split
  · cases p.gap.state <;> rfl
  · rfl

theorem Part.startsTo_iff (p : Part) (g : GapTol) : p.startsTo g = true ↔
    p.settings.gapMethod = .atClear ∧ p.knifeOccupied = false ∧
      (p.gap.state = .stale ∨ p.gap.state = .idle ∧ ∀ a : GapTol, p.gap.active = some a → a.gap ≠ g.gap) := by
  have differs : ¬p.gap.active.map (·.gap) = some g.gap ↔ ∀ a : GapTol, p.gap.active = some a → a.gap ≠ g.gap := by
    simp only [Option.map_eq_some_iff, not_exists, not_and, ne_eq]
  simp only [Part.startsTo, Bool.and_eq_true, Bool.or_eq_true, beq_iff_eq, Bool.not_eq_true', beq_eq_false_iff_ne, ne_eq,
    and_assoc, differs]

theorem Part.startTarget?_eq_some_iff (p : Part) (g : GapTol) : p.startTarget? = some g ↔
    p.settings.gapMethod = .atClear ∧ p.knifeOccupied = false ∧ p.gap.staged = some g ∧
      (p.gap.state = .stale ∨ p.gap.state = .idle ∧ ∀ a : GapTol, p.gap.active = some a → a.gap ≠ g.gap) := by
  cases staged : p.gap.staged with
  | none =>
    rw [Part.startTarget?_of_unstaged staged]
    simp
  | some x =>
    rw [Part.startTarget?_of_staged staged]
    by_cases same : x = g
    · subst same
      rw [Option.ite_none_right_eq_some, p.startsTo_iff]
      simp
    · simp [same]

theorem Part.applyDue_iff (p : Part) : p.applyDue = true ↔
    p.settings.gapMethod = .host ∧ p.gap.applyPending = true ∧ p.knifeOccupied = false ∧
      (p.gap.state = .idle ∨ p.gap.state = .stale) := by
  simp only [Part.applyDue, Bool.and_eq_true, Bool.or_eq_true, beq_iff_eq, Bool.not_eq_true', and_assoc]

theorem startPendingApply_staged {p : Part} {g : GapTol} (staged : p.gap.staged = some g) :
    startPendingApply p = startMove g (p.setGap { p.gap with applyPending := false }) := by
  unfold startPendingApply
  simp only [Part.setGap_gap, staged]

/-! ## The re-seat -/

theorem withinTolerance_iff (gap tol left right : Nat) : withinTolerance gap tol left right = true ↔
    (left ≤ gap + tol ∧ gap ≤ left + tol) ∧ right ≤ gap + tol ∧ gap ≤ right + tol := by
  simp only [withinTolerance, Bool.and_eq_true, decide_eq_true_eq, and_assoc]

theorem GapAxis.drifted_iff (g : GapAxis) : g.drifted = true ↔ ∃ (a : GapTol) (l r : Nat),
    g.active = some a ∧ g.lastPair = some (l, r) ∧
      ¬(l ≤ a.gap + a.tol ∧ a.gap ≤ l + a.tol ∧ r ≤ a.gap + a.tol ∧ a.gap ≤ r + a.tol) := by
  unfold GapAxis.drifted
  split
  · rename_i a l r active lastPair
    rw [Bool.not_eq_true', ← Bool.not_eq_true, withinTolerance_iff, and_assoc]
    constructor
    · exact fun out => ⟨a, l, r, active, lastPair, out⟩
    · rintro ⟨b, m, n, activeAgain, pairAgain, out⟩
      cases active.symm.trans activeAgain
      cases lastPair.symm.trans pairAgain
      exact out
  · rename_i other
    exact iff_of_false nofun fun ⟨a, l, r, active, lastPair, _⟩ => other a l r active lastPair

/-- A CLEARED record re-seats an IDLE axis that has drifted (R92). -/
def Part.reseatDue (p : Part) : Bool := !p.knifeOccupied && p.gap.state == .idle && p.gap.drifted

theorem Part.reseatDue_iff (p : Part) : p.reseatDue = true ↔
    p.knifeOccupied = false ∧ p.gap.state = .idle ∧ ∃ (a : GapTol) (l r : Nat),
      p.gap.active = some a ∧ p.gap.lastPair = some (l, r) ∧
        ¬(l ≤ a.gap + a.tol ∧ a.gap ≤ l + a.tol ∧ r ≤ a.gap + a.tol ∧ a.gap ≤ r + a.tol) := by
  rw [Part.reseatDue, Bool.and_eq_true, Bool.and_eq_true, Bool.not_eq_true', beq_iff_eq, GapAxis.drifted_iff, and_assoc]

theorem gapHandOn_applies {p : Part} (due : (stage p).applyDue = true) :
    gapHandOn p = notReadyTest (startPendingApply (stage p)) := congrArg notReadyTest (if_pos due)

theorem gapHandOn_starts {p : Part} (due : ¬(stage p).applyDue = true) :
    gapHandOn p = notReadyTest (startTest (stage p)) := congrArg notReadyTest (if_neg due)

theorem gapCleared_applies {p : Part} (due : (stage p).applyDue = true) :
    gapCleared p = notReadyTest (startPendingApply (stage p)) := congrArg notReadyTest (if_pos due)

theorem gapCleared_starts {p : Part} (due : ¬(stage p).applyDue = true) : gapCleared p =
    notReadyTest (match (stage p).startTarget?, (stage p).gap.active with
      | some g, _ => startMove g (stage p)
      | none, some a => if (stage p).reseatDue = true then startMove a (stage p) else stage p
      | none, none => stage p) := by
  refine congrArg notReadyTest ((if_neg due).trans ?_)
  unfold startTest
  cases target : (stage p).startTarget? with
  | some g => rfl
  | none =>
    cases active : (stage p).gap.active with
    | some a => rfl
    | none => exact ite_self _

/-! ## GAP SET, GAP APPLY, GAP RECOVER -/

theorem gapSet_range {gap : Half} (out : gap.toNat < 50 ∨ 800 < gap.toNat) (p : Part) : gapSet gap p = (p, refusal .range) := by
  refine if_pos ?_
  rw [Bool.not_eq_true', ← Bool.not_eq_true, inRange_eq_true_iff]
  omega

theorem inRange_of_le {low high x : Nat} (above : low ≤ x) (below : x ≤ high) : ¬(!inRange low high x) = true := by
  rw [(inRange_eq_true_iff low high x).mpr ⟨above, below⟩]
  nofun

theorem gapSet_busy {gap : Half} {p : Part} (low : 50 ≤ gap.toNat) (high : gap.toNat ≤ 800)
    (entering : ∃ h ∈ p.hides, h.state = .entering) : gapSet gap p = (p, refusal .busy) := by
  rw [gapSet, if_neg (inRange_of_le low high), if_pos (oldestEntering?_isSome entering)]

/-- A GAP SET that is taken stages the gap and starts its move where R83 says so (R82). -/
theorem gapSet_taken {gap : Half} {p : Part} {g : GapTol} (low : 50 ≤ gap.toNat) (high : gap.toNat ≤ 800)
    (none : ∀ h ∈ p.hides, h.state ≠ .entering) (eq : g = ⟨gap.toNat, p.settings.defaultGapTolerance⟩) :
    gapSet gap p = ({ p with
      feed := { p.feed with holds := { p.feed.holds with gapNotReady := false } }
      gap := if p.startsTo g = true then { p.gap with
          staged := some g
          state := .moving
          target := some g
          settle := 0
          moveTimer := some (p.settings.gapMoveTimeout * 10000)
          jackOrder := .target g.gap
          jackOrders := p.gap.jackOrders + 1 }
        else { p.gap with staged := some g } }, answerOk []) := by
  have taken : gapSet gap p = (notReadyTest (startTest (p.setGap { p.gap with staged := some g })), answerOk []) := by
    rw [gapSet, if_neg (inRange_of_le low high), oldestEntering?_none none, eq]
    rfl
  have target : (p.setGap { p.gap with staged := some g }).startTarget? = if p.startsTo g = true then some g else .none :=
    Part.startTarget?_of_staged rfl
  rw [taken, startTest, target, notReadyTest_of_no_entering]
  · by_cases starts : p.startsTo g = true
    · rw [if_pos starts, if_pos starts]
      rfl
    · rw [if_neg starts, if_neg starts]
      rfl
  · split
    · exact none
    · exact none

theorem gapApply_state {p : Part} (no : p.settings.gapMethod = .atClear ∨ p.gap.staged = none ∨ p.gap.state = .fault) :
    gapApply p = (p, refusal .state) := by
  unfold gapApply
  split
  · rfl
  · rename_i method
    split
    · rfl
    · rename_i g staged
      have fault : p.gap.state = .fault := by
        rcases no with atClear | unstaged | fault
        · rw [method] at atClear
          cases atClear
        · rw [staged] at unstaged
          cases unstaged
        · exact fault
      rw [fault]

theorem gapApply_busy {p : Part} {g : GapTol} (method : p.settings.gapMethod = .host) (staged : p.gap.staged = some g)
    (moving : p.gap.state = .moving) : gapApply p = (p, refusal .busy) := by
  rw [gapApply, method]
  simp only [staged, moving]

theorem gapApply_free {p : Part} {g : GapTol} (method : p.settings.gapMethod = .host) (staged : p.gap.staged = some g)
    (free : p.gap.state = .idle ∨ p.gap.state = .stale) : gapApply p =
      if p.knifeOccupied = true then (p.setGap { p.gap with applyPending := true }, ⟨.pending, []⟩)
      else (startMove g p, answerOk []) := by
  rw [gapApply, method]
  rcases free with state | state <;> simp only [staged, state]

theorem gapRecover_state {p : Part} (other : p.gap.state ≠ .fault) : gapRecover p = (p, refusal .state) := by
  unfold gapRecover
  split
  · rename_i fault _
    exact absurd fault other
  · rfl

theorem gapRecover_fault {p : Part} {g : GapTol} (fault : p.gap.state = .fault) (target : p.gap.target = some g) :
    gapRecover p = if p.knifeOccupied = true then (p, refusal .busy)
      else ((startMove g p).putHold .gapFault false, answerOk []) := by
  rw [gapRecover, fault, target]

/-- The faulted move's kept target starts again, without GAP_FAULT (R88). -/
theorem startMove_kept {p : Part} {g : GapTol} (target : p.gap.target = some g) :
    (startMove g p).putHold .gapFault false = notReadyTest { p with
      feed := { p.feed with holds := { p.feed.holds with gapFault := false } }
      gap := { p.gap with
        state := .moving
        settle := 0
        moveTimer := some (p.settings.gapMoveTimeout * 10000)
        jackOrder := .target g.gap
        jackOrders := p.gap.jackOrders + 1 } } := by
  have moves : startMove g p = notReadyTest { p with gap := { p.gap with
      state := .moving
      target := some g
      settle := 0
      moveTimer := some (p.settings.gapMoveTimeout * 10000)
      jackOrder := .target g.gap
      jackOrders := p.gap.jackOrders + 1 } } := rfl
  rw [moves, ← target]
  rfl

end Sys2Proof.Machine

open Sys2Proof Sys2Proof.Machine

/-- Settles O35: the three commands, and the decisions of the axis on what `stage` leaves. -/
theorem gapCommandsDecide : Obligations.GapCommandsDecide := by
  refine ⟨fun gap s accept => ⟨fun out => ?_, fun low high entering => ?_, fun low high none g starts gEq startsEq => ?_⟩,
    fun s accept => ⟨fun no => ?_, fun g method staged => ⟨fun moving => ?_, fun free occupied => ?_, fun free clear => ?_⟩,
      fun other => ?_, fun g fault target => ⟨fun occupied => ?_, fun clear => ?_⟩⟩,
    fun p => ⟨p.knifeOccupied_iff, rfl, Part.notReady_of_none, fun h f => Part.notReady_eq_false_iff, fun g => rfl,
      stage_same, fun h f => stage_oldest⟩,
    fun p q applies starts drifted qEq isApplied isStarted isDrifted => ?_⟩
  · exact exec_command (c := .gapSet gap) (a := refusal .range) rfl accept (gapSet_range out _)
  · exact exec_command (c := .gapSet gap) (a := refusal .busy) rfl accept (gapSet_busy low high entering)
  · have start : s.toPart.startsTo g = starts := by
      rw [startsEq, Part.startsTo, gEq]
    have taken := exec_command (c := .gapSet gap) (a := answerOk []) rfl accept (gapSet_taken low high none gEq)
    rw [start] at taken
    rw [taken, gEq]
    rfl
  · exact exec_command (c := .gapApply) (a := refusal .state) rfl accept (gapApply_state no)
  · exact exec_command (c := .gapApply) (a := refusal .busy) rfl accept (gapApply_busy method staged moving)
  · exact exec_command (c := .gapApply) (a := ⟨.pending, []⟩) rfl accept
      ((gapApply_free method staged free).trans (if_pos occupied))
  · exact exec_command (c := .gapApply) (a := answerOk []) rfl accept
      ((gapApply_free method staged free).trans (if_neg (by rw [clear]; nofun)))
  · exact exec_command (c := .gapRecover) (a := refusal .state) rfl accept (gapRecover_state other)
  · exact exec_command (c := .gapRecover) (a := refusal .busy) rfl accept
      ((gapRecover_fault fault target).trans (if_pos occupied))
  · have taken := exec_command (c := .gapRecover) (a := answerOk []) rfl accept
      ((gapRecover_fault fault target).trans (if_neg (by rw [clear]; nofun)))
    rw [taken, startMove_kept target]
    rfl
  · have starting : starts = q.startTarget? := Option.ext fun g => (isStarted g).trans (q.startTarget?_eq_some_iff g).symm
    have applying : applies ↔ q.applyDue = true := isApplied.trans q.applyDue_iff.symm
    have drifting : drifted = q.reseatDue := Bool.eq_iff_iff.mpr (isDrifted.trans q.reseatDue_iff.symm)
    subst qEq starting drifting
    rw [applying]
    refine ⟨rfl, fun due g staged => ⟨?_, ?_⟩, fun due => ⟨gapHandOn_starts due, gapCleared_starts due⟩⟩
    · rw [gapHandOn_applies due, startPendingApply_staged staged]
      rfl
    · rw [gapCleared_applies due, startPendingApply_staged staged]
      rfl
end

section
/-! PROOFS. Gauge pairs and the ends of a move (R80, R86, R87, R91). -/

namespace Sys2Proof.Machine

/-! ## The excursion test -/

theorem withinTolerance_eq (gap tol left right : Nat) : withinTolerance gap tol left right =
    (decide (left ≤ gap + tol ∧ gap ≤ left + tol) && decide (right ≤ gap + tol ∧ gap ≤ right + tol)) := by
  rw [withinTolerance, Bool.decide_and, Bool.decide_and, Bool.and_assoc, Bool.and_assoc]

theorem excursionTest_none {p : Part} (none : ∀ h ∈ p.hides, h.state ≠ .splitting) (l r : Nat) : excursionTest l r p = p := by
  rw [excursionTest, p.splitting?_eq_none.mpr none]

theorem excursionTest_splitting {p : Part} {h : Hide} {f : PlanFields}
    (found : p.hides.find? (fun x => x.state == .splitting) = some h) (fields : h.snapshot = some f) (l r : Nat) :
    excursionTest l r p = if p.gap.outOfTolerance f.gapTolerance l r = true then
        if p.gap.excursionRun = true then p
        else raise (.gapExcursion h.ticket h.article)
          ((p.setGap { p.gap with excursionRun := true }).modifyHide h.ticket Hide.addExcursion)
      else p.setGap { p.gap with excursionRun := false } := by
  rw [excursionTest, Part.splitting?, found]
  simp only [fields, Option.map_some, Option.getD_some]

theorem GapAxis.outOfTolerance_eq (g : GapAxis) (tol l r : Nat) : g.outOfTolerance tol l r =
    match (if g.state = .moving then g.target.map (·.gap) else g.active.map (·.gap)) with
    | some gap => !(decide (l ≤ gap + tol ∧ gap ≤ l + tol) && decide (r ≤ gap + tol ∧ gap ≤ r + tol))
    | none => true := by
  unfold GapAxis.outOfTolerance GapAxis.excursionReference
  generalize (if g.state = .moving then g.target.map (·.gap) else g.active.map (·.gap)) = reference
  cases reference with
  | none => rfl
  | some gap => exact congrArg (!·) (withinTolerance_eq gap tol l r)

theorem setGap_excursionRun {p : Part} {run : Bool} (same : p.gap.excursionRun = run) :
    p.setGap { p.gap with excursionRun := run } = p := by
  subst same
  rfl

theorem excursionTest_sameBase (l r : Nat) (p : Part) : SameBase p (excursionTest l r p) := by
  have run : ∀ b, SameBase p (p.setGap { p.gap with excursionRun := b }) := fun b => by constructor <;> rfl
  unfold excursionTest
  split
  · exact .refl p
  · split
    · split
      · exact .refl p
      · exact ((run true).trans (modifyHide_sameBase _ _ _)).trans (raise_sameBase _ _)
    · exact run false

/-- From `p` to `q` the article table, the lanes and the bus have not changed. -/
def SameTables (p q : Part) : Prop := q.articles = p.articles ∧ q.lanes = p.lanes ∧ q.bus = p.bus

theorem excursionTest_sameTables (l r : Nat) (p : Part) : SameTables p (excursionTest l r p) := by
  unfold excursionTest
  split
  · exact ⟨rfl, rfl, rfl⟩
  · split
    · split <;> exact ⟨rfl, rfl, rfl⟩
    · exact ⟨rfl, rfl, rfl⟩

/-! ## The settle test -/

theorem settleTest_out {p : Part} {g : GapTol} {l r : Nat} (target : p.gap.target = some g)
    (out : withinTolerance g.gap g.tol l r = false) : settleTest l r p = p.setGap { p.gap with settle := 0 } := by
  rw [settleTest, target]
  exact if_neg (by rw [out]; nofun)

theorem settleTest_within {p : Part} {g : GapTol} {l r : Nat} (target : p.gap.target = some g)
    (within : withinTolerance g.gap g.tol l r = true) : settleTest l r p =
      if p.gap.settle + 1 = 3 then completeMove g p else p.setGap { p.gap with settle := p.gap.settle + 1 } := by
  rw [settleTest, target]
  exact if_pos within

theorem startTest_cases (p : Part) : startTest p = p ∨ ∃ g, startTest p = startMove g p := by
  unfold startTest
  split
  · exact .inr ⟨_, rfl⟩
  · exact .inl rfl

/-- What a completed move leaves of the axis: IDLE on its target, or MOVING to a gap staged since (R86). -/
theorem completeMove_gap (g : GapTol) (p : Part) : (completeMove g p).gap.active = some g ∧
    (completeMove g p).gap.lastPair = p.gap.lastPair ∧
    ((completeMove g p).gap.state = .idle ∨ (completeMove g p).gap.state = .moving) ∧
    (completeMove g p).gap.settle = 0 ∧ (completeMove g p).gap.staged = p.gap.staged := by
  unfold completeMove
  rcases startTest_cases (notReadyTest (raise (.gapMoveDone g.gap) (p.setGap { p.gap with
    state := .idle
    active := some g
    target := none
    settle := 0
    moveTimer := none }))) with same | ⟨k, moves⟩
  · dsimp only
    rw [same]
    exact ⟨rfl, rfl, .inl rfl, rfl, rfl⟩
  · dsimp only
    rw [moves]
    exact ⟨rfl, rfl, .inr rfl, rfl, rfl⟩

theorem completeMove_settings (g : GapTol) (p : Part) : (completeMove g p).settings = p.settings := by
  simp [completeMove]

theorem completeMove_eye (g : GapTol) (p : Part) : (completeMove g p).eye = p.eye := by
  simp [completeMove]

theorem completeMove_sameTables (g : GapTol) (p : Part) : SameTables p (completeMove g p) := by
  refine ⟨?_, ?_, ?_⟩ <;> simp [completeMove]

/-! ## The pair that completes a move -/

theorem takeGaugePair_eq (l r : Nat) (p : Part) : takeGaugePair l r p =
    match p.gap.state with
    | .fault => p.setGap { p.gap with lastPair := some (l, r) }
    | .moving => settleTest l r (excursionTest l r (p.setGap { p.gap with lastPair := some (l, r) }))
    | _ => excursionTest l r (p.setGap { p.gap with lastPair := some (l, r) }) := by
  unfold takeGaugePair
  simp only [Part.setGap_gap]
  cases p.gap.state <;> rfl

theorem Part.completesMove_iff (p : Part) (l r : Nat) : p.completesMove l r = true ↔
    p.gap.state = .moving ∧ p.gap.settle = 2 ∧
      ∃ g : GapTol, p.gap.target = some g ∧ withinTolerance g.gap g.tol l r = true := by
  have third : p.gap.settle + 1 = Config.settlePairs ↔ p.gap.settle = 2 := by
    rw [Config.settlePairs]
    omega
  unfold Part.completesMove
  rw [Bool.and_eq_true, Bool.and_eq_true, beq_iff_eq, beq_iff_eq, third, and_assoc]
  cases p.gap.target <;> simp

theorem completeMoveWith_same {p : Part} {l r : Nat} (no : ¬p.completesMove l r = true) : completeMoveWith l r p = p :=
  if_neg no

/-- The third pair in tolerance completes the move, whichever row takes it (R86). -/
theorem takeGaugePair_completes {p : Part} {g : GapTol} {l r : Nat} (moving : p.gap.state = .moving)
    (target : p.gap.target = some g) (settle : p.gap.settle = 2) (within : withinTolerance g.gap g.tol l r = true) :
    takeGaugePair l r p = completeMove g (excursionTest l r (p.setGap { p.gap with lastPair := some (l, r) })) := by
  have axis := excursionTest_gap l r (p.setGap { p.gap with lastPair := some (l, r) })
  have kept : (excursionTest l r (p.setGap { p.gap with lastPair := some (l, r) })).gap.target = some g := by
    rw [axis]
    exact target
  have count : (excursionTest l r (p.setGap { p.gap with lastPair := some (l, r) })).gap.settle + 1 = 3 := by
    rw [axis]
    exact congrArg (· + 1) settle
  rw [takeGaugePair_eq, moving]
  exact (settleTest_within kept within).trans (if_pos count)

/-! ## The move timer -/

theorem faultMove_eq {p : Part} {g : GapTol} (target : p.gap.target = some g) : faultMove p =
    notReadyTest (raise (.gapFault g.gap) { p with
      gap := { p.gap with
        state := .fault
        settle := 0
        moveTimer := none
        jackOrder := .halt
        jackOrders := p.gap.jackOrders + 1 }
      feed := { p.feed with holds := { p.feed.holds with gapFault := true } }
      port := { p.port with attention := { p.port.attention with gapFault := true } } }) := by
  unfold faultMove
  rw [target]
  rfl

end Sys2Proof.Machine

open Sys2Proof Sys2Proof.Machine

/-- Settles O36: the pair by the axis state, the excursion test and the settle test. -/
theorem gaugePairsSettleAndWatch : Obligations.GaugePairsSettleAndWatch := by
  refine ⟨fun left right s q eq => ?_, fun l r p none => excursionTest_none none l r,
    fun l r p h f reference out found fields referenceEq outEq => ?_, fun l r p g within target withinEq =>
    ⟨fun outside => ?_, fun inside other => ?_, fun inside last => ?_⟩⟩
  · subst eq
    exact exec_of_effect (c := .gaugePair left right) (takeGaugePair_eq _ _ s.toPart)
  · have isOut : p.gap.outOfTolerance f.gapTolerance l r = out := by
      subst outEq referenceEq
      exact GapAxis.outOfTolerance_eq _ _ _ _
    rw [excursionTest_splitting found fields, isOut]
    cases out with
    | false => exact (if_neg Bool.false_ne_true).trans (if_neg fun both => Bool.false_ne_true both.1).symm
    | true =>
      rw [if_pos rfl]
      cases run : p.gap.excursionRun with
      | false => rfl
      | true => exact (setGap_excursionRun run).symm
  · exact settleTest_out target ((withinTolerance_eq _ _ _ _).trans (withinEq.symm.trans outside))
  · refine (settleTest_within target ((withinTolerance_eq _ _ _ _).trans (withinEq.symm.trans inside))).trans (if_neg ?_)
    omega
  · refine (settleTest_within target ((withinTolerance_eq _ _ _ _).trans (withinEq.symm.trans inside))).trans (if_pos ?_)
    omega

/-- Settles O37: the completing pair, any other pair, and the expiry of the move timer. -/
theorem movesCompleteOrFault : Obligations.MovesCompleteOrFault := by
  refine ⟨fun left right g s moving target settle within => ?_, withinTolerance_iff, fun left right s no => ?_,
    fun left right s moving settle out => ?_, fun g s moving target => ?_, fun s other => ?_⟩
  · have completes := takeGaugePair_completes moving target settle within
    have acts : completeMoveWith left.toNat right.toNat s.toPart = takeGaugePair left.toNat right.toNat s.toPart :=
      if_pos ((Part.completesMove_iff _ _ _).mpr ⟨moving, settle, g, target, within⟩)
    refine ⟨_, exec_of_effect (c := .moveCompletion left right) (acts.trans completes),
      exec_of_effect (c := .gaugePair left right) completes, ?_⟩
    generalize pairEq : s.toPart.setGap { s.gap with lastPair := some (left.toNat, right.toNat) } = pair
    have base := excursionTest_sameBase left.toNat right.toNat pair
    have axis := excursionTest_gap left.toNat right.toNat pair
    obtain ⟨articles, lanes, bus⟩ := excursionTest_sameTables left.toNat right.toNat pair
    generalize excursionTest left.toNat right.toNat pair = watched at *
    obtain ⟨active, lastPair, state, count, staged⟩ := completeMove_gap g watched
    obtain ⟨articlesThen, lanesThen, busThen⟩ := completeMove_sameTables g watched
    subst pairEq
    exact ⟨active, lastPair.trans base.lastPair, state, count, staged.trans (congrArg (·.staged) axis),
      articlesThen.trans articles, lanesThen.trans lanes, (completeMove_settings g watched).trans base.settings,
      (completeMove_eye g watched).trans base.eye, busThen.trans bus⟩
  · refine exec_unchanged (c := .moveCompletion left right) (completeMoveWith_same fun completes => ?_)
    obtain ⟨moving, settle, _⟩ := (Part.completesMove_iff _ _ _).mp completes
    exact no.elim (· moving) (· settle)
  · refine exec_unchanged (c := .moveCompletion left right) (completeMoveWith_same fun completes => ?_)
    obtain ⟨_, _, g, target, within⟩ := (Part.completesMove_iff _ _ _).mp completes
    exact Bool.noConfusion ((out g target).symm.trans within)
  · exact exec_of_effect (c := .moveTimerExpiry) ((if_pos moving).trans (faultMove_eq target))
  · exact exec_unchanged (c := .moveTimerExpiry) (if_neg other)
end

section
/-! PROOFS. The FEED commands (R30, R54, R65, R66, R70 to R72). -/

namespace Sys2Proof.Machine

/-! ## The unbound edge discarded by the host -/

/-- The eye's state after the discard instruction (R54). -/
def Part.discardedState (p : Part) : EyeState :=
  match p.eye.state with
  | .body => .discard none
  | .tailPending t =>
    if reached (t + BitVec.ofNat 32 p.settings.gapFilter) p.feed.position = true then .clear else .discard (some t)
  | e => e

theorem discardInstruction_eq (p : Part) : discardInstruction p = p.setEyeState p.discardedState := by
  unfold discardInstruction Part.discardedState
  cases state : p.eye.state with
  | body => rfl
  | tailPending t =>
    refine (discardTest_light rfl).trans ?_
    change (if reached (t + BitVec.ofNat 32 p.settings.gapFilter) p.feed.position = true then _ else _) = _
    dsimp only
    split <;> rfl
  | clear => dsimp only; rw [← state]; rfl
  | leadPending c => dsimp only; rw [← state]; rfl
  | discard c => dsimp only; rw [← state]; rfl

theorem discardUnbound_none {p : Part} (unbound : p.unbound = none) : discardUnbound p = p := by
  rw [discardUnbound, unbound]

theorem discardUnbound_lead {p : Part} {lead : Pos} (unbound : p.unbound = some ⟨lead, none⟩) :
    discardUnbound p = { p with unbound := none, eye := { p.eye with state := p.discardedState } } := by
  rw [discardUnbound, unbound]
  exact discardInstruction_eq _

theorem discardUnbound_trailed {p : Part} {lead trail : Pos} (unbound : p.unbound = some ⟨lead, some trail⟩) :
    discardUnbound p = p.setUnbound none := by
  rw [discardUnbound, unbound]

/-- The eye after a removed UNBOUND_EDGE: sent to DISCARD where the edge has no trail (R30, R54). -/
def Part.eyeAfterDiscard (p : Part) : Eye :=
  match p.unbound with
  | some ⟨_, none⟩ => { p.eye with state := p.discardedState }
  | _ => p.eye

theorem discardUnbound_eq (p : Part) : discardUnbound p = { p with unbound := none, eye := p.eyeAfterDiscard } := by
  cases unbound : p.unbound with
  | none =>
    have eye : p.eyeAfterDiscard = p.eye := by rw [Part.eyeAfterDiscard, unbound]
    rw [discardUnbound_none unbound, eye, ← unbound]
  | some edge =>
    obtain ⟨lead, trail⟩ := edge
    cases trail with
    | none => rw [discardUnbound_lead unbound, Part.eyeAfterDiscard, unbound]
    | some trail => rw [discardUnbound_trailed unbound, Part.eyeAfterDiscard, unbound]; rfl

/-! ## The hold causes that leave -/

theorem HoldSet.has_minus (h k : HoldSet) (c : HoldCause) : (h.minus k).has c = (h.has c && !k.has c) := by
  cases c <;> rfl

theorem HoldSet.notClearable_iff (named : HoldSet) (stopLine : Bool) : named.notClearable stopLine = true ↔
    named.stopLine = true ∨ named.gapNotReady = true ∨ named.gapFault = true ∨ named.tuning = true ∨
      (named.stopRecovery = true ∧ stopLine = true) := by
  simp only [HoldSet.notClearable, Bool.or_eq_true, Bool.and_eq_true, or_assoc]

/-- The part without the named causes, and without the unbound edge where its cause is removed (R71). -/
def removeHolds (named : HoldSet) (p : Part) : Part :=
  if named.unboundEdge = true ∧ p.feed.holds.unboundEdge = true then
    discardUnbound (p.setHolds (p.feed.holds.minus named))
  else p.setHolds (p.feed.holds.minus named)

theorem clearHolds_eq (named : HoldSet) (p : Part) : clearHolds named p =
    if (named.hideAborted = true ∧ p.feed.holds.hideAborted = true) ∨
      (named.stopRecovery = true ∧ p.feed.holds.stopRecovery = true)
    then formationTest (gapHandOn (removeHolds named p)) else removeHolds named p := by
  simp only [clearHolds, removeHolds, Bool.or_eq_true, Bool.and_eq_true]

theorem removeHolds_eq (named : HoldSet) (p : Part) : removeHolds named p = { p with
    feed := { p.feed with holds := p.feed.holds.minus named }
    unbound := (removeHolds named p).unbound
    eye := (removeHolds named p).eye } := by
  unfold removeHolds
  split
  · rw [discardUnbound_eq]
    rfl
  · rfl

theorem removeHolds_kept {named : HoldSet} {p : Part} (no : named.unboundEdge = false ∨ p.feed.holds.unboundEdge = false) :
    removeHolds named p = p.setHolds (p.feed.holds.minus named) := by
  refine if_neg fun ⟨isNamed, held⟩ => ?_
  rcases no with unnamed | unheld
  · exact Bool.noConfusion (unnamed.symm.trans isNamed)
  · exact Bool.noConfusion (unheld.symm.trans held)

theorem removeHolds_discards {named : HoldSet} {p : Part} (isNamed : named.unboundEdge = true)
    (held : p.feed.holds.unboundEdge = true) : (removeHolds named p).unbound = none ∧
      (removeHolds named p).eye = p.eyeAfterDiscard := by
  rw [removeHolds, if_pos ⟨isNamed, held⟩, discardUnbound_eq]
  exact ⟨rfl, rfl⟩

theorem Part.eyeAfterDiscard_trailed {p : Part}
    (trailed : ∀ edge : UnboundEdge, p.unbound = some edge → edge.trail.isSome = true) : p.eyeAfterDiscard = p.eye := by
  unfold Part.eyeAfterDiscard
  split
  · rename_i lead unbound
    exact absurd (trailed _ unbound) nofun
  · rfl

theorem Part.eyeAfterDiscard_lead {p : Part} {lead : Pos} (unbound : p.unbound = some ⟨lead, none⟩) :
    p.eyeAfterDiscard = { p.eye with state := p.discardedState } := by
  rw [Part.eyeAfterDiscard, unbound]

/-- From `p` to `q` a FEED CLEAR HOLD has changed, of these, no more than GAP_NOT_READY and TUNING (R71, R72). -/
structure SameUnderClear (p q : Part) : Prop where
  feed : q.feed = { p.feed with holds := { p.feed.holds with
    gapNotReady := q.feed.holds.gapNotReady, tuning := q.feed.holds.tuning } }
  port : q.port = p.port
  articles : q.articles = p.articles
  hides : q.hides = p.hides
  settings : q.settings = p.settings
  routes : q.routes = p.routes
  lines : q.lines = p.lines
  tallies : q.tallies = p.tallies
  unbound : q.unbound = p.unbound
  eye : q.eye = p.eye

theorem handedOn_sameUnderClear (p : Part) : SameUnderClear p (formationTest (gapHandOn p)) where
  feed := by rw [formationTest_feed, gapHandOn_changesGap p]
  port := by simp
  articles := by simp
  hides := by simp
  settings := ((gapHandOn_sameBase p).trans (formationTest_sameBase _)).settings
  routes := ((gapHandOn_sameBase p).trans (formationTest_sameBase _)).routes
  lines := by simp
  tallies := by simp
  unbound := ((gapHandOn_sameBase p).trans (formationTest_sameBase _)).unbound
  eye := ((gapHandOn_sameBase p).trans (formationTest_sameBase _)).eye

theorem clearHolds_sameUnderClear (named : HoldSet) (p : Part) :
    SameUnderClear (removeHolds named p) (clearHolds named p) := by
  rw [clearHolds_eq]
  split
  · exact handedOn_sameUnderClear _
  · constructor <;> rfl

theorem clearHolds_has (named : HoldSet) (p : Part) {c : HoldCause} (notReady : c ≠ .gapNotReady) (tuning : c ≠ .tuning) :
    (clearHolds named p).feed.holds.has c = (p.feed.holds.has c && !named.has c) := by
  have cleared : (removeHolds named p).feed.holds = p.feed.holds.minus named := by rw [removeHolds_eq]
  rw [← HoldSet.has_minus, ← cleared, (clearHolds_sameUnderClear named p).feed]
  cases c <;> first | contradiction | rfl

theorem clearHolds_of_no_occupancy {named : HoldSet} {p : Part} (hideAborted : named.hideAborted = false)
    (stopRecovery : named.stopRecovery = false) : clearHolds named p = removeHolds named p := by
  rw [clearHolds_eq, if_neg]
  rintro (⟨named, _⟩ | ⟨named, _⟩)
  · rw [hideAborted] at named
    cases named
  · rw [stopRecovery] at named
    cases named

theorem feedClearHold_range {causes : Half} (large : 2 ^ 11 ≤ causes.toNat) (p : Part) :
    feedClearHold causes p = (p, refusal .range) := by
  rw [feedClearHold, holdSetOperand_none large]

theorem feedClearHold_refused {causes : Half} {named : HoldSet} {p : Part} (operand : holdSetOperand causes = some named)
    (kept : named.notClearable p.feed.stopLine = true) : feedClearHold causes p = (p, refusal .state) := by
  rw [feedClearHold, operand]
  exact if_pos kept

theorem feedClearHold_taken {causes : Half} {named : HoldSet} {p : Part} (operand : holdSetOperand causes = some named)
    (free : ¬named.notClearable p.feed.stopLine = true) :
    feedClearHold causes p = feedTaken (clearHolds named p) := by
  rw [feedClearHold, operand]
  exact if_neg free

end Sys2Proof.Machine

open Sys2Proof Sys2Proof.Machine

/-- Settles O24: FEED CLEAR HOLD in the order of R71. -/
theorem feedClearHoldDecides : Obligations.FeedClearHoldDecides := by
  intro causes s accept
  refine ⟨fun large => exec_thenArbiter_refused (c := .feedClearHold causes) rfl accept (feedClearHold_range large _),
    fun small => ?_, fun named small bytes => ?_⟩
  · obtain ⟨named, _, bytes⟩ := holdSetOperand_bytes small
    exact ⟨named, bytes⟩
  have operand := holdSetOperand_of_bytes small bytes
  refine ⟨fun kept => exec_thenArbiter_refused (c := .feedClearHold causes) rfl accept
    (feedClearHold_refused operand ((named.notClearable_iff _).mpr kept)), fun stopLine notReady gapFault tuning recovery => ?_⟩
  have free : ¬named.notClearable s.feed.stopLine = true := by
    rw [named.notClearable_iff]
    rcases recovery with recovery | recovery <;> simp [stopLine, notReady, gapFault, tuning, recovery]
  have taken := exec_thenArbiter_command (c := .feedClearHold causes) (a := answerOk (clearHolds named s.toPart).feedReply)
    rfl accept (feedClearHold_taken operand free)
  refine ⟨fun rest cleared unbound after restEq clearedEq unboundEq afterEq => ?_, ⟨_, taken, ?_⟩⟩
  · have minus : rest = s.feed.holds.minus named :=
      HoldSet.ext_has _ _ fun c => (restEq c).trans (HoldSet.has_minus _ _ c).symm
    have removed : unbound = removeHolds named s.toPart := by
      rw [unboundEq, clearedEq, minus, removeHolds, discardUnbound_eq]
      rfl
    have handed : after = clearHolds named s.toPart := by
      rw [afterEq, removed, clearHolds_eq]
    rw [taken, handed]
    rfl
  · have same := clearHolds_sameUnderClear named s.toPart
    have removed := removeHolds_eq named s.toPart
    have has := fun c notReady tuning => clearHolds_has named s.toPart (c := c) notReady tuning
    obtain ⟨position, runState, line⟩ : (clearHolds named s.toPart).feed.position = s.feed.position ∧
        (clearHolds named s.toPart).feed.runState = s.feed.runState ∧
        (clearHolds named s.toPart).feed.stopLine = s.feed.stopLine := by
      rw [same.feed, removed]
      exact ⟨rfl, rfl, rfl⟩
    have quiet := clearHolds_of_no_occupancy (named := named) (p := s.toPart)
    refine ⟨fun c notReady tuning => ?_, ?_, ?_, ?_, ?_, ?_, ?_, ?_, ?_, ?_, ?_, ?_, fun no => ?_, fun isNamed held => ?_,
      fun hideAborted recovery => ?_⟩
    · rw [State.thenWakes_feed]
      exact has c notReady tuning
    · rw [State.thenWakes_feed]
      exact position
    · rw [State.thenWakes_feed]
      exact runState
    · rw [State.thenWakes_feed]
      exact line
    · rw [State.thenWakes_feed, State.thenWakes_port]
      rfl
    · rw [State.thenWakes_port]
      exact congrArg (·.attention) (same.port.trans (congrArg (·.port) removed))
    · rw [State.thenWakes_articles]
      exact same.articles.trans (congrArg (·.articles) removed)
    · rw [State.thenWakes_hides]
      exact same.hides.trans (congrArg (·.hides) removed)
    · rw [State.thenWakes_settings]
      exact same.settings.trans (congrArg (·.settings) removed)
    · rw [State.thenWakes_routes]
      exact same.routes.trans (congrArg (·.routes) removed)
    · rw [State.thenWakes_lines]
      exact same.lines.trans (congrArg (·.lines) removed)
    · rw [State.thenWakes_tallies]
      exact same.tallies.trans (congrArg (·.tallies) removed)
    · rw [State.thenWakes_unbound, State.thenWakes_eye]
      have kept := removeHolds_kept (named := named) (p := s.toPart) no
      exact ⟨same.unbound.trans (congrArg (·.unbound) kept), same.eye.trans (congrArg (·.eye) kept)⟩
    · rw [State.thenWakes_unbound, State.thenWakes_eye]
      obtain ⟨noEdge, eye⟩ := removeHolds_discards isNamed held
      refine ⟨same.unbound.trans noEdge, fun trailed => (same.eye.trans eye).trans (Part.eyeAfterDiscard_trailed trailed),
        fun lead unbound => ?_⟩
      have sent := (same.eye.trans eye).trans (Part.eyeAfterDiscard_lead unbound)
      exact ⟨congrArg (·.inputHigh) sent, congrArg (·.state) sent⟩
    · have held : (removeHolds named s.toPart).feed.holds = s.feed.holds.minus named := by rw [removed]
      rw [quiet hideAborted recovery, s.thenWakes_of_same]
      case hd => exact congrArg (·.bus.drives) removed
      case hl => exact congrArg (·.lanes) removed
      refine ⟨congrArg (·.gap) removed, congrArg (·.lanes) removed, congrArg (·.tuning) removed, congrArg (·.bus) removed,
        (congrArg (·.gapNotReady) held).trans ?_, (congrArg (·.tuning) held).trans ?_⟩
      · simp [HoldSet.minus, notReady]
      · simp [HoldSet.minus, tuning]
end

section
/-! PROOFS. The operands of a route (R171, R172, R176, R197) and the ROUTE, LINE and TALLY commands (R171, R175, R178,
R182). -/

namespace Sys2Proof.Machine

/-! ## Sources and filters -/

theorem sourceOperand_of_code {b : Byte} {s : Source} (code : b.toNat = s.code) : sourceOperand b = some s := by
  unfold sourceOperand
  rw [code]
  cases s with
  | event k => cases k <;> rfl
  | level l => cases l <;> rfl

theorem code_of_sourceOperand {b : Byte} {s : Source} (named : sourceOperand b = some s) : b.toNat = s.code := by
  unfold sourceOperand at named
  split at named <;> cases named <;> assumption

theorem sourceOperand_eq_some_iff (b : Byte) (s : Source) : sourceOperand b = some s ↔ b.toNat = s.code :=
  ⟨code_of_sourceOperand, sourceOperand_of_code⟩

theorem Source.filterKind_lanes (s : Source) : s.filterKind = .lanes ↔ s.code ≤ 6 ∨ 32 ≤ s.code ∧ s.code ≤ 34 := by
  cases s with
  | event k => cases k <;> decide
  | level l => cases l <;> decide

theorem Source.filterKind_article (s : Source) : s.filterKind = .article ↔ 7 ≤ s.code ∧ s.code ≤ 13 := by
  cases s with
  | event k => cases k <;> decide
  | level l => cases l <;> decide

theorem Source.filterKind_tallies (s : Source) : s.filterKind = .tallies ↔ s.code = 17 := by
  cases s with
  | event k => cases k <;> decide
  | level l => cases l <;> decide

theorem Source.filterKind_none (s : Source) :
    s.filterKind = .none ↔ 14 ≤ s.code ∧ s.code ≤ 16 ∨ 35 ≤ s.code := by
  cases s with
  | event k => cases k <;> decide
  | level l => cases l <;> decide

/-- The filter a source of this code takes from the four bytes of a route. -/
def Filter.fits (f : Filter) (code : Nat) (w : Word) : Prop :=
  match f with
  | .lanes mask => (code ≤ 6 ∨ 32 ≤ code ∧ code ≤ 34) ∧ mask = w
  | .article a => 7 ≤ code ∧ code ≤ 13 ∧ a = w.toNat ∧ a ≤ 65534
  | .tallies mask => code = 17 ∧ mask.toNat = w.toNat
  | .none => 14 ≤ code ∧ code ≤ 16 ∨ 35 ≤ code

theorem setWidth_eq_iff {n m : Nat} (x : BitVec n) (y : BitVec m) : (x.toNat < 2 ^ m ∧ x.setWidth m = y) ↔ y.toNat = x.toNat := by
  constructor
  · rintro ⟨small, rfl⟩
    rw [BitVec.toNat_setWidth, Nat.mod_eq_of_lt small]
  · intro same
    have small : x.toNat < 2 ^ m := same ▸ y.isLt
    refine ⟨small, BitVec.eq_of_toNat_eq ?_⟩
    rw [BitVec.toNat_setWidth, Nat.mod_eq_of_lt small, same]

theorem filterOperand_eq_some_iff (s : Source) (w : Word) (f : Filter) :
    filterOperand s w = some f ↔ f.fits s.code w := by
  cases f with
  | lanes mask =>
    unfold filterOperand
    dsimp only [Filter.fits]
    rw [← s.filterKind_lanes]
    cases s.filterKind <;> simp [eq_comm]
  | article a =>
    unfold filterOperand
    dsimp only [Filter.fits]
    rw [← and_assoc, ← s.filterKind_article]
    cases s.filterKind <;> simp
    exact ⟨fun ⟨small, same⟩ => ⟨same.symm, same ▸ small⟩, fun ⟨same, small⟩ => ⟨same ▸ small, same.symm⟩⟩
  | tallies mask =>
    unfold filterOperand
    dsimp only [Filter.fits]
    rw [← s.filterKind_tallies, ← setWidth_eq_iff w mask]
    cases s.filterKind <;> simp
  | none =>
    unfold filterOperand
    dsimp only [Filter.fits]
    rw [← s.filterKind_none]
    cases s.filterKind <;> simp

/-! ## Tasks -/

theorem taskLinesOperand_eq_some_iff (b : Byte) (lines : BitVec 4) :
    taskLinesOperand b = some lines ↔ lines.toNat = b.toNat ∧ lines ≠ 0 := by
  have zero : lines ≠ 0 ↔ lines.toNat ≠ 0 := not_congr (BitVec.toNat_inj (x := lines) (y := 0)).symm
  rw [zero, taskLinesOperand, lineSetOperand, Option.ite_none_left_eq_some, Option.ite_none_right_eq_some, Option.some_inj,
    show (16 : Nat) = 2 ^ 4 from rfl, setWidth_eq_iff b lines, and_comm]
  exact and_congr_right fun same => by rw [same]

theorem fourOperand_eq_some_iff (b : Byte) (k : Fin 4) : fourOperand b = some k ↔ b.toNat = k.val := by
  unfold fourOperand
  split
  · rw [Option.some_inj, Fin.ext_iff]
  · rename_i large
    exact iff_of_false nofun fun same => large (same ▸ k.isLt)

theorem fourOperand_eq_none {b : Byte} (large : 4 ≤ b.toNat) : fourOperand b = none := dif_neg (Nat.not_lt.mpr large)

/-- The operand of a task, in the bytes of a route that carry it. -/
def Task.fits (t : Task) (o : RouteOperands) : Prop :=
  match t with
  | .pulseLines lines width => lines.toNat = o.lineSet.toNat ∧ lines ≠ 0 ∧ width = o.pulseWidth.toNat ∧ 1 ≤ width
  | .setLines lines => lines.toNat = o.lineSet.toNat ∧ lines ≠ 0
  | .clearLines lines => lines.toNat = o.lineSet.toNat ∧ lines ≠ 0
  | .follow lines => lines.toNat = o.lineSet.toNat ∧ lines ≠ 0
  | .tallyStep k => k.val = o.tallyIndex.toNat
  | _ => True

theorem taskOperand_of_fits {o : RouteOperands} {t : Task} (code : o.task.toNat = t.code) (fits : t.fits o) :
    taskOperand o = some t := by
  unfold taskOperand
  rw [code]
  cases t with
  | attend => rfl
  | holdFeed => rfl
  | stopAtClear => rfl
  | pulseLines lines width =>
    obtain ⟨set, some, widthEq, positive⟩ := fits
    refine (if_neg (by omega)).trans ?_
    rw [(taskLinesOperand_eq_some_iff _ _).mpr ⟨set, some⟩, widthEq]
    rfl
  | setLines lines => exact congrArg (Option.map _) ((taskLinesOperand_eq_some_iff _ _).mpr fits)
  | clearLines lines => exact congrArg (Option.map _) ((taskLinesOperand_eq_some_iff _ _).mpr fits)
  | follow lines => exact congrArg (Option.map _) ((taskLinesOperand_eq_some_iff _ _).mpr fits)
  | tallyStep k => exact congrArg (Option.map _) ((fourOperand_eq_some_iff _ _).mpr fits.symm)

theorem fits_of_taskOperand {o : RouteOperands} {t : Task} (named : taskOperand o = some t) :
    o.task.toNat = t.code ∧ t.fits o := by
  have lines : ∀ {make : BitVec 4 → Task}, (taskLinesOperand o.lineSet).map make = some t →
      ∃ lines, make lines = t ∧ lines.toNat = o.lineSet.toNat ∧ lines ≠ 0 := fun mapped => by
    obtain ⟨lines, set, same⟩ := Option.map_eq_some_iff.mp mapped
    exact ⟨lines, same, (taskLinesOperand_eq_some_iff _ _).mp set⟩
  unfold taskOperand at named
  split at named
  case h_4 code =>
    rw [Option.ite_none_left_eq_some] at named
    obtain ⟨lines, rfl, set, some⟩ := lines named.2
    exact ⟨code, set, some, rfl, Nat.pos_of_ne_zero named.1⟩
  case h_5 code =>
    obtain ⟨lines, rfl, fits⟩ := lines named
    exact ⟨code, fits⟩
  case h_6 code =>
    obtain ⟨lines, rfl, fits⟩ := lines named
    exact ⟨code, fits⟩
  case h_7 code =>
    obtain ⟨lines, rfl, fits⟩ := lines named
    exact ⟨code, fits⟩
  case h_8 code =>
    obtain ⟨k, index, rfl⟩ := Option.map_eq_some_iff.mp named
    exact ⟨code, ((fourOperand_eq_some_iff _ _).mp index).symm⟩
  case h_9 => cases named
  all_goals
    cases named
    exact ⟨‹_›, trivial⟩

theorem taskOperand_eq_some_iff (o : RouteOperands) (t : Task) :
    taskOperand o = some t ↔ o.task.toNat = t.code ∧ t.fits o :=
  ⟨fits_of_taskOperand, fun ⟨code, fits⟩ => taskOperand_of_fits code fits⟩

theorem taskFits_iff (s : Source) (t : Task) :
    taskFits s t = true ↔ ((∃ l, s = .level l) ↔ ∃ lines, t = .follow lines) := by
  cases s <;> cases t <;> simp [taskFits]

/-! ## Routes -/

theorem yesNo_eq_some_iff_number (b : Byte) (v : Bool) : yesNo b = some v ↔ b.toNat = if v = true then 1 else 0 := by
  rw [yesNo_eq_some_iff]
  constructor
  · rintro ⟨bit, rfl⟩
    rcases byte_eq_zero_or_one bit with rfl | rfl <;> rfl
  · intro number
    cases v with
    | false =>
      rw [if_neg Bool.false_ne_true] at number
      exact ⟨by omega, by rw [show b = 0 from BitVec.eq_of_toNat_eq number]; rfl⟩
    | true =>
      rw [if_pos rfl] at number
      exact ⟨by omega, by rw [show b = 1 from BitVec.eq_of_toNat_eq number]; rfl⟩

theorem routeFieldsOperand_eq_some_iff (o : RouteOperands) (r : Route) : routeFieldsOperand o = some r ↔
    o.enabled.toNat = (if r.enabled = true then 1 else 0) ∧ o.source.toNat = r.source.code ∧
      o.task.toNat = r.task.code ∧ r.filter.fits o.source.toNat o.filter ∧ r.task.fits o ∧
      ((∃ l, r.source = .level l) ↔ ∃ lines, r.task = .follow lines) := by
  obtain ⟨enabled, source, filter, task⟩ := r
  rw [← yesNo_eq_some_iff_number, ← taskFits_iff, ← sourceOperand_eq_some_iff]
  constructor
  · intro accepted
    unfold routeFieldsOperand at accepted
    split at accepted
    · rename_i e s t enabledEq sourceEq taskEq
      split at accepted
      · rename_i f filterEq
        rw [Option.ite_none_right_eq_some] at accepted
        obtain ⟨fits, same⟩ := accepted
        cases same
        obtain ⟨code, taskOwn⟩ := (taskOperand_eq_some_iff _ _).mp taskEq
        exact ⟨enabledEq, sourceEq, code,
          (sourceOperand_eq_some_iff _ _).mp sourceEq ▸ (filterOperand_eq_some_iff _ _ _).mp filterEq, taskOwn, fits⟩
      · cases accepted
    · cases accepted
  · rintro ⟨enabledEq, sourceEq, code, filterOwn, taskOwn, fits⟩
    have filterEq : filterOperand source o.filter = some filter := by
      rw [filterOperand_eq_some_iff, ← (sourceOperand_eq_some_iff _ _).mp sourceEq]
      exact filterOwn
    simp only [routeFieldsOperand, enabledEq, sourceEq, (taskOperand_eq_some_iff o task).mpr ⟨code, taskOwn⟩, filterEq]
    exact if_pos fits

theorem Task.code_le (t : Task) : t.code ≤ 7 := by
  cases t <;> exact of_decide_eq_true rfl

/-- A task with a line set carries one of S0 to S3 that is not empty. -/
theorem Task.lineSet_of_fits {t : Task} {o : RouteOperands} (fits : t.fits o) (takesLines : 3 ≤ t.code ∧ t.code ≤ 6) :
    o.lineSet.toNat ≠ 0 ∧ o.lineSet.toNat < 16 := by
  have nonempty : ∀ lines : BitVec 4, lines.toNat = o.lineSet.toNat → lines ≠ 0 →
      o.lineSet.toNat ≠ 0 ∧ o.lineSet.toNat < 16 := fun lines same some =>
    ⟨fun zero => some (BitVec.eq_of_toNat_eq (same.trans zero)), same ▸ lines.isLt⟩
  cases t with
  | pulseLines lines width => exact nonempty lines fits.1 fits.2.1
  | setLines lines => exact nonempty lines fits.1 fits.2
  | clearLines lines => exact nonempty lines fits.1 fits.2
  | follow lines => exact nonempty lines fits.1 fits.2
  | attend => exact absurd takesLines (by decide)
  | holdFeed => exact absurd takesLines (by decide)
  | stopAtClear => exact absurd takesLines (by decide)
  | tallyStep k => exact absurd takesLines.2 (by simp [Task.code])

theorem routeFieldsOperand_eq_none {o : RouteOperands} (out : 1 < o.enabled.toNat ∨ 7 < o.task.toNat ∨
    ((o.task.toNat = 3 ∨ o.task.toNat = 4 ∨ o.task.toNat = 5 ∨ o.task.toNat = 6) ∧
      (o.lineSet.toNat = 0 ∨ 16 ≤ o.lineSet.toNat)) ∨
    (o.task.toNat = 3 ∧ o.pulseWidth.toNat = 0) ∨ (o.task.toNat = 7 ∧ 4 ≤ o.tallyIndex.toNat)) :
    routeFieldsOperand o = none := by
  cases accepted : routeFieldsOperand o with
  | none => rfl
  | some r =>
    obtain ⟨enabled, _, code, _, fits, _⟩ := (routeFieldsOperand_eq_some_iff o r).mp accepted
    exfalso
    rcases out with large | large | ⟨takesLines, bad⟩ | ⟨pulse, zero⟩ | ⟨step, large⟩
    · split at enabled <;> omega
    · have := r.task.code_le
      omega
    · have lines := Task.lineSet_of_fits fits (by omega)
      omega
    · cases task : r.task with
      | pulseLines lines width =>
        rw [task] at fits
        obtain ⟨_, _, same, positive⟩ := fits
        omega
      | _ => rw [task, pulse] at code; cases code
    · cases task : r.task with
      | tallyStep k =>
        rw [task] at fits
        exact absurd k.isLt (Nat.not_lt.mpr (le_of_le_of_eq large fits.symm))
      | _ => rw [task, step] at code; cases code

end Sys2Proof.Machine
end

section
/-! PROOFS. The ROUTE, LINE and TALLY commands (R171, R175, R178, R182). -/

namespace Sys2Proof.Machine

/-! ## ROUTE WRITE -/

theorem routeOperand_of_index {index : Byte} {i : Fin 16} (number : index.toNat = i.val) : routeOperand index = some i :=
  (dif_pos (number ▸ i.isLt)).trans (congrArg some (Fin.ext number))

theorem routeWrite_range {index : Byte} {o : RouteOperands} (out : 16 ≤ index.toNat ∨ routeFieldsOperand o = none)
    (p : Part) : routeWrite index o p = (p, refusal .range) := by
  unfold routeWrite
  split
  · rename_i i r named given
    rcases out with large | none
    · rw [routeOperand, dif_neg (Nat.not_lt.mpr large)] at named
      cases named
    · rw [none] at given
      cases given
  · rfl

theorem routeWrite_taken {index : Byte} {o : RouteOperands} {i : Fin 16} {r : Route} (number : index.toNat = i.val)
    (given : routeFieldsOperand o = some r) (p : Part) :
    routeWrite index o p = (p.setRoutes (p.routes.set i.val r), answerOk []) := by
  rw [routeWrite, routeOperand_of_index number, given]

/-! ## LINE WRITE and LINE CLEAR -/

theorem lineWrite_range {line mode drive level : Byte}
    (out : 4 ≤ line.toNat ∨ 2 ≤ mode.toNat ∨ 2 ≤ drive.toNat ∨ 2 ≤ level.toNat) (p : Part) :
    lineWrite line mode drive level p = (p, refusal .range) := by
  unfold lineWrite
  split
  · rename_i i m d active named modeEq driveEq levelEq
    rcases out with large | large | large | large
    · rw [fourOperand_eq_none large] at named
      cases named
    · rw [lineModeOperand, (yesNo_eq_none_iff _).mpr large] at modeEq
      cases modeEq
    · rw [lineDriveOperand, (yesNo_eq_none_iff _).mpr large] at driveEq
      cases driveEq
    · rw [(yesNo_eq_none_iff _).mpr large] at levelEq
      cases levelEq
  · rfl

theorem not_beq_zero_eq {b : Byte} (bit : b.toNat < 2) : (!(b == 0)) = decide (b = 1) := by
  rcases byte_eq_zero_or_one (Nat.le_of_lt_succ bit) with rfl | rfl <;> rfl

theorem lineWrite_taken {line mode drive level : Byte} {i : Fin 4} (number : line.toNat = i.val) (modeBit : mode.toNat < 2)
    (driveBit : drive.toNat < 2) (levelBit : level.toNat < 2) (p : Part) : lineWrite line mode drive level p =
      (p.setLines (p.lines.set i.val { p.line i with
        mode := if mode = 0 then .routed else .direct
        drive := if drive = 0 then .pushPull else .openDrain
        directActive := level = 1 }), answerOk []) := by
  simp only [lineWrite, (fourOperand_eq_some_iff line i).mpr number, lineModeOperand, lineDriveOperand,
    yesNo_of_le (Nat.le_of_lt_succ modeBit), yesNo_of_le (Nat.le_of_lt_succ driveBit),
    yesNo_of_le (Nat.le_of_lt_succ levelBit), Option.map_some, ite_not_beq_zero, not_beq_zero_eq levelBit]

theorem changeLines_getElem (set : BitVec 4) (f : Line → Line) (lines : Vector Line 4) (i : Fin 4) :
    (changeLines set f lines)[i.val] = if set.getLsbD i.val = true then f lines[i.val] else lines[i.val] := by
  rw [changeLines, Vector.getElem_ofFn]

theorem lineClear_range {lines : Byte} (large : 16 ≤ lines.toNat) (p : Part) : lineClear lines p = (p, refusal .range) := by
  rw [lineClear, lineSetOperand, if_neg (Nat.not_lt.mpr large)]

theorem lineClear_taken {lines : Byte} (small : lines.toNat < 16) (p : Part) :
    lineClear lines p = (p.setLines (changeLines (lines.setWidth 4) Line.clear p.lines), answerOk []) := by
  rw [lineClear, lineSetOperand, if_pos small]

/-! ## TALLY WRITE and TALLY RESET -/

theorem tallyScopeOperand_running : tallyScopeOperand 0 = some .running := rfl

theorem tallyScopeOperand_perHide : tallyScopeOperand 1 = some .perHide := rfl

theorem tallyWrite_range {tally scope flags : Byte}
    (out : 4 ≤ tally.toNat ∨ 2 ≤ scope.toNat ∨ (scope = 0 ∧ flags.getLsbD 0 = true)) (threshold : Word) (p : Part) :
    tallyWrite tally threshold scope flags p = (p, refusal .range) := by
  unfold tallyWrite
  split
  · rename_i i sc named scopeEq
    rcases out with large | large | ⟨running, invert⟩
    · rw [fourOperand_eq_none large] at named
      cases named
    · rw [tallyScopeOperand, (yesNo_eq_none_iff _).mpr large] at scopeEq
      cases scopeEq
    · rw [running, tallyScopeOperand_running] at scopeEq
      cases scopeEq
      exact if_pos invert
  · rfl

theorem tallyWrite_taken {tally scope flags : Byte} {i : Fin 4} (number : tally.toNat = i.val)
    (fits : scope = 0 ∧ flags.getLsbD 0 = false ∨ scope = 1) (threshold : Word) (p : Part) :
    tallyWrite tally threshold scope flags p = (p.setTallies (p.tallies.set i.val ⟨(p.tallies[i.val]).count, threshold,
      if scope = 0 then .running else .perHide, flags.getLsbD 0, flags.getLsbD 1, flags.getLsbD 2⟩), answerOk []) := by
  rw [tallyWrite, (fourOperand_eq_some_iff tally i).mpr number]
  rcases fits with ⟨rfl, upright⟩ | rfl
  · rw [tallyScopeOperand_running]
    exact if_neg (by rw [upright]; nofun)
  · rw [tallyScopeOperand_perHide]
    exact if_neg nofun

theorem tallyReset_range {tally : Byte} (large : 4 ≤ tally.toNat) (p : Part) : tallyReset tally p = (p, refusal .range) := by
  rw [tallyReset, fourOperand_eq_none large]

theorem tallyReset_taken {tally : Byte} {i : Fin 4} (number : tally.toNat = i.val) (p : Part) : tallyReset tally p =
    (p.setTallies (p.tallies.set i.val { p.tallies[i.val] with count := 0 }), answerOk []) := by
  rw [tallyReset, (fourOperand_eq_some_iff tally i).mpr number]

end Sys2Proof.Machine

open Sys2Proof Sys2Proof.Machine

/-- Settles O54: the operands a route carries, and each command by its operands. -/
theorem reactionCommandsDecide : Obligations.ReactionCommandsDecide := by
  refine ⟨fun o r => routeFieldsOperand_eq_some_iff o r, fun s accept => ⟨fun index o out => ?_,
    fun index o i r number given => ?_, fun o out => routeFieldsOperand_eq_none out, fun o r given => ?_,
    fun line mode drive level out => ?_, fun line mode drive level i number modeBit driveBit levelBit => ?_,
    fun lines large => ?_, fun lines small => ⟨_, exec_command (c := .lineClear lines) (a := answerOk []) rfl accept
      (lineClear_taken small s.toPart), rfl, fun i => ?_⟩,
    fun tally threshold scope flags out => ?_, fun tally threshold scope flags i number fits => ?_,
    fun tally large => ?_, fun tally i number => ?_, fun i => exec_of_effect (c := .pulseTimerExpiry i) rfl⟩⟩
  · exact exec_command (c := .routeWrite index o) (a := refusal .range) rfl accept (routeWrite_range out _)
  · exact exec_command (c := .routeWrite index o) (a := answerOk []) rfl accept (routeWrite_taken number given _)
  · obtain ⟨_, _, _, _, _, fits⟩ := (routeFieldsOperand_eq_some_iff o r).mp given
    exact fits
  · exact exec_command (c := .lineWrite line mode drive level) (a := refusal .range) rfl accept (lineWrite_range out _)
  · exact exec_command (c := .lineWrite line mode drive level) (a := answerOk []) rfl accept
      (lineWrite_taken number modeBit driveBit levelBit _)
  · exact exec_command (c := .lineClear lines) (a := refusal .range) rfl accept (lineClear_range large _)
  · have bit : (lines.setWidth 4).getLsbD i.val = lines.getLsbD i.val := by
      rw [BitVec.getLsbD_setWidth, decide_eq_true i.isLt, Bool.true_and]
    exact (changeLines_getElem _ _ _ i).trans (by rw [bit]; rfl)
  · exact exec_command (c := .tallyWrite tally threshold scope flags) (a := refusal .range) rfl accept
      (tallyWrite_range out threshold _)
  · exact exec_command (c := .tallyWrite tally threshold scope flags) (a := answerOk []) rfl accept
      (tallyWrite_taken number fits threshold _)
  · exact exec_command (c := .tallyReset tally) (a := refusal .range) rfl accept (tallyReset_range large _)
  · exact exec_command (c := .tallyReset tally) (a := answerOk []) rfl accept (tallyReset_taken number _)
end

section
/-! PROOFS. Events and their routes (R172 to R175, R179): what passes a filter, and the one route that fires. -/

namespace Sys2Proof.Machine

/-! ## Filters -/

theorem passes_lane (mask : BitVec 32) (n : LaneNo) : ([n].any fun m => mask.getLsbD m.val) = mask.getLsbD n.val :=
  Bool.or_false _

theorem passes_boardFault (mask : BitVec 32) (b : BoardNo) (kind : BoardFaultKind) :
    (Filter.lanes mask).passes (.boardFault b kind) = true ↔
      ∃ n : LaneNo, n.val / 8 = b.val ∧ mask.getLsbD n.val = true := by
  change ((lanesOfBoard b).any fun n => mask.getLsbD n.val) = true ↔ _
  simp only [List.any_eq_true, mem_lanesOfBoard]

/-! ## The routes that fire -/

theorem Route.fires_iff (r : Route) (e : Event) : r.fires e = true ↔
    r.enabled = true ∧ r.source = .event e.kind ∧ r.filter.passes e = true := by
  rw [Route.fires, Bool.and_eq_true, Bool.and_eq_true, beq_iff_eq, and_assoc]

theorem Route.fires_eq_false {r : Route} {e : Event} (no : r.enabled = false ∨ r.source ≠ .event e.kind ∨
    r.filter.passes e = false) : r.fires e = false := by
  rw [← Bool.not_eq_true, r.fires_iff]
  rintro ⟨enabled, source, passes⟩
  rcases no with disabled | other | stopped
  · exact Bool.noConfusion (disabled.symm.trans enabled)
  · exact other source
  · exact Bool.noConfusion (stopped.symm.trans passes)

theorem Part.mem_routes {p : Part} {r : Route} (member : r ∈ p.routes.toList) : ∃ i : Fin 16, r = p.routes[i.val] := by
  obtain ⟨i, small, rfl⟩ := List.mem_iff_getElem.mp member
  exact ⟨⟨i, by simpa using small⟩, by simp⟩

/-- One route fires on the event, and none on what its task raises (R173, R174). -/
theorem raise_one {e : Event} {p : Part} {i : Fin 16} (fires : (p.routes[i.val]).fires e = true)
    (others : ∀ k : Fin 16, k ≠ i → (p.routes[k.val]).fires e = false)
    (quiet : ∀ x ∈ (performTask p (p.routes[i.val]).task p.reaction).2, ∀ route ∈ p.routes.toList, route.fires x = false) :
    raise e p = p.withReaction (performTask p (p.routes[i.val]).task p.reaction).1 := by
  have served := serveRoutes_one p e p.routes i p.reaction fires others
  change p.withReaction (serveEvents p 4 ([] ++ (serveRoutes p e p.routes.toList p.reaction).2)
    (serveRoutes p e p.routes.toList p.reaction).1) = _
  rw [served, serveEvents_of_none p 4 _ _ (by rwa [List.nil_append])]

theorem raise_task {e : Event} {p : Part} {i : Fin 16} {t : Task} (fires : (p.routes[i.val]).fires e = true)
    (others : ∀ k : Fin 16, k ≠ i → (p.routes[k.val]).fires e = false) (task : (p.routes[i.val]).task = t)
    (silent : (performTask p t p.reaction).2 = []) :
    raise e p = p.withReaction (performTask p t p.reaction).1 := by
  subst task
  exact raise_one fires others (by rw [silent]; nofun)

/-- FEED STOP AT CLEAR by the run state and the passage of records (R67). -/
theorem RunState.stopAtClear_eq {p : Part} {r : RunState} (stopped : p.feed.runState = .stopped → r = .stopped)
    (stopping : p.feed.runState = .stoppingAtClear → r = .stoppingAtClear)
    (moving : p.feed.runState = .running ∨ p.feed.runState = .stoppingBeforeNext →
      ((∃ h ∈ p.hides, h.state = .entering ∨ h.state = .splitting) → r = .stoppingAtClear) ∧
      ((∀ h ∈ p.hides, h.state ≠ .entering ∧ h.state ≠ .splitting) → r = .stopped)) :
    p.feed.runState.stopAtClear p.anyInPassage = r := by
  have moves : p.feed.runState = .running ∨ p.feed.runState = .stoppingBeforeNext →
      (if p.anyInPassage = true then RunState.stoppingAtClear else .stopped) = r := fun state => by
    by_cases passage : p.anyInPassage = true
    · rw [if_pos passage]
      exact ((moving state).1 (p.anyInPassage_iff.mp passage)).symm
    · rw [if_neg passage]
      exact ((moving state).2 (p.anyInPassage_eq_false_iff.mp (Bool.eq_false_of_not_eq_true passage))).symm
  cases state : p.feed.runState with
  | stopped => exact (stopped state).symm
  | running => exact moves (.inl state)
  | stoppingAtClear => exact (stopping state).symm
  | stoppingBeforeNext => exact moves (.inr state)

/-! ## A tally's step -/

theorem Tally.frozenNow_eq_true {t : Tally} {line : Bool} (frozen : t.frozen = true ∨ (t.freezeOnStop = true ∧ line = true)) :
    t.frozenNow line = true := by
  rw [Tally.frozenNow, Bool.or_eq_true, Bool.and_eq_true]
  exact frozen

theorem Tally.frozenNow_eq_false {t : Tally} {line : Bool} (free : t.frozen = false)
    (onStop : t.freezeOnStop = false ∨ line = false) : t.frozenNow line = false := by
  rcases onStop with onStop | onStop <;> simp [Tally.frozenNow, free, onStop]

theorem stepTally_frozen {line : Bool} {k : Fin 4} {r : Reaction} (frozen : (r.tallies[k.val]).frozenNow line = true) :
    stepTally line k r = (r, []) := if_pos frozen

theorem stepTally_counts {line : Bool} {k : Fin 4} {r : Reaction} (free : (r.tallies[k.val]).frozenNow line = false) :
    stepTally line k r = ({ r with tallies := r.tallies.set k.val (r.tallies[k.val]).step },
      if (r.tallies[k.val]).step.reachedByStep then [.tallyReached k (r.tallies[k.val]).step.count] else []) :=
  if_neg (by rw [free]; nofun)

theorem Tally.reachedByStep_eq_false {t : Tally} (no : t.scope = .perHide ∨ t.count + 1 ≠ t.threshold) :
    t.step.reachedByStep = false := by
  rcases no with perHide | short
  · simp [Tally.reachedByStep, Tally.step, perHide]
  · rw [Tally.reachedByStep, Bool.and_eq_false_iff]
    exact .inr (beq_false_of_ne short)

end Sys2Proof.Machine

open Sys2Proof Sys2Proof.Machine

/-- Settles O55: the filters, and the task of the one route that fires. -/
theorem eventsActThroughRoutes : Obligations.EventsActThroughRoutes := by
  refine ⟨fun mask n lane tune => ?_, passes_boardFault, fun code ticket article => rfl, fun mask i count => rfl,
    fun e => rfl, fun e p => ⟨raise_onlyRoutes e p, fun none => ?_, fun i enabled source passes alone =>
    ⟨fun task => ?_, fun task => ?_, fun task r decided => ?_, fun lines act acts => ?_,
      fun k task t eq => ⟨fun frozen => ?_, fun free onStop quiet => ?_⟩⟩⟩⟩
  · change List.replicate 6 ([n].any fun m => mask.getLsbD m.val) = _
    rw [passes_lane]
  · refine raise_of_none e p fun route member => ?_
    obtain ⟨i, rfl⟩ := p.mem_routes member
    exact Route.fires_eq_false (none i)
  all_goals
    have fires : (p.routes[i.val]).fires e = true := (Route.fires_iff _ e).mpr ⟨enabled, source, passes⟩
    have others : ∀ k : Fin 16, k ≠ i → ∀ x, (p.routes[k.val]).fires x = false := fun k other x =>
      Route.fires_eq_false (.inl (alone k other))
    have one := fun t task => raise_task (t := t) fires (fun k other => others k other e) task
  · exact one .attend task rfl
  · exact one .holdFeed task rfl
  · obtain ⟨stopped, stopping, moving⟩ := decided
    rw [one .stopAtClear task rfl, ← RunState.stopAtClear_eq stopped stopping moving]
    rfl
  · have acted : raise e p = { p with lines := changeLines lines act p.lines } := by
      rcases acts with ⟨task, rfl⟩ | ⟨task, rfl⟩ | ⟨width, task, rfl⟩
      · exact one (.setLines lines) task rfl
      · exact one (.clearLines lines) task rfl
      · exact one (.pulseLines lines width) task rfl
    refine ⟨by rw [acted], fun k => ?_⟩
    rw [acted]
    exact changeLines_getElem lines act p.lines k
  · subst eq
    have stands : performTask p (.tallyStep k) p.reaction = (p.reaction, []) :=
      stepTally_frozen (Tally.frozenNow_eq_true frozen)
    rw [one (.tallyStep k) task (congrArg Prod.snd stands), stands]
    rfl
  · subst eq
    have counts : performTask p (.tallyStep k) p.reaction = _ := stepTally_counts (Tally.frozenNow_eq_false free onStop)
    have acted : raise e p = p.withReaction (performTask p (.tallyStep k) p.reaction).1 := by
      by_cases reached : ((p.tallies[k.val]).step.reachedByStep) = true
      · have other : e.kind ≠ .tallyReached := by
          refine quiet.resolve_right fun no => ?_
          rw [Tally.reachedByStep_eq_false no] at reached
          cases reached
        rw [← task]
        refine raise_one fires (fun j differs => others j differs e) fun x raised route member => ?_
        rw [task, counts] at raised
        obtain rfl := List.mem_singleton.mp ((if_pos reached) ▸ raised)
        obtain ⟨j, rfl⟩ := p.mem_routes member
        by_cases same : j = i
        · subst same
          refine Route.fires_eq_false (.inr (.inl ?_))
          rw [source]
          exact fun kinds => other (Source.event.inj kinds)
        · exact others j same _
      · exact one (.tallyStep k) task ((congrArg Prod.snd counts).trans (if_neg reached))
    rw [acted, counts]
    rfl
end

section
/-! PROOFS. Two routes on one event (R173, R179). -/

namespace Sys2Proof.Machine

/-! ## Quiet tasks -/

/-- No route fires on the TALLY_REACHED events that a task can raise. -/
def Part.quietAfter (p : Part) (t : Task) : Prop :=
  ∀ (k : Fin 4) (count : Word), t = .tallyStep k → ∀ i : Fin 16, (p.routes[i.val]).fires (.tallyReached k count) = false

theorem Part.quietAfter_of_noTally (p : Part) {t : Task} (other : ∀ k, t ≠ .tallyStep k) : p.quietAfter t :=
  fun k _ same => absurd same (other k)

theorem performTask_quiet {p q : Part} {t : Task} {r : Reaction} (quiet : p.quietAfter t) :
    ∀ e ∈ (performTask q t r).2, ∀ route ∈ p.routes.toList, route.fires e = false := by
  intro e raised route member
  obtain ⟨i, rfl⟩ := p.mem_routes member
  rcases performTask_events q t r with none | ⟨k, count, task, one⟩
  · rw [none] at raised
    cases raised
  · rw [one, List.mem_singleton] at raised
    rw [raised]
    exact quiet k count task i

/-- A route on events of this kind that passes no TALLY_REACHED of its tally fires on none. -/
theorem Route.quiet {r : Route} {e : Event} (source : r.source = .event e.kind) {k : Fin 4} {count : Word}
    (own : e.kind ≠ .tallyReached ∨ r.filter.passes (.tallyReached k count) = false) :
    r.fires (.tallyReached k count) = false := by
  refine Route.fires_eq_false (.inr (own.imp (fun other => ?_) id))
  rw [source]
  exact fun kinds => other (Source.event.inj kinds)

/-! ## One route enabled -/

/-- A task looks at the records and at the STOP line alone, which `q` shares. -/
theorem raise_alone {e : Event} {p : Part} (q : Part) (hides : p.hides = q.hides)
    (line : p.feed.stopLine = q.feed.stopLine) {i : Fin 16} {r : Route} (index : p.routes[i.val] = r)
    (enabled : r.enabled = true) (source : r.source = .event e.kind) (passes : r.filter.passes e = true)
    (alone : ∀ k : Fin 16, k ≠ i → (p.routes[k.val]).enabled = false)
    (own : e.kind ≠ .tallyReached ∨ ∀ (k : Fin 4) (count : Word), r.task = .tallyStep k →
      r.filter.passes (.tallyReached k count) = false) :
    raise e p = p.withReaction (performTask q r.task p.reaction).1 := by
  subst index
  rw [← performTask_congr p q _ _ hides line]
  refine raise_one ((Route.fires_iff _ e).mpr ⟨enabled, source, passes⟩)
    (fun k other => Route.fires_eq_false (.inl (alone k other))) (performTask_quiet fun k count task j => ?_)
  by_cases same : j = i
  · subst same
    exact Route.quiet source (own.imp id fun own => own k count task)
  · exact Route.fires_eq_false (.inl (alone j same))

/-! ## Two routes enabled -/

theorem raise_two {e : Event} {p : Part} {i j : Fin 16} (ascending : i < j) (firesFirst : (p.routes[i.val]).fires e = true)
    (firesSecond : (p.routes[j.val]).fires e = true)
    (others : ∀ k : Fin 16, k ≠ i → k ≠ j → (p.routes[k.val]).fires e = false)
    (quietFirst : p.quietAfter (p.routes[i.val]).task) (quietSecond : p.quietAfter (p.routes[j.val]).task) :
    raise e p = p.withReaction (performTask p (p.routes[j.val]).task
      (performTask p (p.routes[i.val]).task p.reaction).1).1 := by
  have served := serveRoutes_two p e p.routes i j p.reaction ascending firesFirst firesSecond others
  change p.withReaction (serveEvents p 4 ([] ++ (serveRoutes p e p.routes.toList p.reaction).2)
    (serveRoutes p e p.routes.toList p.reaction).1) = _
  rw [served, List.nil_append, serveEvents_of_none]
  intro x raised
  rcases List.mem_append.mp raised with raised | raised
  · exact performTask_quiet quietFirst x raised
  · exact performTask_quiet quietSecond x raised

theorem routes_set_same (routes : Vector Route 16) (i : Fin 16) (r : Route) : (routes.set i.val r)[i.val] = r := by
  rw [Vector.getElem_set_self]

theorem routes_set_other {i k : Fin 16} (differs : k ≠ i) (routes : Vector Route 16) (r : Route) :
    (routes.set i.val r)[k.val] = routes[k.val] :=
  Vector.getElem_set_ne _ _ fun same => differs (Fin.ext same.symm)

/-- With one of two routes disabled, the other is enabled alone. -/
theorem disabled_others {routes : Vector Route 16} {i j : Fin 16}
    (alone : ∀ k : Fin 16, k ≠ i → k ≠ j → (routes[k.val]).enabled = false) (k : Fin 16) (other : k ≠ i) :
    ((routes.set j.val { routes[j.val] with enabled := false })[k.val]).enabled = false := by
  by_cases same : k = j
  · subst same
    rw [routes_set_same]
  · rw [routes_set_other same]
    exact alone k other same

/-! ## The order of two tasks on a line -/

theorem latched_set_clear (first second : BitVec 4) (lines : Vector Line 4) (k : Fin 4) :
    ((changeLines second Line.clear (changeLines first Line.set lines))[k.val]).latched =
      (!second.getLsbD k.val && (first.getLsbD k.val || (lines[k.val]).latched)) := by
  simp only [changeLines_getElem]
  cases first.getLsbD k.val <;> cases second.getLsbD k.val <;> simp [Line.set, Line.clear]

theorem latched_clear_set (first second : BitVec 4) (lines : Vector Line 4) (k : Fin 4) :
    ((changeLines second Line.set (changeLines first Line.clear lines))[k.val]).latched =
      (second.getLsbD k.val || (!first.getLsbD k.val && (lines[k.val]).latched)) := by
  simp only [changeLines_getElem]
  cases first.getLsbD k.val <;> cases second.getLsbD k.val <;> simp [Line.set, Line.clear]

/-! ## A TALLY_REACHED that a step raises -/

/-- The events a task raises are served after the routes of the event (R173). -/
theorem raise_serves {e : Event} {p : Part} {i : Fin 16} {t : Task} (fires : (p.routes[i.val]).fires e = true)
    (others : ∀ k : Fin 16, k ≠ i → (p.routes[k.val]).fires e = false) (task : (p.routes[i.val]).task = t) :
    raise e p = p.withReaction (serveEvents p 4 (performTask p t p.reaction).2 (performTask p t p.reaction).1) := by
  subst task
  have served := serveRoutes_one p e p.routes i p.reaction fires others
  change p.withReaction (serveEvents p 4 ([] ++ (serveRoutes p e p.routes.toList p.reaction).2)
    (serveRoutes p e p.routes.toList p.reaction).1) = _
  rw [served, List.nil_append]

/-- One route on TALLY_REACHED attends, where its tally is in the mask. -/
theorem serveEvents_attend {p : Part} {x : Event} {j : Fin 16} {r : Reaction} {passes : Bool}
    (fires : (p.routes[j.val]).fires x = passes) (others : ∀ k : Fin 16, k ≠ j → (p.routes[k.val]).fires x = false)
    (task : (p.routes[j.val]).task = .attend) : serveEvents p 4 [x] r =
      { r with attention := { r.attention with route := r.attention.route || passes } } := by
  cases passes with
  | true =>
    have served := serveRoutes_one p x p.routes j r fires others
    rw [task] at served
    change serveEvents p 3 ([] ++ (serveRoutes p x p.routes.toList r).2) (serveRoutes p x p.routes.toList r).1 = _
    rw [served, Bool.or_true]
    rfl
  | false =>
    rw [Bool.or_false]
    refine serveEvents_of_none p 4 [x] r fun e raised route member => ?_
    obtain ⟨k, rfl⟩ := p.mem_routes member
    rw [List.mem_singleton.mp raised]
    by_cases same : k = j
    · subst same
      exact fires
    · exact others k same

end Sys2Proof.Machine

open Sys2Proof Sys2Proof.Machine

/-- Settles O56: both routes' tasks in ascending order, and a TALLY_REACHED served after the step that raised it. -/
theorem routesActInAscendingOrder : Obligations.RoutesActInAscendingOrder := by
  intro e p i j enabledFirst enabledSecond sourceFirst passesFirst alone
  have firesFirst : (p.routes[i.val]).fires e = true := (Route.fires_iff _ e).mpr ⟨enabledFirst, sourceFirst, passesFirst⟩
  have others : ∀ k : Fin 16, k ≠ i → k ≠ j → ∀ x, (p.routes[k.val]).fires x = false := fun k notFirst notSecond x =>
    Route.fires_eq_false (.inl (alone k notFirst notSecond))
  refine ⟨fun ascending sourceSecond passesSecond quiet first second firstEq secondEq => ?_,
    fun first second ascending sourceSecond passesSecond k => ?_,
    fun k mask t kind taskFirst sourceSecond filterSecond taskSecond eq free onStop => ?_⟩
  · have firesSecond : (p.routes[j.val]).fires e = true :=
      (Route.fires_iff _ e).mpr ⟨enabledSecond, sourceSecond, passesSecond⟩
    have silent : ∀ t, ((p.routes[i.val]).task = t ∨ (p.routes[j.val]).task = t) → p.quietAfter t := by
      rintro t own k count rfl x
      by_cases isFirst : x = i
      · subst isFirst
        exact Route.quiet sourceFirst (quiet.imp id fun quiet => (quiet k count own).1)
      · by_cases isSecond : x = j
        · subst isSecond
          exact Route.quiet sourceSecond (quiet.imp id fun quiet => (quiet k count own).2)
        · exact others x isFirst isSecond _
    have both := raise_two ascending firesFirst firesSecond (fun k a b => others k a b e) (silent _ (.inl rfl))
      (silent _ (.inr rfl))
    have differs : i ≠ j := ne_of_lt ascending
    have actedFirst : first = _ := firstEq.trans (raise_alone p (by rfl) (by rfl) (i := i) (routes_set_other differs _ _) enabledFirst sourceFirst
      passesFirst (disabled_others alone) (quiet.imp id fun quiet k count task => (quiet k count (.inl task)).1))
    have hides : first.hides = p.hides := by rw [actedFirst]; rfl
    have line : first.feed.stopLine = p.feed.stopLine := by rw [actedFirst]; rfl
    have actedSecond : second = _ := secondEq.trans (raise_alone p (by exact hides) (by exact line) (i := j) (routes_set_other differs.symm _ _) enabledSecond
      sourceSecond passesSecond (disabled_others fun k notSecond notFirst => alone k notFirst notSecond)
      (quiet.imp id fun quiet k count task => (quiet k count (.inr task)).2))
    rw [both, actedSecond, actedFirst]
    rfl
  · have firesSecond : (p.routes[j.val]).fires e = true :=
      (Route.fires_iff _ e).mpr ⟨enabledSecond, sourceSecond, passesSecond⟩
    have both := raise_two ascending firesFirst firesSecond (fun k a b => others k a b e)
    refine ⟨fun taskFirst taskSecond => ?_, fun taskFirst taskSecond => ?_⟩
    · rw [both (p.quietAfter_of_noTally fun k => by rw [taskFirst]; nofun)
        (p.quietAfter_of_noTally fun k => by rw [taskSecond]; nofun), taskFirst, taskSecond]
      exact latched_set_clear first second p.lines k
    · rw [both (p.quietAfter_of_noTally fun k => by rw [taskFirst]; nofun)
        (p.quietAfter_of_noTally fun k => by rw [taskSecond]; nofun), taskFirst, taskSecond]
      exact latched_clear_set first second p.lines k
  · subst eq
    have silentSecond : (p.routes[j.val]).fires e = false := by
      refine Route.fires_eq_false (.inr (.inl ?_))
      rw [sourceSecond]
      exact fun kinds => kind (Source.event.inj kinds).symm
    have counts : performTask p (.tallyStep k) p.reaction = _ := stepTally_counts (Tally.frozenNow_eq_false free onStop)
    have othersFirst : ∀ x : Fin 16, x ≠ i → (p.routes[x.val]).fires e = false := fun x notFirst => by
      by_cases isSecond : x = j
      · subst isSecond
        exact silentSecond
      · exact others x notFirst isSecond e
    rw [raise_serves firesFirst othersFirst taskFirst, counts]
    dsimp only
    have step : (p.reaction.tallies[k.val]).step.reachedByStep =
      ((p.tallies[k.val]).scope == .running && (p.tallies[k.val]).count + 1 == (p.tallies[k.val]).threshold) := rfl
    rw [step]
    cases (p.tallies[k.val]).scope == .running && (p.tallies[k.val]).count + 1 == (p.tallies[k.val]).threshold with
    | false =>
      rw [Bool.false_and, Bool.or_false]
      rfl
    | true =>
      have firesSecond : ∀ count, (p.routes[j.val]).fires (.tallyReached k count) = mask.getLsbD k.val := fun count => by
        rw [Route.fires, enabledSecond, sourceSecond, filterSecond]
        rfl
      have othersSecond : ∀ count, ∀ x : Fin 16, x ≠ j → (p.routes[x.val]).fires (.tallyReached k count) = false :=
        fun count x notSecond => by
          by_cases isFirst : x = i
          · subst isFirst
            exact Route.quiet sourceFirst (.inl kind)
          · exact others x isFirst notSecond _
      rw [if_pos rfl, serveEvents_attend (firesSecond _) (othersSecond _) taskSecond]
      rfl
end

section
/-! PROOFS. How the trials and phases of a member close (R125 to R129). -/

namespace Sys2Proof.Machine

/-! ## The offset -/

theorem setOffset_below {m : Member} {average : Nat} {p : Part}
    (below : average < (p.laneTuning m.lane).settings.target) (gain : Nat) :
    setOffset m gain average p = failMember m .offsetMin p :=
  if_pos (by omega)

theorem setOffset_taken {m : Member} {average : Nat} {p : Part}
    (reached : (p.laneTuning m.lane).settings.target ≤ average) (gain : Nat) : setOffset m gain average p =
      (p.setLane m.lane { p.lane m.lane with
        calibration := ⟨gain, (average - (p.laneTuning m.lane).settings.target) / 4⟩ }).modifyMember m.lane
          fun _ => m.begin .verify := by
  have offset : ((average : Int) - ((p.laneTuning m.lane).settings.target : Int)) / 4 =
      ((average - (p.laneTuning m.lane).settings.target) / 4 : Nat) := by omega
  unfold setOffset
  rw [offset]
  exact if_neg (by omega)

/-! ## The gain search -/

/-- The base and the passing average after a trial (R126): the limit is the settings' base. -/
def afterTrial (limit average step base passing : Nat) : Nat × Nat :=
  (if average ≤ limit then base + step else base, if average ≤ limit then average else passing)

section
variable {m : Member} {trial base passing average : Nat} {p : Part} {after : Nat × Nat}
  (taken : after = afterTrial (p.laneTuning m.lane).settings.base average (trialStep trial) base passing)
include taken

theorem closeGain_eq : closeGain m trial base passing average p =
    if trial < 4 then
      (p.setLane m.lane { p.lane m.lane with calibration := ⟨after.1 + trialStep (trial + 1), 0⟩ }).modifyMember m.lane
        fun _ => { m with lastAverage := some average }.begin (.gain (trial + 1) after.1 after.2)
    else if 1 < after.1 then setOffset { m with lastAverage := some average } after.1 after.2 p
    else if (p.laneTuning m.lane).settings.base < average / 2 || m.clamped then
      failMember { m with lastAverage := some average } .gain p
    else setOffset { m with lastAverage := some average } 1 (average / 2) p := by
  subst taken
  by_cases passed : average ≤ (p.laneTuning m.lane).settings.base <;>
    simp only [closeGain, afterTrial, passed, decide_true, decide_false, if_true, if_false, Bool.false_eq_true]

theorem closeGain_next (early : trial < 4) : closeGain m trial base passing average p =
    (p.setLane m.lane { p.lane m.lane with calibration := ⟨after.1 + trialStep (trial + 1), 0⟩ }).modifyMember m.lane
      fun _ => { m with lastAverage := some average }.begin (.gain (trial + 1) after.1 after.2) :=
  (closeGain_eq taken).trans (if_pos early)

theorem closeGain_found (last : trial = 4) (found : 1 < after.1) : closeGain m trial base passing average p =
    setOffset { m with lastAverage := some average } after.1 after.2 p := by
  rw [closeGain_eq taken, if_neg (by omega), if_pos found]

theorem closeGain_fails (last : trial = 4) (none : after.1 = 1)
    (exceeds : (p.laneTuning m.lane).settings.base < average / 2 ∨ m.clamped = true) :
    closeGain m trial base passing average p = failMember { m with lastAverage := some average } .gain p := by
  rw [closeGain_eq taken, if_neg (by omega), if_neg (by omega), if_pos (by simpa using exceeds)]

theorem closeGain_halved (last : trial = 4) (none : after.1 = 1)
    (under : average / 2 ≤ (p.laneTuning m.lane).settings.base) (unclamped : m.clamped = false) :
    closeGain m trial base passing average p = setOffset { m with lastAverage := some average } 1 (average / 2) p := by
  rw [closeGain_eq taken, if_neg (by omega), if_neg (by omega), if_neg (by simp [unclamped, under])]

end

theorem trialStep_halves {trial step : Nat} (search : trial = 1 ∧ step = 8 ∨ trial = 2 ∧ step = 4 ∨ trial = 3 ∧ step = 2 ∨
    trial = 4 ∧ step = 1) : trialStep trial = step ∧ (trial < 4 → trialStep (trial + 1) = step / 2) := by
  rcases search with ⟨rfl, rfl⟩ | ⟨rfl, rfl⟩ | ⟨rfl, rfl⟩ | ⟨rfl, rfl⟩ <;> decide

/-! ## A member fails -/

theorem armHoldoff_of_host {n : LaneNo} {p : Part} (host : ∀ b : Batch, p.tuning.batch = some b → b.origin = .host) :
    armHoldoff n p = p := by
  refine if_neg fun automatic => ?_
  obtain ⟨b, record, origin⟩ := Option.map_eq_some_iff.mp automatic
  rw [host b record] at origin
  cases origin

theorem armHoldoff_of_automatic {n : LaneNo} {p : Part} {b : Batch} (record : p.tuning.batch = some b)
    (origin : b.origin = .automatic) : armHoldoff n p =
      p.setLaneTuning n { p.laneTuning n with holdoff := some ((p.laneTuning n).settings.holdoff * 100000) } :=
  if_pos (by rw [record, Option.map_some, origin])

/-! ## The readings of a member -/

theorem handReading_taken {n : LaneNo} {p : Part} {m : Member} (found : p.member? n = some m) (busy : m.phase ≠ .finished)
    (conditioned : Nat) (clamped : Bool) : handReading n conditioned clamped p =
      if m.readings + 1 < 8 then p.modifyMember n fun _ => m.take conditioned clamped
      else completeBatch (closePhase (m.take conditioned clamped) ((m.sum + conditioned) / 8) p) := by
  simp only [handReading, found, Member.isFinished, beq_eq_false_iff_ne.mpr busy, Bool.false_eq_true, if_false]
  rfl

section
variable {m : Member} {average : Nat} {p : Part}

theorem closePhase_gain {trial base passing : Nat} (phase : m.phase = .gain trial base passing) :
    closePhase m average p = closeGain m trial base passing average p := by
  simp only [closePhase, phase]

theorem closePhase_offset (phase : m.phase = .offset) : closePhase m average p =
    if m.clamped then failMember m .offsetMax p else setOffset m (p.lane m.lane).calibration.gain average p := by
  simp only [closePhase, phase]

theorem closePhase_verify (phase : m.phase = .verify) : closePhase m average p =
    if (p.laneTuning m.lane).settings.inWindow average then succeedMember m average p else failMember m .verify p := by
  simp only [closePhase, phase]

end

end Sys2Proof.Machine

open Sys2Proof Sys2Proof.Machine

/-- Settles O47: each phase closes by its own rule; the offset and the end of a member are stated for every part. -/
theorem tuningPhasesClose : Obligations.TuningPhasesClose := by
  refine ⟨fun n conditioned clamped p m found busy taken isTaken => ?_, fun m average p tune isTune => ?_,
    fun _ _ _ => rfl⟩
  · subst isTaken
    rw [handReading_taken found busy]
    exact ⟨fun more => if_pos more, fun eighth => if_neg (Nat.not_lt.mpr eighth)⟩
  · subst isTune
    refine ⟨fun phase => ?_, fun phase => ?_, fun trial base passing step newBase newPassing phase search isBase isPassing => ?_,
      fun gain => ⟨fun below => setOffset_below below gain, fun reached => setOffset_taken reached gain⟩,
      fun done isDone => ?_⟩
    · rw [closePhase_verify phase, ← TuneSettings.inWindow_iff]
      exact ⟨fun inside => if_pos inside, fun outside => if_neg outside⟩
    · rw [closePhase_offset phase]
      refine ⟨fun clamped => if_pos clamped, fun unclamped below => ?_, fun unclamped reached => ?_⟩
      · rw [if_neg (by simp [unclamped]), setOffset_below below]
      · rw [if_neg (by simp [unclamped]), setOffset_taken reached]
        rfl
    · obtain ⟨steps, halves⟩ := trialStep_halves search
      have taken : (newBase, newPassing) =
          afterTrial (p.laneTuning m.lane).settings.base average (trialStep trial) base passing := by
        rw [steps, isBase, isPassing]
        rfl
      rw [closePhase_gain phase]
      refine ⟨fun early => ?_, fun last found => closeGain_found taken last found,
        fun last none exceeds => closeGain_fails taken last none exceeds,
        fun last none under unclamped => closeGain_halved taken last none under unclamped⟩
      rw [closeGain_next taken early, halves early]
      rfl
    · subst isDone
      refine ⟨rfl, fun kind v told saved isTold => ?_⟩
      have fails : failMember m kind p = (armHoldoff m.lane told).modifyMember m.lane fun _ => m.finish := by
        rw [failMember_eq, isTold, saved]
        rfl
      have tuning : told.tuning = p.tuning := by rw [isTold, raise_tuning, recompute_tuning, Part.setLane_tuning]
      refine ⟨fun b record origin => ?_, fun b record origin => ?_⟩
      · rw [fails, armHoldoff_of_host fun c other => ?_]
        · rfl
        · rw [tuning, record] at other
          cases other
          exact origin
      · have laneTuning : told.laneTuning m.lane = p.laneTuning m.lane := by rw [Part.laneTuning, tuning, Part.laneTuning]
        rw [fails, armHoldoff_of_automatic (tuning ▸ record) origin, laneTuning]
        rfl
end

section
/-! PROOFS. TUNE START and what the start of a batch leaves (R123, R124). -/

namespace Sys2Proof.Machine

/-! ## Masks -/

theorem laneMask_from_getLsbD (lanes : List LaneNo) (n : LaneNo) : ∀ mask : Word,
    (lanes.foldl (fun m k => m ||| BitVec.twoPow 32 k.val) mask).getLsbD n.val =
      (mask.getLsbD n.val || decide (n ∈ lanes)) := by
  induction lanes with
  | nil => simp
  | cons k lanes ih =>
    intro mask
    rw [List.foldl_cons, ih, BitVec.getLsbD_or, BitVec.getLsbD_twoPow]
    simp [Fin.ext_iff, eq_comm, Bool.or_assoc, n.isLt]

theorem laneMask_getLsbD (lanes : List LaneNo) (n : LaneNo) : (laneMask lanes).getLsbD n.val = decide (n ∈ lanes) := by
  rw [laneMask, laneMask_from_getLsbD]
  simp

/-! ## The oldest approached record -/

theorem Part.oldestApproached?_isSome_iff (p : Part) :
    p.oldestApproached?.isSome = true ↔ ∃ h ∈ p.hides, h.state = .entering ∧ h.approachReached = true := by
  simp only [Part.oldestApproached?, List.find?_isSome, Bool.and_eq_true, beq_iff_eq]

theorem Part.oldestApproached?_eq_none_iff (p : Part) :
    p.oldestApproached? = none ↔ ∀ h ∈ p.hides, h.state = .entering → h.approachReached = false := by
  simp only [Part.oldestApproached?, List.find?_eq_none, Bool.and_eq_true, beq_iff_eq, not_and, Bool.not_eq_true]

/-! ## The start of a batch -/

theorem TuneMode.firstCalibration_eq {mode : TuneMode} (on : mode ≠ .off) (c : Calibration) :
    mode.firstCalibration c = ⟨if mode = .full then 9 else c.gain, 0⟩ := by
  cases mode with
  | full => rfl
  | offsetOnly => rfl
  | off => exact absurd rfl on

theorem TuneMode.firstPhase_eq {mode : TuneMode} (on : mode ≠ .off) :
    mode.firstPhase = if mode = .full then .gain 1 1 0 else .offset := by
  cases mode with
  | full => rfl
  | offsetOnly => rfl
  | off => exact absurd rfl on

section
variable (origin : Origin) (lanes : List LaneNo) (p : Part)

theorem startBatch_lane (n : LaneNo) : (startBatch origin lanes p).lane n =
    if n ∈ lanes then (p.lane n).join (p.laneTuning n).settings.mode else p.lane n := by
  rw [startBatch, recompute_lane, Part.lane_putHold, Part.lane, Vector.getElem_ofFn]

theorem startBatch_tuning : (startBatch origin lanes p).tuning =
    ⟨some ⟨true, origin, lanes.map p.newMember⟩, Vector.ofFn fun n : LaneNo =>
      if n ∈ lanes then (p.laneTuning n).withdrawRequest else p.laneTuning n⟩ := by
  rw [startBatch, recompute_tuning, Part.putHold_tuning]

theorem startBatch_laneTuning (n : LaneNo) : (startBatch origin lanes p).laneTuning n =
    if n ∈ lanes then (p.laneTuning n).withdrawRequest else p.laneTuning n := by
  rw [Part.laneTuning, startBatch_tuning, Vector.getElem_ofFn]

theorem startBatch_feed : (startBatch origin lanes p).feed =
    { p.feed with holds := { p.feed.holds with tuning := true } } := by
  rw [startBatch, recompute_feed]
  rfl

theorem startBatch_wanted (n : LaneNo) : (startBatch origin lanes p).wanted n =
    (startBatch origin lanes p).pressureFor (startBatch origin lanes p).contactSpan n :=
  Part.wanted_of_decided (recompute_decides _) n

theorem startBatch_hides : (startBatch origin lanes p).hides = p.hides := by
  rw [startBatch, recompute_hides, Part.putHold_hides]

theorem startBatch_articles : (startBatch origin lanes p).articles = p.articles := by
  rw [startBatch, recompute_articles, Part.putHold_articles]

theorem startBatch_gap : (startBatch origin lanes p).gap = p.gap := by
  rw [startBatch, recompute_gap, Part.putHold_gap]

theorem startBatch_lines : (startBatch origin lanes p).lines = p.lines := by
  rw [startBatch, recompute_lines, Part.putHold_lines]

theorem startBatch_tallies : (startBatch origin lanes p).tallies = p.tallies := by
  rw [startBatch, recompute_tallies, Part.putHold_tallies]

theorem startBatch_port : (startBatch origin lanes p).port = p.port := by
  rw [startBatch, recompute_port, Part.putHold_port]

end

/-- The member of each lane of the batch, and no other. -/
theorem Part.newMembers_any (p : Part) (lanes : List LaneNo) (n : LaneNo) :
    ((lanes.map p.newMember).any fun m => m.lane == n) = decide (n ∈ lanes) := by
  rw [Bool.eq_iff_iff]
  simp [Part.newMember]

/-! ## TUNE START -/

theorem Part.mem_batchLanes (p : Part) (mask : Word) (n : LaneNo) : n ∈ p.batchLanes mask ↔
    mask.getLsbD n.val = true ∧ (p.laneTuning n).settings.mode ≠ .off ∧ (p.lane n).service = .inService := by
  simp [Part.batchLanes, mem_maskLanes]

theorem tuneStart_busy {mask : Word} {p : Part} (busy : p.batchRunning = true ∨ p.knifeOccupied = true ∨
    p.oldestApproached?.isSome = true) : tuneStart mask p = (p, refusal .busy) := by
  unfold tuneStart
  by_cases running : p.batchRunning = true
  · exact if_pos running
  · rw [if_neg running]
    by_cases occupied : p.knifeOccupied = true
    · exact if_pos occupied
    · rw [if_neg occupied]
      exact if_pos ((busy.resolve_left running).resolve_left occupied)

section
variable {mask : Word} {p : Part} (idle : p.batchRunning = false) (free : p.knifeOccupied = false)
  (unreached : p.oldestApproached? = none)
include idle free unreached

theorem tuneStart_free : tuneStart mask p =
    if (p.batchLanes mask).isEmpty then (p, refusal .state)
    else (startBatch .host (p.batchLanes mask) p, answerOk (bytes4 (laneMask (p.batchLanes mask)))) := by
  simp only [tuneStart, idle, free, unreached, Option.isSome_none, Bool.false_eq_true, if_false]

theorem tuneStart_nobody (nobody : p.batchLanes mask = []) : tuneStart mask p = (p, refusal .state) := by
  rw [tuneStart_free idle free unreached, nobody]
  rfl

theorem tuneStart_starts (somebody : p.batchLanes mask ≠ []) : tuneStart mask p =
    (startBatch .host (p.batchLanes mask) p, answerOk (bytes4 (laneMask (p.batchLanes mask)))) := by
  rw [tuneStart_free idle free unreached, if_neg (by rwa [List.isEmpty_iff])]

end

end Sys2Proof.Machine

open Sys2Proof Sys2Proof.Machine

/-- Settles O44: refused while the throat is not free, then by the lanes that join; the batch is `startBatch`'s. -/
theorem tuneStartDecides : Obligations.TuneStartDecides := by
  intro mask s joins accept isJoin
  refine ⟨fun busy => ?_, fun idle free none => ?_⟩
  · rw [← Part.oldestApproached?_isSome_iff] at busy
    exact exec_thenArbiter_refused (c := .tuneStart mask) rfl accept (tuneStart_busy busy)
  · have unreached := s.toPart.oldestApproached?_eq_none_iff.mpr none
    have member : ∀ n, n ∈ s.batchLanes mask ↔ joins n = true := fun n =>
      (s.toPart.mem_batchLanes mask n).trans (isJoin n).symm
    have decides : ∀ n, decide (n ∈ s.batchLanes mask) = joins n := fun n => by
      rw [Bool.eq_iff_iff, decide_eq_true_eq, member]
    refine ⟨fun nobody => ?_, fun ⟨n, join⟩ => ?_⟩
    · refine exec_thenArbiter_refused (c := .tuneStart mask) rfl accept (tuneStart_nobody idle free unreached ?_)
      refine List.eq_nil_iff_forall_not_mem.mpr fun n inBatch => ?_
      rw [member, nobody] at inBatch
      cases inBatch
    · have starts := exec_thenArbiter_command (c := .tuneStart mask) (a := answerOk _) rfl accept
        (tuneStart_starts idle free unreached (List.ne_nil_of_mem ((member n).mpr join)))
      refine ⟨_, ⟨true, .host, (s.batchLanes mask).map s.newMember⟩, laneMask (s.batchLanes mask), starts, ?_⟩
      have lane := startBatch_lane .host (s.batchLanes mask) s.toPart
      have laneTuning := startBatch_laneTuning .host (s.batchLanes mask) s.toPart
      have tuning := startBatch_tuning .host (s.batchLanes mask) s.toPart
      have base := startBatch_sameBase .host (s.batchLanes mask) s.toPart
      have wanted := startBatch_wanted .host (s.batchLanes mask) s.toPart
      have feed := startBatch_feed .host (s.batchLanes mask) s.toPart
      have hides := startBatch_hides .host (s.batchLanes mask) s.toPart
      have articles := startBatch_articles .host (s.batchLanes mask) s.toPart
      have gap := startBatch_gap .host (s.batchLanes mask) s.toPart
      have lines := startBatch_lines .host (s.batchLanes mask) s.toPart
      have tallies := startBatch_tallies .host (s.batchLanes mask) s.toPart
      have port := startBatch_port .host (s.batchLanes mask) s.toPart
      simp only [State.thenWakes_port, State.thenWakes_feed, State.thenWakes_hides, State.thenWakes_articles,
        State.thenWakes_gap, State.thenWakes_wanted, State.thenWakes_pressureFor, State.thenWakes_lines,
        State.thenWakes_tallies, State.thenWakes_eye, State.thenWakes_lane, State.thenWakes_laneTuning,
        State.thenWakes_tuning, State.thenWakes_settings, State.thenWakes_routes]
      generalize startBatch .host (s.batchLanes mask) s.toPart = q at *
      refine ⟨rfl, fun n => (laneMask_getLsbD _ n).trans (decides n), congrArg (·.batch) tuning, trivial, trivial,
        fun n => (s.toPart.newMembers_any _ n).trans (decides n), fun m among => ?_, fun n join => ⟨?_, ?_⟩,
        fun n apart => ⟨?_, ?_⟩, wanted, feed, hides, articles, gap, base.eye, ?_, base.settings, base.routes, lines, tallies⟩
      · obtain ⟨n, inBatch, rfl⟩ := List.mem_map.mp among
        obtain ⟨_, on, _⟩ := (s.toPart.mem_batchLanes mask n).mp inBatch
        exact ⟨rfl, rfl, rfl, TuneMode.firstPhase_eq on, rfl⟩
      · obtain ⟨_, on, _⟩ := (isJoin n).mp join
        refine (lane n).trans ?_
        rw [if_pos ((member n).mpr join), Lane.join, TuneMode.firstCalibration_eq on]
        rfl
      · refine (laneTuning n).trans ?_
        rw [if_pos ((member n).mpr join)]
        rfl
      · exact (lane n).trans (if_neg fun inBatch => Bool.noConfusion (apart.symm.trans ((member n).mp inBatch)))
      · exact (laneTuning n).trans (if_neg fun inBatch => Bool.noConfusion (apart.symm.trans ((member n).mp inBatch)))
      · exact congrArg (·.attention) port
end

section
/-! PROOFS. The end of a batch on an abort (R132, R133): its members' lanes, its record and what it leaves unchanged. -/

namespace Sys2Proof.Machine

/-! ## Members restored -/

theorem restoreMember_lane_same {m : Member} {v : Saved} (saved : m.saved = some v) (p : Part) :
    (restoreMember p m).lane m.lane = (p.lane m.lane).restore v := by
  unfold restoreMember
  rw [saved]
  exact p.lane_setLane_same m.lane _

theorem restoreMember_lane_other {m : Member} {n : LaneNo} (other : m.lane ≠ n) (p : Part) :
    (restoreMember p m).lane n = p.lane n := by
  unfold restoreMember
  split
  · rfl
  · rename_i v _
    exact (p.lane_setLane m.lane n ((p.lane m.lane).restore v)).trans (if_neg other)

theorem restoreMember_same (m : Member) (p : Part) : ∃ lanes batch, restoreMember p m =
    { p with lanes := lanes, tuning := { p.tuning with batch := batch } } := by
  unfold restoreMember
  cases m.saved <;> exact ⟨_, _, rfl⟩

theorem restoreMembers_lane_other {n : LaneNo} : ∀ {members : List Member}, (∀ m ∈ members, m.lane ≠ n) → ∀ p : Part,
    (members.foldl restoreMember p).lane n = p.lane n
  | [], _, _ => rfl
  | m :: members, others, p => by
    rw [List.foldl_cons, restoreMembers_lane_other fun k among => others k (List.mem_cons_of_mem m among),
      restoreMember_lane_other (others m List.mem_cons_self)]

theorem restoreMembers_lane {m : Member} {v : Saved} (saved : m.saved = some v) : ∀ {members : List Member}, m ∈ members →
    (members.map (·.lane)).Nodup → ∀ p : Part, (members.foldl restoreMember p).lane m.lane = (p.lane m.lane).restore v
  | k :: members, among, distinct, p => by
    obtain ⟨apart, rest⟩ := List.nodup_cons.mp distinct
    rw [List.foldl_cons]
    rcases List.mem_cons.mp among with rfl | later
    · rw [restoreMembers_lane_other fun x later same => apart (List.mem_map.mpr ⟨x, later, same⟩),
        restoreMember_lane_same saved]
    · rw [restoreMembers_lane saved later rest,
        restoreMember_lane_other fun same => apart (List.mem_map.mpr ⟨m, later, same.symm⟩)]

theorem restoreMembers_same : ∀ (members : List Member) (p : Part), ∃ lanes batch, members.foldl restoreMember p =
    { p with lanes := lanes, tuning := { p.tuning with batch := batch } }
  | [], _ => ⟨_, _, rfl⟩
  | m :: members, p => by
    obtain ⟨_, _, first⟩ := restoreMember_same m p
    obtain ⟨_, _, rest⟩ := restoreMembers_same members (restoreMember p m)
    rw [List.foldl_cons, rest, first]
    exact ⟨_, _, rfl⟩

/-! ## The aborted batch -/

theorem abortBatch_idle {p : Part} (idle : p.batchRunning = false) : abortBatch p = p :=
  if_neg (by simp [idle])

section
variable {p : Part} {b : Batch} (record : p.tuning.batch = some b) (running : b.running = true)
include record running

theorem Part.unfinished_eq : p.unfinished = b.members.filter fun m => !m.isFinished := by
  simp only [Part.unfinished, record, running, if_true]

theorem Part.mem_unfinished (m : Member) : m ∈ p.unfinished ↔ m ∈ b.members ∧ m.phase ≠ .finished := by
  rw [Part.unfinished_eq record running, List.mem_filter, Bool.not_eq_true', Member.isFinished, beq_eq_false_iff_ne]

theorem Part.unfinished_getLsbD (n : LaneNo) : (laneMask (p.unfinished.map (·.lane))).getLsbD n.val =
    b.members.any fun m => m.lane == n && !(m.phase == .finished) := by
  rw [laneMask_getLsbD, Bool.eq_iff_iff, decide_eq_true_eq, List.mem_map, List.any_eq_true]
  refine exists_congr fun m => ?_
  rw [Part.mem_unfinished record running, and_assoc, Bool.and_eq_true, beq_iff_eq, Bool.not_eq_true',
    beq_eq_false_iff_ne, and_comm (a := m.phase ≠ .finished)]

theorem abortBatch_running : abortBatch p = endBatch (p.unfinished.foldl restoreMember p) :=
  if_pos (p.batchRunning_iff.mpr ⟨b, record, running⟩)

theorem abortBatch_lane {m : Member} {v : Saved} (distinct : (b.members.map (·.lane)).Nodup) (among : m ∈ b.members)
    (unfinished : m.phase ≠ .finished) (saved : m.saved = some v) :
    (abortBatch p).lane m.lane = (p.lane m.lane).restore v := by
  rw [abortBatch_running record running]
  refine restoreMembers_lane saved ((Part.mem_unfinished record running m).mpr ⟨among, unfinished⟩) ?_ p
  rw [Part.unfinished_eq record running]
  exact distinct.sublist (List.filter_sublist.map _)

theorem abortBatch_lane_of_finished {n : LaneNo} (finished : ∀ m ∈ b.members, m.lane = n → m.phase = .finished) :
    (abortBatch p).lane n = p.lane n := by
  rw [abortBatch_running record running]
  refine restoreMembers_lane_other (fun m unfinished same => ?_) p
  obtain ⟨among, busy⟩ := (Part.mem_unfinished record running m).mp unfinished
  exact busy (finished m among same)

theorem abortBatch_same {ended : Batch} (ends : (abortBatch p).tuning.batch = some ended) : abortBatch p =
    { p with
      lanes := (abortBatch p).lanes
      tuning := { p.tuning with batch := some ended }
      feed := { p.feed with holds := { p.feed.holds with tuning := false } } } := by
  obtain ⟨_, _, restored⟩ := restoreMembers_same p.unfinished p
  rw [abortBatch_running record running, restored] at ends ⊢
  rw [← ends]
  rfl

end

/-! ## TUNE ABORT -/

theorem tuneAbort_idle {p : Part} (idle : p.batchRunning = false) : tuneAbort p = (p, refusal .state) :=
  if_neg (by simp [idle])

theorem tuneAbort_running {p : Part} (running : p.batchRunning = true) : tuneAbort p =
    (formationTest (recompute (abortBatch p)), answerOk (bytes4 (laneMask (p.unfinished.map (·.lane))))) :=
  if_pos running

theorem exec_tuneAbort {s : State} (accept : s.port.acceptIn = none) {p : Part} {reply : List Byte}
    (gives : tuneAbort s.toPart = (p, answerOk reply)) :
    exec .tuneAbort s = .next (s.thenWakes (s.answers Header.tuneAbort .ok reply p).toPart) :=
  exec_thenArbiter_command (c := .tuneAbort) (a := answerOk reply) rfl accept gives

theorem State.thenWakes_batchRunning (s : State) (p : Part) : (s.thenWakes p).batchRunning = p.batchRunning := by
  rw [Part.batchRunning, State.thenWakes_tuning]
  rfl

theorem Part.batchRunning_of_stopped {p : Part} {b : Batch} (record : p.tuning.batch = some b) (stopped : b.running = false) :
    p.batchRunning = false := by
  rw [Part.batchRunning, record]
  exact stopped

/-- With no request the formation test does nothing (R135). -/
theorem formationTest_of_no_request {p : Part} (none : ∀ n : LaneNo, (p.laneTuning n).requested = false) :
    formationTest p = p := by
  have empty : p.requests = [] := List.filter_eq_nil_iff.mpr fun n _ => by simp [none n]
  exact if_neg (by simp [Part.formationDue, empty])

end Sys2Proof.Machine

open Sys2Proof Sys2Proof.Machine

/-- Settles O45: the batch ends as `abortBatch` leaves it, before a recompute and the formation test. -/
theorem tuneAbortDecides : Obligations.TuneAbortDecides := by
  intro s accept
  refine ⟨fun idle => exec_thenArbiter_refused (c := .tuneAbort) rfl accept (tuneAbort_idle idle),
    fun b record running distinct _ => ?_, fun b record running distinct _ none => ?_⟩
  all_goals
    have aborts := exec_tuneAbort accept (tuneAbort_running (s.toPart.batchRunning_iff.mpr ⟨b, record, running⟩))
    obtain ⟨ended, ends, stopped, origin, lanes, finished⟩ := abortBatch_record s.toPart b record running
    have same := abortBatch_same record running ends
    have restored := fun m among v busy saved => abortBatch_lane (m := m) (v := v) record running distinct among busy saved
    have kept := fun n finished => abortBatch_lane_of_finished (n := n) record running finished
  · refine ⟨abortBatch s.toPart, ended, laneMask (s.unfinished.map (·.lane)), ?_, ?_⟩
    · exact aborts
    · exact ⟨Part.unfinished_getLsbD record running, same, stopped, origin, lanes, finished, restored, kept⟩
  · rw [formationTest_of_no_request fun n => by
      rw [recompute_laneTuning, same]
      exact none n] at aborts
    have decided := Part.wanted_of_decided (recompute_decides (abortBatch s.toPart))
    refine ⟨_, laneMask (s.unfinished.map (·.lane)), aborts, ?_⟩
    have lane := recompute_lane (abortBatch s.toPart)
    have tuning := recompute_tuning (abortBatch s.toPart)
    have feed := recompute_feed (abortBatch s.toPart)
    have port := recompute_port (abortBatch s.toPart)
    have hides := recompute_hides (abortBatch s.toPart)
    have articles := recompute_articles (abortBatch s.toPart)
    have gap := recompute_gap (abortBatch s.toPart)
    have settings := recompute_settings (abortBatch s.toPart)
    have routes := recompute_routes (abortBatch s.toPart)
    simp only [State.thenWakes_batchRunning, State.thenWakes_port, State.thenWakes_feed, State.thenWakes_hides, State.thenWakes_articles,
      State.thenWakes_gap, State.thenWakes_wanted, State.thenWakes_pressureFor, State.thenWakes_lane,
      State.thenWakes_settings, State.thenWakes_routes]
    generalize recompute (abortBatch s.toPart) = r at *
    generalize abortBatch s.toPart = q at *
    refine ⟨rfl, Part.unfinished_getLsbD record running, ?_, ?_, fun m among v busy saved => ?_, fun n finished => ?_,
      decided, ?_, ?_, ?_, ?_, ?_, ?_⟩
    · exact Part.batchRunning_of_stopped ((congrArg (·.batch) tuning).trans ends) stopped
    · exact feed.trans (congrArg (·.feed) same)
    · exact (lane m.lane).trans (restored m among v busy saved)
    · exact (lane n).trans (kept n finished)
    · exact congrArg (·.attention) (port.trans (congrArg (·.port) same))
    · exact hides.trans (congrArg (·.hides) same)
    · exact articles.trans (congrArg (·.articles) same)
    · exact gap.trans (congrArg (·.gap) same)
    · exact settings.trans (congrArg (·.settings) same)
    · exact routes.trans (congrArg (·.routes) same)
end

section
/-! PROOFS. The end of a batch, the formation test and the holdoff (R131, R134 to R136). -/

namespace Sys2Proof.Machine

/-! ## Completion -/

theorem Part.batchDone_iff (p : Part) : p.batchDone = true ↔
    ∃ b : Batch, p.tuning.batch = some b ∧ b.running = true ∧ ∀ m ∈ b.members, m.phase = .finished := by
  cases record : p.tuning.batch <;> simp [Part.batchDone, record, Member.isFinished]

theorem endBatch_eq {p : Part} {b : Batch} (record : p.tuning.batch = some b) : endBatch p = { p with
    tuning := { p.tuning with batch := some { b with running := false } }
    feed := { p.feed with holds := { p.feed.holds with tuning := false } } } := by
  rw [endBatch, record]
  rfl

theorem completeBatch_done {p : Part} {b : Batch} (record : p.tuning.batch = some b) (running : b.running = true)
    (finished : ∀ m ∈ b.members, m.phase = .finished) : completeBatch p = formationTest { p with
      tuning := { p.tuning with batch := some { b with running := false } }
      feed := { p.feed with holds := { p.feed.holds with tuning := false } }
      port := { p.port with attention := { p.port.attention with tuneDone := true } } } := by
  rw [completeBatch, if_pos (p.batchDone_iff.mpr ⟨b, record, running, finished⟩), endBatch_eq record]
  rfl

theorem completeBatch_not_done {p : Part} (busy : ∀ b : Batch, p.tuning.batch = some b →
    b.running = false ∨ ∃ m ∈ b.members, m.phase ≠ .finished) : completeBatch p = p := by
  refine if_neg fun done => ?_
  obtain ⟨b, record, running, finished⟩ := p.batchDone_iff.mp done
  rcases busy b record with stopped | ⟨m, among, unfinished⟩
  · exact Bool.noConfusion (running.symm.trans stopped)
  · exact unfinished (finished m among)

/-! ## The formation test -/

theorem Part.mem_requests (p : Part) (n : LaneNo) : n ∈ p.requests ↔ (p.laneTuning n).requested = true := by
  simp [Part.requests, allLanes]

theorem Part.formationDue_iff (p : Part) : p.formationDue = true ↔ (∃ n : LaneNo, (p.laneTuning n).requested = true) ∧
    p.batchRunning = false ∧ p.knifeOccupied = false ∧
      ∀ h ∈ p.hides, h.state = .entering → h.approachReached = false := by
  have nonempty : (!p.requests.isEmpty) = true ↔ ∃ n : LaneNo, (p.laneTuning n).requested = true := by
    rw [Bool.not_eq_true', List.isEmpty_eq_false_iff_exists_mem]
    exact exists_congr p.mem_requests
  rw [← p.oldestApproached?_eq_none_iff, ← nonempty, Part.formationDue]
  simp only [Bool.and_eq_true, Bool.not_eq_true', Option.isNone_iff_eq_none, and_assoc]

theorem formationTest_not_due {p : Part} (no : (∀ n : LaneNo, (p.laneTuning n).requested = false) ∨ p.batchRunning = true ∨
    p.knifeOccupied = true ∨ ∃ h ∈ p.hides, h.state = .entering ∧ h.approachReached = true) : formationTest p = p := by
  refine if_neg fun due => ?_
  obtain ⟨⟨n, requested⟩, idle, free, unreached⟩ := p.formationDue_iff.mp due
  rcases no with none | running | occupied | ⟨h, member, entering, reached⟩
  · exact Bool.noConfusion (requested.symm.trans (none n))
  · exact Bool.noConfusion (running.symm.trans idle)
  · exact Bool.noConfusion (occupied.symm.trans free)
  · exact Bool.noConfusion (reached.symm.trans (unreached h member entering))

theorem Lane.inTuneError_iff (l : Lane) : l.inTuneError = true ↔ ∃ k, l.tune = .tuneError k := by
  unfold Lane.inTuneError
  cases l.tune <;> simp

theorem Part.qualifies_iff (p : Part) (n : LaneNo) : p.qualifies n = true ↔ (p.laneTuning n).settings.automatic = true ∧
    (p.laneTuning n).settings.mode ≠ .off ∧ (p.lane n).service = .inService ∧
      ((p.lane n).tune = .tuned ∨ ∃ k, (p.lane n).tune = .tuneError k) := by
  rw [Part.qualifies, Bool.and_eq_true, Bool.or_eq_true, beq_iff_eq, Lane.inTuneError_iff, Part.retunable]
  simp only [Bool.and_eq_true, Bool.not_eq_true', beq_eq_false_iff_ne, beq_iff_eq, and_assoc, ne_eq]

theorem dropUnqualified_laneTuning (p : Part) (n : LaneNo) : (dropUnqualified p).laneTuning n =
    { p.laneTuning n with requested := (p.laneTuning n).requested && p.qualifies n } :=
  Vector.getElem_ofFn n.isLt

theorem mem_dropUnqualified_requests (p : Part) (n : LaneNo) :
    n ∈ (dropUnqualified p).requests ↔ (p.laneTuning n).requested = true ∧ p.qualifies n = true := by
  rw [Part.mem_requests, dropUnqualified_laneTuning, Bool.and_eq_true]

theorem dropUnqualified_lane (p : Part) (n : LaneNo) : (dropUnqualified p).lane n = p.lane n := by
  simp only [Part.lane, dropUnqualified, Part.setTuning]

theorem dropUnqualified_feed (p : Part) : (dropUnqualified p).feed = p.feed := by
  simp only [dropUnqualified, Part.setTuning]

theorem dropUnqualified_hides (p : Part) : (dropUnqualified p).hides = p.hides := by
  simp only [dropUnqualified, Part.setTuning]

theorem dropUnqualified_port (p : Part) : (dropUnqualified p).port = p.port := by
  simp only [dropUnqualified, Part.setTuning]

/-- The AUTOMATIC batch of the requests that qualify (R135). -/
def automaticBatch (p : Part) : Part := startBatch .automatic (dropUnqualified p).requests (dropUnqualified p)

/-- Whether it joins or not, a lane keeps no request. -/
theorem automaticBatch_requested (p : Part) (n : LaneNo) : ((automaticBatch p).laneTuning n).requested = false := by
  rw [automaticBatch, startBatch_laneTuning]
  by_cases among : n ∈ (dropUnqualified p).requests
  · rw [if_pos among]
    rfl
  · rw [if_neg among]
    exact Bool.eq_false_iff.mpr fun requested => among ((Part.mem_requests _ n).mpr requested)

theorem automaticBatch_lane (p : Part) (n : LaneNo) : (automaticBatch p).lane n =
    if n ∈ (dropUnqualified p).requests then (p.lane n).join ((dropUnqualified p).laneTuning n).settings.mode
    else p.lane n := by
  rw [automaticBatch, startBatch_lane, dropUnqualified_lane]

theorem automaticBatch_tuning (p : Part) : (automaticBatch p).tuning.batch =
    some ⟨true, .automatic, (dropUnqualified p).requests.map (dropUnqualified p).newMember⟩ := by
  rw [automaticBatch, startBatch_tuning]

theorem automaticBatch_feed (p : Part) : (automaticBatch p).feed =
    { p.feed with holds := { p.feed.holds with tuning := true } } := by
  rw [automaticBatch, startBatch_feed, dropUnqualified_feed]

theorem automaticBatch_hides (p : Part) : (automaticBatch p).hides = p.hides := by
  rw [automaticBatch, startBatch_hides, dropUnqualified_hides]

theorem automaticBatch_port (p : Part) : (automaticBatch p).port = p.port := by
  rw [automaticBatch, startBatch_port, dropUnqualified_port]

/-- The part with an empty request set. -/
def withoutRequests (p : Part) : Part :=
  { p with tuning := { p.tuning with lanes := p.tuning.lanes.map fun t => { t with requested := false } } }

theorem withoutRequests_same {p : Part} (none : ∀ n : LaneNo, (p.laneTuning n).requested = false) : withoutRequests p = p := by
  have lanes : p.tuning.lanes.map (fun t => { t with requested := false }) = p.tuning.lanes := by
    refine Vector.ext fun i bound => ?_
    rw [Vector.getElem_map, ← none ⟨i, bound⟩]
    rfl
  rw [withoutRequests, lanes]

theorem dropUnqualified_nobody {p : Part} (nobody : (dropUnqualified p).requests = []) :
    dropUnqualified p = withoutRequests p := by
  have lanes : (Vector.ofFn fun n : LaneNo =>
      { p.laneTuning n with requested := (p.laneTuning n).requested && p.qualifies n }) =
        p.tuning.lanes.map fun t => { t with requested := false } := by
    refine Vector.ext fun i bound => ?_
    have unrequested : ((p.laneTuning ⟨i, bound⟩).requested && p.qualifies ⟨i, bound⟩) = false := by
      rw [← Bool.not_eq_true, Bool.and_eq_true, ← mem_dropUnqualified_requests, nobody]
      exact List.not_mem_nil
    rw [Vector.getElem_ofFn, Vector.getElem_map, unrequested]
    rfl
  rw [dropUnqualified, lanes]
  rfl

section
variable {p : Part} (idle : p.batchRunning = false) (free : p.knifeOccupied = false)
  (unreached : ∀ h ∈ p.hides, h.state = .entering → h.approachReached = false)
include idle free unreached

theorem formationTest_nobody (nobody : (dropUnqualified p).requests = []) : formationTest p = withoutRequests p := by
  by_cases due : p.formationDue = true
  · have drops : formationTest p = dropUnqualified p := by
      simp only [formationTest, due, nobody, if_true, List.isEmpty_nil]
    rw [drops, dropUnqualified_nobody nobody]
  · have none : ∀ n : LaneNo, (p.laneTuning n).requested = false := fun n =>
      Bool.eq_false_iff.mpr fun requested => due (p.formationDue_iff.mpr ⟨⟨n, requested⟩, idle, free, unreached⟩)
    rw [withoutRequests_same none]
    exact if_neg due

theorem formationTest_starts {n : LaneNo} (somebody : n ∈ (dropUnqualified p).requests) :
    formationTest p = automaticBatch p := by
  have requested := ((mem_dropUnqualified_requests p n).mp somebody).1
  have nonempty : (dropUnqualified p).requests.isEmpty = false :=
    List.isEmpty_eq_false_iff_exists_mem.mpr ⟨n, somebody⟩
  simp only [formationTest, p.formationDue_iff.mpr ⟨⟨n, requested⟩, idle, free, unreached⟩, nonempty, if_true,
    Bool.false_eq_true, if_false]
  rfl

end

/-! ## The holdoff -/

theorem Part.setLaneTuning_setLaneTuning (p : Part) (n : LaneNo) (t u : LaneTuning) :
    (p.setLaneTuning n t).setLaneTuning n u = p.setLaneTuning n u := by
  simp only [Part.setLaneTuning, Part.setTuning, Vector.set_set]

theorem Part.laneTuning_setLaneTuning_same (p : Part) (n : LaneNo) (t : LaneTuning) :
    (p.setLaneTuning n t).laneTuning n = t := by
  rw [Part.laneTuning_setLaneTuning, if_pos rfl]

theorem expireHoldoff_disarmed {p : Part} {n : LaneNo} (disarmed : (p.laneTuning n).holdoff = none) :
    expireHoldoff n p = p := by
  simp only [expireHoldoff, disarmed]

theorem expireHoldoff_armed {p : Part} {n : LaneNo} (armed : (p.laneTuning n).holdoff.isSome = true) : expireHoldoff n p =
    if (p.retunable n && (p.lane n).inTuneError) = true ∧ (p.laneTuning n).requested = false then
      formationTest (p.setLaneTuning n { p.laneTuning n with holdoff := none, requested := true })
    else p.setLaneTuning n { p.laneTuning n with holdoff := none } := by
  obtain ⟨ticks, timer⟩ := Option.isSome_iff_exists.mp armed
  have retunable : (p.setLaneTuning n { p.laneTuning n with holdoff := none }).retunable n = p.retunable n := by
    rw [Part.retunable, Part.laneTuning_setLaneTuning_same, Part.lane_setLaneTuning, Part.retunable]
  simp only [expireHoldoff, timer, retunable, Part.lane_setLaneTuning, addRequest, Part.laneTuning_setLaneTuning_same,
    Part.setLaneTuning_setLaneTuning]
  by_cases wants : (p.retunable n && (p.lane n).inTuneError) = true <;>
    cases (p.laneTuning n).requested <;> simp [wants]

end Sys2Proof.Machine

open Sys2Proof Sys2Proof.Machine

/-- Settles O46: completion and formation by their conditions on the batch, the throat and the request set. -/
theorem batchEventsFollowTheirRules : Obligations.BatchEventsFollowTheirRules := by
  intro s
  have completion := exec_thenArbiter_of_effect (c := .batchCompletion) rfl s
  have formation := exec_thenArbiter_of_effect (c := .formationTest) rfl s
  refine ⟨fun b record running finished => ?_, fun busy => ?_, completion,
    fun p => ⟨fun b record running finished => completeBatch_done record running finished, completeBatch_not_done⟩,
    formation, fun no => ?_, fun joins isJoin idle free unreached => ?_, fun n => ⟨fun disarmed => ?_, fun armed wants isWant => ?_⟩⟩
  · rw [completion, completeBatch_done record running finished]
  · refine exec_thenArbiter_unchanged (c := .batchCompletion) rfl (completeBatch_not_done fun b record => ?_)
    rcases busy with idle | ⟨c, m, same, among, unfinished⟩
    · exact .inl (Bool.eq_false_iff.mpr fun running =>
        Bool.noConfusion (idle.symm.trans (s.toPart.batchRunning_iff.mpr ⟨b, record, running⟩)))
    · cases record.symm.trans same
      exact .inr ⟨m, among, unfinished⟩
  · exact exec_thenArbiter_unchanged (c := .formationTest) rfl (formationTest_not_due no)
  · have member : ∀ n, n ∈ (dropUnqualified s.toPart).requests ↔ joins n = true := fun n => by
      rw [mem_dropUnqualified_requests, Part.qualifies_iff, isJoin]
    refine ⟨fun ⟨n, join⟩ => ?_, fun nobody => ?_⟩
    · have decides : ∀ n, decide (n ∈ (dropUnqualified s.toPart).requests) = joins n := fun n => by
        rw [Bool.eq_iff_iff, decide_eq_true_eq, member]
      have qualifying := formationTest_starts idle free unreached ((member n).mpr join)
      rw [qualifying] at formation
      refine ⟨_, ⟨true, .automatic, (dropUnqualified s.toPart).requests.map (dropUnqualified s.toPart).newMember⟩,
        formation, ?_⟩
      simp only [State.thenWakes_port, State.thenWakes_feed, State.thenWakes_hides, State.thenWakes_lane,
        State.thenWakes_laneTuning, State.thenWakes_tuning, automaticBatch_lane, automaticBatch_feed, automaticBatch_hides,
        automaticBatch_port, automaticBatch_requested, automaticBatch_tuning, Part.newMembers_any, decides, true_and,
        implies_true, and_self, and_true]
      refine ⟨fun n join => ?_, fun n apart => ?_⟩
      · rw [if_pos ((member n).mpr join)]
        rfl
      · rw [if_neg fun among => Bool.noConfusion (apart.symm.trans ((member n).mp among))]
    · have empty : (dropUnqualified s.toPart).requests = [] := List.eq_nil_iff_forall_not_mem.mpr fun n among =>
        Bool.noConfusion ((nobody n).symm.trans ((member n).mp among))
      rw [formation, formationTest_nobody idle free unreached empty,
        s.thenWakes_of_same (withoutRequests s.toPart) rfl rfl]
      rfl
  · exact exec_thenArbiter_unchanged (c := .holdoffTimerExpiry n) rfl (expireHoldoff_disarmed disarmed)
  · subst isWant
    rw [exec_thenArbiter_of_effect (c := .holdoffTimerExpiry n) rfl, expireHoldoff_armed armed]
    rfl
end

section
/-! PROOFS. What no reading changes but its own values (R101 to R112, R125 to R131): the lanes' readings and settings,
the tuning settings, the articles and the gap axis. -/

namespace Sys2Proof.Machine

/-- The lane's last reading and its settings are as they were. -/
structure Lane.SameReading (l k : Lane) : Prop where
  raw : k.lastRaw = l.lastRaw
  conditioned : k.lastConditioned = l.lastConditioned
  settings : k.settings = l.settings

theorem Lane.SameReading.refl (l : Lane) : l.SameReading l := ⟨rfl, rfl, rfl⟩

theorem Lane.SameReading.trans {l k j : Lane} (h : l.SameReading k) (i : k.SameReading j) : l.SameReading j :=
  ⟨i.raw.trans h.raw, i.conditioned.trans h.conditioned, i.settings.trans h.settings⟩

theorem Lane.sense_sameReading (l : Lane) : l.SameReading l.sense.1 := by
  cases contact : l.contact with
  | empty =>
    rw [Lane.sense_of_empty contact, Lane.senseEmpty]
    dsimp only
    split <;> exact ⟨rfl, rfl, rfl⟩
  | contact =>
    rw [Lane.sense_of_contact contact, Lane.senseContact]
    split
    · exact ⟨rfl, rfl, rfl⟩
    · split <;> exact ⟨rfl, rfl, rfl⟩
  | bottomed =>
    rw [Lane.sense_of_bottomed contact, Lane.senseBottomed]
    split
    · split <;> exact ⟨rfl, rfl, rfl⟩
    · exact ⟨rfl, rfl, rfl⟩

/-- The readings, the settings of lanes and tuning, the articles and the gap axis are as they were. -/
structure SameReadings (p q : Part) : Prop where
  articles : q.articles = p.articles
  gap : q.gap = p.gap
  lane : ∀ n, (p.lane n).SameReading (q.lane n)
  tuning : ∀ n, (q.laneTuning n).settings = (p.laneTuning n).settings

theorem SameReadings.refl (p : Part) : SameReadings p p := ⟨rfl, rfl, fun _ => .refl _, fun _ => rfl⟩

theorem SameReadings.trans {p q r : Part} (h : SameReadings p q) (k : SameReadings q r) : SameReadings p r :=
  ⟨k.articles.trans h.articles, k.gap.trans h.gap, fun n => (h.lane n).trans (k.lane n),
    fun n => (k.tuning n).trans (h.tuning n)⟩

theorem SameReadings.of_same {p q : Part} (articles : q.articles = p.articles) (gap : q.gap = p.gap)
    (lanes : q.lanes = p.lanes) (tuning : q.tuning.lanes = p.tuning.lanes) : SameReadings p q :=
  ⟨articles, gap, fun n => (show q.lane n = p.lane n by rw [Part.lane, Part.lane, lanes]) ▸ .refl _,
    fun n => by rw [Part.laneTuning, Part.laneTuning, tuning]⟩

/-! ## The operations a reading is made of -/

theorem recompute_sameReadings (p : Part) : SameReadings p (recompute p) :=
  .of_same (recompute_articles p) (recompute_gap p) (recompute_lanes p) (congrArg (·.lanes) (recompute_tuning p))

theorem raise_sameReadings (e : Event) (p : Part) : SameReadings p (raise e p) := .of_same rfl rfl rfl rfl

theorem attend_sameReadings (p : Part) (a : Attention) : SameReadings p (p.attend a) := .of_same rfl rfl rfl rfl

theorem modifyMember_sameReadings (p : Part) (n : LaneNo) (f : Member → Member) : SameReadings p (p.modifyMember n f) :=
  .of_same rfl rfl rfl rfl

theorem setLane_sameReadings {p : Part} {n : LaneNo} {l : Lane} (same : (p.lane n).SameReading l) :
    SameReadings p (p.setLane n l) := by
  refine ⟨rfl, rfl, fun m => ?_, fun _ => rfl⟩
  rw [Part.lane_setLane]
  split
  · rename_i here
    exact here ▸ same
  · exact .refl _

theorem setLaneTuning_sameReadings {p : Part} {n : LaneNo} {t : LaneTuning}
    (same : t.settings = (p.laneTuning n).settings) : SameReadings p (p.setLaneTuning n t) := by
  refine ⟨rfl, rfl, fun _ => .refl _, fun m => ?_⟩
  rw [Part.laneTuning_setLaneTuning]
  split
  · rename_i here
    exact here ▸ same
  · rfl

/-! ## Batches -/

theorem startBatch_sameReadings (origin : Origin) (lanes : List LaneNo) (p : Part) :
    SameReadings p (startBatch origin lanes p) := by
  refine ⟨startBatch_articles _ _ _, startBatch_gap _ _ _, fun n => ?_, fun n => ?_⟩
  · rw [startBatch_lane]
    split
    · exact ⟨rfl, rfl, rfl⟩
    · exact .refl _
  · rw [startBatch_laneTuning]
    split <;> rfl

theorem dropUnqualified_sameReadings (p : Part) : SameReadings p (dropUnqualified p) := by
  refine ⟨?_, ?_, fun n => ?_, fun n => ?_⟩
  · simp only [dropUnqualified, Part.setTuning]
  · simp only [dropUnqualified, Part.setTuning]
  · rw [dropUnqualified_lane]
    exact .refl _
  · rw [dropUnqualified_laneTuning]

theorem formationTest_sameReadings (p : Part) : SameReadings p (formationTest p) := by
  rcases formationTest_cases p with same | drops | starts
  · rw [same]
    exact .refl p
  · rw [drops]
    exact dropUnqualified_sameReadings p
  · rw [starts]
    exact (dropUnqualified_sameReadings p).trans (startBatch_sameReadings _ _ _)

theorem completeBatch_sameReadings (p : Part) : SameReadings p (completeBatch p) := by
  unfold completeBatch
  split
  · have ended : SameReadings p ((endBatch p).attend .tuneDone) := .of_same rfl rfl rfl rfl
    exact ended.trans (formationTest_sameReadings _)
  · exact .refl p

theorem restoreMember_sameReadings (p : Part) (m : Member) : SameReadings p (restoreMember p m) := by
  unfold restoreMember
  split
  · exact modifyMember_sameReadings _ _ _
  · rename_i v _
    have restored : SameReadings p (p.setLane m.lane ((p.lane m.lane).restore v)) := setLane_sameReadings ⟨rfl, rfl, rfl⟩
    exact restored.trans (modifyMember_sameReadings _ _ _)

theorem withdraw_sameReadings (n : LaneNo) (p : Part) : SameReadings p (withdraw n p) := by
  unfold withdraw
  split
  · split
    · exact .refl p
    · exact restoreMember_sameReadings _ _
  · exact .refl p

theorem addRequest_sameReadings (n : LaneNo) (p : Part) : SameReadings p (addRequest n p) := by
  unfold addRequest
  split
  · exact .refl p
  · have requested : SameReadings p (p.setLaneTuning n { p.laneTuning n with requested := true }) :=
      setLaneTuning_sameReadings rfl
    exact requested.trans (formationTest_sameReadings _)

theorem driftRequest_sameReadings (n : LaneNo) (p : Part) : SameReadings p (driftRequest n p) := by
  unfold driftRequest
  split
  · exact addRequest_sameReadings _ _
  · exact .refl p

/-! ## The readings of a member -/

theorem failMember_sameReadings (m : Member) (kind : TuneErrorKind) (p : Part) : SameReadings p (failMember m kind p) := by
  have failed : (p.lane m.lane).SameReading ((p.lane m.lane).failWith m.saved kind) := by
    cases m.saved <;> exact ⟨rfl, rfl, rfl⟩
  have armed : ∀ q, SameReadings q (armHoldoff m.lane q) := fun q => by
    unfold armHoldoff
    split
    · exact setLaneTuning_sameReadings rfl
    · exact .refl q
  rw [failMember_eq]
  exact ((((setLane_sameReadings failed).trans (recompute_sameReadings _)).trans (raise_sameReadings _ _)).trans
    (armed _)).trans (modifyMember_sameReadings _ _ _)

theorem succeedMember_sameReadings (m : Member) (average : Nat) (p : Part) : SameReadings p (succeedMember m average p) :=
  ((setLane_sameReadings (by exact ⟨rfl, rfl, rfl⟩)).trans (recompute_sameReadings _)).trans (modifyMember_sameReadings _ _ _)

theorem calibrate_sameReadings (p : Part) (n : LaneNo) (c : Calibration) (f : Member → Member) :
    SameReadings p ((p.setLane n { p.lane n with calibration := c }).modifyMember n f) :=
  (setLane_sameReadings (by exact ⟨rfl, rfl, rfl⟩)).trans (modifyMember_sameReadings _ _ _)

theorem setOffset_sameReadings (m : Member) (gain average : Nat) (p : Part) :
    SameReadings p (setOffset m gain average p) := by
  rcases Nat.lt_or_ge average (p.laneTuning m.lane).settings.target with below | reached
  · rw [setOffset_below below]
    exact failMember_sameReadings _ _ _
  · rw [setOffset_taken reached]
    exact calibrate_sameReadings _ _ _ _

theorem closeGain_sameReadings (m : Member) (trial base passing average : Nat) (p : Part) :
    SameReadings p (closeGain m trial base passing average p) := by
  rw [closeGain_eq rfl]
  split
  · exact calibrate_sameReadings _ _ _ _
  · split
    · exact setOffset_sameReadings _ _ _ _
    · split
      · exact failMember_sameReadings _ _ _
      · exact setOffset_sameReadings _ _ _ _

theorem closePhase_sameReadings (m : Member) (average : Nat) (p : Part) : SameReadings p (closePhase m average p) := by
  unfold closePhase
  split
  · exact closeGain_sameReadings _ _ _ _ _ _
  · split
    · exact failMember_sameReadings _ _ _
    · exact setOffset_sameReadings _ _ _ _
  · split
    · exact succeedMember_sameReadings _ _ _
    · exact failMember_sameReadings _ _ _
  · exact .refl p

theorem handReading_sameReadings (n : LaneNo) (conditioned : Nat) (clamped : Bool) (p : Part) :
    SameReadings p (handReading n conditioned clamped p) := by
  unfold handReading
  split
  · exact .refl p
  · split
    · exact .refl p
    · dsimp only
      split
      · exact modifyMember_sameReadings _ _ _
      · exact (closePhase_sameReadings _ _ _).trans (completeBatch_sameReadings _)

/-! ## Faults and the contact machine -/

theorem faultLane_sameReadings (n : LaneNo) (kind : LaneFaultKind) (p : Part) : SameReadings p (faultLane n kind p) := by
  unfold faultLane
  have faulted : SameReadings p (p.setLane n ((p.lane n).faultWith kind)) := setLane_sameReadings ⟨rfl, rfl, rfl⟩
  exact ((((faulted.trans (withdraw_sameReadings n _)).trans (recompute_sameReadings _)).trans
    (raise_sameReadings _ _)).trans (attend_sameReadings _ _)).trans (completeBatch_sameReadings _)

theorem modifyHide_sameReadings (p : Part) (t : Nat) (f : Hide → Hide) : SameReadings p (p.modifyHide t f) :=
  .of_same rfl rfl rfl rfl

theorem attributeContact_sameReadings (n : LaneNo) (p : Part) : SameReadings p (attributeContact n p) := by
  unfold attributeContact
  split
  · exact modifyHide_sameReadings _ _ _
  · split
    · exact .refl p
    · exact raise_sameReadings _ p

theorem attributeBottom_sameReadings (p : Part) : SameReadings p (attributeBottom p) := by
  unfold attributeBottom
  split
  · exact modifyHide_sameReadings _ _ _
  · exact .refl p

theorem handOnContact_sameReadings (n : LaneNo) (change : Option ContactChange) (p : Part) :
    SameReadings p (handOnContact n change p) := by
  unfold handOnContact
  split
  · exact .refl p
  · exact ((attributeContact_sameReadings n p).trans (recompute_sameReadings _)).trans (raise_sameReadings _ _)
  · exact ((attributeBottom_sameReadings p).trans (recompute_sameReadings _)).trans (raise_sameReadings _ _)
  · exact recompute_sameReadings p
  · exact recompute_sameReadings p

theorem filterReference_sameReadings (n : LaneNo) (p : Part) : SameReadings p (filterReference n p) := by
  have filtered : SameReadings p (p.setLane n (p.lane n).filter) := setLane_sameReadings ⟨rfl, rfl, rfl⟩
  unfold filterReference
  split
  · exact .refl p
  · dsimp only
    split
    · exact filtered
    · exact filtered.trans (driftRequest_sameReadings n _)

theorem senseReading_sameReadings (n : LaneNo) (p : Part) : SameReadings p (senseReading n p) := by
  have handed := (setLane_sameReadings (p := p) (Lane.sense_sameReading (p.lane n))).trans
    (handOnContact_sameReadings n (p.lane n).sense.2 _)
  unfold senseReading
  dsimp only
  split
  · exact handed.trans (filterReference_sameReadings n _)
  · exact handed

theorem pastRailCheck_sameReadings (n : LaneNo) (raw : Nat) (p : Part) : SameReadings p (pastRailCheck n raw p) := by
  unfold pastRailCheck
  dsimp only
  split
  · split
    · exact setLane_sameReadings ⟨rfl, rfl, rfl⟩
    · exact senseReading_sameReadings n p
  · split
    · exact handReading_sameReadings _ _ _ p
    · exact .refl p

/-- A reading changes the readings by its own two values alone (R101). -/
theorem takeReading_sameReadings (n : LaneNo) (raw : Nat) (p : Part) :
    SameReadings (p.setLane n ((p.lane n).read raw)) (takeReading n raw p) := by
  have railed : SameReadings (p.setLane n ((p.lane n).read raw)) (p.setLane n (((p.lane n).read raw).railStep raw)) := by
    have twice := setLane_sameReadings (p := p.setLane n ((p.lane n).read raw)) (n := n)
      (l := ((p.lane n).read raw).railStep raw) (by rw [Part.lane_setLane_same]; exact ⟨rfl, rfl, rfl⟩)
    rwa [Part.setLane_setLane] at twice
  unfold takeReading
  dsimp only
  split
  · split
    · exact railed.trans (faultLane_sameReadings n .sensor _)
    · exact railed.trans (pastRailCheck_sameReadings n raw _)
  · exact pastRailCheck_sameReadings n raw _

end Sys2Proof.Machine
end

section
/-! PROOFS. A lane reading (R100 to R104, R108, R130): conditioning, the rail check, faults and the hand-on. -/

namespace Sys2Proof.Machine

/-! ## Conditioning -/

theorem Calibration.condition_eq (c : Calibration) (raw : Nat) :
    (c.condition raw : Int) = max 0 (min 4095 (((raw * c.gain / 16 : Nat) : Int) - 4 * (c.offset : Int))) := by
  rw [Calibration.condition, Calibration.scale, Config.conditionedMax]
  omega

theorem startScan_eq (n : LaneNo) (p : Part) : startScan n p =
    { p with scanPeriod := if n.val = 0 then p.settings.scanPeriod else p.scanPeriod } := by
  unfold startScan
  split <;> rfl

/-! ## The rail check -/

theorem atRail_iff (raw : Half) : atRail raw.toNat = true ↔ raw = 0 ∨ raw = 65535 := by
  rw [atRail, Bool.or_eq_true, beq_iff_eq, beq_iff_eq, ← BitVec.toNat_inj, ← BitVec.toNat_inj]
  rfl

/-- The lane with a reading conditioned and its rail counter (R101, R102). -/
def Lane.taken (l : Lane) (raw : Nat) : Lane :=
  if l.service = .inService then (l.read raw).railStep raw else l.read raw

theorem Lane.taken_eq (l : Lane) (raw : Half) : l.taken raw.toNat = { l.read raw.toNat with railCount :=
    if l.service = .inService then (if raw = 0 ∨ raw = 65535 then l.railCount + 1 else 0) else l.railCount } := by
  unfold Lane.taken
  split
  · rw [Lane.railStep, counted]
    simp only [atRail_iff, Lane.read]
  · rfl

theorem Lane.taken_service (l : Lane) (raw : Nat) : (l.taken raw).service = l.service := by
  unfold Lane.taken
  split <;> rfl

theorem takeReading_railed {n : LaneNo} {raw : Nat} {p : Part} (service : (p.lane n).service = .inService)
    (fourth : ((p.lane n).taken raw).railCount = 4) :
    takeReading n raw p = faultLane n .sensor (p.setLane n ((p.lane n).taken raw)) := by
  have railed : (p.lane n).taken raw = ((p.lane n).read raw).railStep raw := if_pos service
  rw [railed] at fourth ⊢
  exact (if_pos service).trans (if_pos fourth)

theorem takeReading_past {n : LaneNo} {raw : Nat} {p : Part}
    (no : (p.lane n).service ≠ .inService ∨ ((p.lane n).taken raw).railCount ≠ 4) :
    takeReading n raw p = pastRailCheck n raw (p.setLane n ((p.lane n).taken raw)) := by
  by_cases service : (p.lane n).service = .inService
  · have railed : (p.lane n).taken raw = ((p.lane n).read raw).railStep raw := if_pos service
    rw [railed] at no ⊢
    exact (if_pos service).trans (if_neg (no.resolve_left (not_not_intro service)))
  · have read : (p.lane n).taken raw = (p.lane n).read raw := if_neg service
    rw [read]
    exact if_neg service

section
variable {n : LaneNo} {raw : Nat} {p : Part}

theorem pastRailCheck_blind (blind : (p.lane n).seeing = false) (free : (p.lane n).tune ≠ .tuning) :
    pastRailCheck n raw p = p := by
  simp only [pastRailCheck, blind, free, Bool.false_eq_true, if_false]

theorem pastRailCheck_tuning (blind : (p.lane n).seeing = false) (tuning : (p.lane n).tune = .tuning) :
    pastRailCheck n raw p =
      handReading n (p.lane n).lastConditioned (decide (4095 < (p.lane n).calibration.scale raw)) p := by
  simp only [pastRailCheck, blind, tuning, Bool.false_eq_true, if_false, if_true]
  rfl

theorem pastRailCheck_seeds (seeing : (p.lane n).seeing = true) (pending : (p.lane n).seedPending = true) :
    pastRailCheck n raw p = p.setLane n (p.lane n).seed := by
  simp only [pastRailCheck, seeing, pending, if_true]

theorem pastRailCheck_senses (seeing : (p.lane n).seeing = true) (seeded : (p.lane n).seedPending = false) :
    pastRailCheck n raw p = senseReading n p := by
  simp only [pastRailCheck, seeing, seeded, if_true, Bool.false_eq_true, if_false]

end

/-! ## Withdrawal -/

theorem withdraw_same {n : LaneNo} {p : Part} (no : ∀ b : Batch, p.tuning.batch = some b →
    b.running = false ∨ ∀ m ∈ b.members, m.lane = n → m.phase = .finished) : withdraw n p = p := by
  cases found : p.member? n with
  | none => simp only [withdraw, found]
  | some m =>
    have finished : m.isFinished = true := by
      unfold Part.member? at found
      split at found
      · rename_i b record
        split at found
        · rename_i running
          have unfinished := (no b record).resolve_left (by simp [running])
          exact beq_iff_eq.mpr (unfinished m (List.mem_of_find?_eq_some found)
            (beq_iff_eq.mp (List.find?_some (p := fun m : Member => m.lane == n) found)))
        · cases found
      · cases found
    simp only [withdraw, found, finished, if_true]

theorem Part.member?_running {p : Part} {b : Batch} (record : p.tuning.batch = some b) (running : b.running = true)
    (n : LaneNo) : p.member? n = b.members.find? fun m => m.lane == n := by
  simp only [Part.member?, record, running, if_true]

theorem withdraw_restores {n : LaneNo} {p : Part} {m : Member} {v : Saved} (found : p.member? n = some m)
    (busy : m.phase ≠ .finished) (saved : m.saved = some v) :
    withdraw n p = (p.setLane n ((p.lane n).restore v)).modifyMember n Member.finish := by
  have lane := Part.member?_lane found
  simp only [withdraw, found, Member.isFinished, beq_eq_false_iff_ne.mpr busy, Bool.false_eq_true, if_false, restoreMember,
    saved, lane]

theorem withdraw_lane_other {n m : LaneNo} (other : m ≠ n) (p : Part) : (withdraw n p).lane m = p.lane m := by
  unfold withdraw
  split
  · rename_i k found
    split
    · rfl
    · exact restoreMember_lane_other (by rw [Part.member?_lane found]; exact other.symm) p
  · rfl

theorem withdraw_lane_same (n : LaneNo) (p : Part) :
    (withdraw n p).lane n = p.lane n ∨ ∃ v, (withdraw n p).lane n = (p.lane n).restore v := by
  unfold withdraw
  split
  · rename_i k found
    split
    · exact .inl rfl
    · have lane := Part.member?_lane found
      subst lane
      cases saved : k.saved with
      | none =>
        rw [restoreMember, saved]
        exact .inl rfl
      | some v => exact .inr ⟨v, restoreMember_lane_same saved p⟩
  · exact .inl rfl

/-! ## The lanes after a batch that completes -/

theorem formationTest_lane (p : Part) (n : LaneNo) :
    (formationTest p).lane n = p.lane n ∨ ∃ mode, (formationTest p).lane n = (p.lane n).join mode := by
  rcases formationTest_cases p with same | drops | starts
  · rw [same]
    exact .inl rfl
  · rw [drops, dropUnqualified_lane]
    exact .inl rfl
  · rw [starts, startBatch_lane, dropUnqualified_lane]
    split
    · exact .inr ⟨_, rfl⟩
    · exact .inl rfl

theorem completeBatch_lane (p : Part) (n : LaneNo) :
    (completeBatch p).lane n = p.lane n ∨ ∃ mode, (completeBatch p).lane n = (p.lane n).join mode := by
  unfold completeBatch
  split
  · exact formationTest_lane ((endBatch p).attend .tuneDone) n
  · exact .inl rfl

theorem completeBatch_laneFault (p : Part) :
    (completeBatch p).port.attention.laneFault = p.port.attention.laneFault := by
  unfold completeBatch
  split
  · rw [formationTest_port]
    rfl
  · rfl

/-! ## Faults -/

section
variable (n : LaneNo) (kind : LaneFaultKind) (p : Part)

theorem faultLane_lane (m : LaneNo) :
    (faultLane n kind p).lane m = (withdraw n (p.setLane n ((p.lane n).faultWith kind))).lane m ∨
      ∃ mode, (faultLane n kind p).lane m = ((withdraw n (p.setLane n ((p.lane n).faultWith kind))).lane m).join mode := by
  have handed : ∀ q : Part, ((raise (.laneFault n kind) (recompute q)).attend .laneFault).lane m = q.lane m := fun q => by
    rw [Part.lane_attend, Part.lane, Part.lane, raise_lanes, recompute_lanes]
  unfold faultLane
  generalize withdraw n (p.setLane n ((p.lane n).faultWith kind)) = q
  rw [← handed q]
  exact completeBatch_lane _ m

theorem faultLane_lane_same : ((faultLane n kind p).lane n).service = .faulted kind ∧
    ((faultLane n kind p).lane n).railCount = 0 ∧ ((faultLane n kind p).lane n).contact = .empty := by
  have ended := faultLane_lane n kind p n
  have withdrawn := withdraw_lane_same n (p.setLane n ((p.lane n).faultWith kind))
  rw [Part.lane_setLane_same] at withdrawn
  generalize (withdraw n (p.setLane n ((p.lane n).faultWith kind))).lane n = l at *
  generalize (faultLane n kind p).lane n = k at *
  rcases withdrawn with rfl | ⟨v, rfl⟩ <;> rcases ended with rfl | ⟨mode, rfl⟩ <;> exact ⟨rfl, rfl, rfl⟩

theorem faultLane_lane_other {m : LaneNo} (other : m ≠ n) :
    ((faultLane n kind p).lane m).service = (p.lane m).service ∧
      ((faultLane n kind p).lane m).reference = (p.lane m).reference := by
  have ended := faultLane_lane n kind p m
  rw [withdraw_lane_other other, Part.lane_setLane, if_neg other.symm] at ended
  generalize (faultLane n kind p).lane m = k at *
  rcases ended with rfl | ⟨mode, rfl⟩ <;> exact ⟨rfl, rfl⟩

theorem faultLane_attention : (faultLane n kind p).port.attention.laneFault = true := by
  unfold faultLane
  rw [completeBatch_laneFault]
  rfl

end

/-! ## Attribution -/

section
variable {p : Part} {h : Hide}

theorem attributeContact_covers (splitting : p.splitting? = some h) (n : LaneNo) : attributeContact n p =
    p.modifyHide h.ticket fun x => x.cover n.val := by
  simp only [attributeContact, splitting]

theorem attributeBottom_counts (splitting : p.splitting? = some h) : attributeBottom p =
    p.modifyHide h.ticket Hide.addBottom := by
  simp only [attributeBottom, splitting]

theorem attributeBottom_none (none : p.splitting? = none) : attributeBottom p = p := by
  simp only [attributeBottom, none]

theorem attributeContact_none (none : p.splitting? = none) (n : LaneNo) : attributeContact n p =
    if p.feed.holds.hideAborted = true ∨ p.feed.holds.stopRecovery = true then p else raise (.lanePhantom n) p := by
  simp only [attributeContact, none, Part.knifeOccupied, Option.isSome_none, Bool.false_or, Bool.or_eq_true]

end

/-- A change of one lane's record that keeps its service makes no lane wait. -/
theorem Part.setLane_waitingDriven {p : Part} {n : LaneNo} {l : Lane} (service : l.service = (p.lane n).service)
    (m : LaneNo) : (p.setLane n l).waitingDriven m = p.waitingDriven m := by
  rw [Part.waitingDriven, Part.waitingDriven, Part.lane_setLane, Part.drive_setLane]
  split
  · rename_i here
    subst here
    rw [Lane.driven, Lane.driven, service]
  · rfl

end Sys2Proof.Machine
end

section
/-! PROOFS. A lane reading at the machine (R100 to R104, R108). -/

namespace Sys2Proof.Machine

/-- The part with the reading of a lane taken, before the rail check decides. -/
def withReading (n : LaneNo) (l : Lane) (p : Part) : Part :=
  { p.setLane n l with scanPeriod := if n.val = 0 then p.settings.scanPeriod else p.scanPeriod }

theorem startScan_setLane (n : LaneNo) (l : Lane) (p : Part) : (startScan n p).setLane n l = withReading n l p := by
  rw [startScan_eq]
  rfl

theorem startScan_lane (n : LaneNo) (p : Part) : (startScan n p).lane n = p.lane n := by
  rw [startScan_eq]
  rfl

theorem withReading_lane (n : LaneNo) (l : Lane) (p : Part) : (withReading n l p).lane n = l := p.lane_setLane_same n l

theorem withReading_setLane (n : LaneNo) (l k : Lane) (p : Part) :
    (withReading n l p).setLane n k = withReading n k p := by
  rw [withReading, withReading, ← Part.setLane_setLane p n l k]
  rfl

theorem withReading_waitingDriven {n : LaneNo} {l : Lane} {p : Part} (service : l.service = (p.lane n).service)
    (m : LaneNo) : (withReading n l p).waitingDriven m = p.waitingDriven m := Part.setLane_waitingDriven service m

theorem senseReading_withReading {n : LaneNo} {l : Lane} {p sensed : Part}
    (hands : handOnContact n l.sense.2 ((withReading n l p).setLane n l.sense.1) = sensed) :
    senseReading n (withReading n l p) = if l.contact = .empty then filterReference n sensed else sensed := by
  rw [← hands]
  unfold senseReading
  rw [withReading_lane]

theorem Hide.cover_eq (h : Hide) (n : Nat) : h.cover n = { h with coverage := match h.coverage with
    | some (a, z) => some (min a n, max z n)
    | none => some (n, n) } := by
  unfold Hide.cover
  rcases h.coverage with _ | ⟨a, z⟩ <;> rfl

section
variable {n : LaneNo} {raw : Half} {s : State} {l : Lane} (taken : l = (s.lane n).taken raw.toNat)
include taken

theorem exec_laneReading_faults (service : l.service = .inService) (fourth : l.railCount = 4) :
    exec (.laneReading n raw) s = .next (s.thenWakes (faultLane n .sensor (withReading n l s.toPart))) := by
  subst taken
  rw [exec_thenArbiter_of_effect (c := .laneReading n raw) rfl, takeReading_railed, startScan_lane, startScan_setLane]
  · rwa [startScan_lane, ← Lane.taken_service]
  · rwa [startScan_lane]

theorem exec_laneReading_past (no : l.service ≠ .inService ∨ l.railCount ≠ 4) :
    exec (.laneReading n raw) s = .next (s.thenWakes (pastRailCheck n raw.toNat (withReading n l s.toPart))) := by
  subst taken
  rw [exec_thenArbiter_of_effect (c := .laneReading n raw) rfl, takeReading_past, startScan_lane, startScan_setLane]
  rwa [startScan_lane, ← Lane.taken_service _ raw.toNat]

theorem thenWakes_withReading {k : Lane} (service : k.service = l.service) :
    s.thenWakes (withReading n k s.toPart) = s.withPart (withReading n k s.toPart) := by
  refine s.thenWakes_of_waiting _ fun m waits => ?_
  rwa [withReading_waitingDriven (by rw [service, taken, Lane.taken_service])] at waits

end

end Sys2Proof.Machine

open Sys2Proof Sys2Proof.Machine

/-- Settles O41: what a reading leaves is a relation its every operation keeps; which rule it takes is read from the
lane with the reading taken. -/
theorem readingsAreTaken : Obligations.ReadingsAreTaken := by
  refine ⟨fun n raw s => ?_, fun n raw s l q isTaken isPart => ?_, fun n kind p told isTold => ?_, fun n p => ⟨withdraw_same,
    fun b m v record running found busy saved => ?_⟩, fun _ _ => rfl, fun n p h splitting => ?_, fun n p none => ?_⟩
  · have same := takeReading_sameReadings n raw.toNat (startScan n s.toPart)
    have base := takeReading_sameBase n raw.toNat (startScan n s.toPart)
    rw [startScan_lane, startScan_setLane] at same
    refine ⟨_, exec_thenArbiter_of_effect (c := .laneReading n raw) rfl s, ?_⟩
    simp only [State.thenWakes_port, State.thenWakes_feed, State.thenWakes_articles, State.thenWakes_gap,
      State.thenWakes_lane, State.thenWakes_laneTuning, State.thenWakes_settings, State.thenWakes_routes,
      State.thenWakes_scanPeriod, State.thenWakes_nextTicket, State.thenWakes_unbound, State.thenWakes_eye,
      State.thenWakes_boards]
    generalize takeReading n raw.toNat (startScan n s.toPart) = q at *
    rw [startScan_eq] at base
    have own : (withReading n ((s.lane n).read raw.toNat) s.toPart).lane n = (s.lane n).read raw.toNat :=
      withReading_lane n _ s.toPart
    have other : ∀ m, m ≠ n → (withReading n ((s.lane n).read raw.toNat) s.toPart).lane m = s.lane m := fun m differs =>
      (s.toPart.lane_setLane n m _).trans (if_neg differs.symm)
    refine ⟨?_, ?_, fun m differs => ?_, fun m => ⟨?_, same.tuning m⟩, base.scanPeriod, same.articles, base.nextTicket, base.unbound,
      base.eye, base.position, base.backwardRun, base.stopLine, same.gap, base.settings, base.routes, base.boards, base.slot,
      base.attentionMask⟩
    · rw [(same.lane n).raw, own]
      rfl
    · rw [(same.lane n).conditioned, own]
      exact (s.lane n).calibration.condition_eq raw.toNat
    · rw [(same.lane m).raw, (same.lane m).conditioned, other m differs]
      exact ⟨rfl, rfl⟩
    · rw [(same.lane m).settings]
      by_cases here : m = n
      · rw [here, own]
        rfl
      · rw [other m here]
  · have taken : l = (s.lane n).taken raw.toNat := isTaken.trans (Lane.taken_eq _ raw).symm
    have part : q = withReading n l s.toPart := isPart
    subst part
    refine ⟨fun service fourth => ?_, exec_laneReading_faults taken, fun no => ?_⟩
    · have attention := faultLane_attention n .sensor (withReading n l s.toPart)
      obtain ⟨faulted, counter, contact⟩ := faultLane_lane_same n .sensor (withReading n l s.toPart)
      have others := fun m => faultLane_lane_other n .sensor (withReading n l s.toPart) (m := m)
      refine ⟨_, exec_laneReading_faults taken service fourth, ?_⟩
      simp only [State.thenWakes_port, State.thenWakes_lane]
      refine ⟨faulted, counter, contact, attention, fun m other => ?_⟩
      have lane : (withReading n l s.toPart).lane m = s.lane m := (s.toPart.lane_setLane n m l).trans (if_neg other.symm)
      rw [← lane]
      exact others m other
    · have past := exec_laneReading_past taken no
      have lane := withReading_lane n l s.toPart
      refine ⟨fun blind free => ?_, fun blind tuning => ?_, fun seeing pending => ?_, fun seeing seeded sensed isSensed => ?_⟩
      · rw [past, pastRailCheck_blind (by rwa [lane]) (by rwa [lane]), thenWakes_withReading taken rfl]
      · rw [past, pastRailCheck_tuning (by rwa [lane]) (by rwa [lane]), lane]
      · rw [past, pastRailCheck_seeds (by rwa [lane]) (by rwa [lane]), lane, withReading_setLane,
          thenWakes_withReading (k := l.seed) taken rfl, withReading_setLane]
        rfl
      · have hands : handOnContact n l.sense.2 ((withReading n l s.toPart).setLane n l.sense.1) = sensed := by
          rw [isSensed]
          rcases l.sense with ⟨k, _ | change⟩
          · rfl
          · cases change <;> rfl
        rw [past, pastRailCheck_senses (by rwa [lane]) (by rwa [lane]), senseReading_withReading hands]
  · subst isTold
    rfl
  · rw [withdraw_restores ((Part.member?_running record running n).trans found) busy saved]
    rfl
  · have splits : p.splitting? = some h := splitting
    rw [attributeContact_covers splits, attributeBottom_counts splits]
    refine ⟨?_, rfl⟩
    rw [Part.modifyHide]
    simp only [Hide.cover_eq]
    rfl
  · have splits : p.splitting? = .none := p.splitting?_eq_none.mpr none
    rw [attributeContact_none splits, attributeBottom_none splits]
    exact ⟨rfl, fun occupied => if_pos occupied, fun unaborted unrecovered => if_neg (by simp [unaborted, unrecovered])⟩
end

section
/-! PROOFS. What a lane fault and a board fault leave unchanged beyond their own claim (R103, R130, R131, R165). -/

namespace Sys2Proof.Machine

/-! ## The drive records under a recompute -/

/-- A drive record keeps its applied value and its retry count, and a lane that is not SETTLED its state (R156). -/
structure Drive.SameButSettled (d e : Drive) : Prop where
  applied : e.applied = d.applied
  retry : e.retry = d.retry
  state : d.state ≠ .settled → e.state = d.state

theorem Drive.SameButSettled.refl (d : Drive) : d.SameButSettled d := ⟨rfl, rfl, fun _ => rfl⟩

theorem Drive.SameButSettled.trans {d e f : Drive} (h : d.SameButSettled e) (k : e.SameButSettled f) : d.SameButSettled f :=
  ⟨k.applied.trans h.applied, k.retry.trans h.retry, fun busy =>
    (k.state (by rwa [h.state busy])).trans (h.state busy)⟩

theorem Drive.SameButSettled.eq_of_waiting {d e : Drive} (h : d.SameButSettled e) (waiting : d.state = .waiting) : e = d := by
  obtain ⟨applied, retry, state⟩ := h
  have same := state (by rw [waiting]; nofun)
  cases e
  cases d
  cases applied
  cases retry
  cases same
  rfl

/-! ## What the end of a claim leaves -/

/-- What the withdrawals, the recompute, the event and the end of a batch leave once the claimed lanes are FAULTED. -/
structure SameUnderFault (p q : Part) : Prop where
  base : SameBase p q
  articles : q.articles = p.articles
  hides : q.hides = p.hides
  gap : q.gap = p.gap
  service : ∀ n, (q.lane n).service = (p.lane n).service
  contact : ∀ n, (p.lane n).contact = .empty → (q.lane n).contact = .empty
  drive : ∀ n, (p.drive n).SameButSettled (q.drive n)

theorem SameUnderFault.refl (p : Part) : SameUnderFault p p :=
  ⟨.refl p, rfl, rfl, rfl, fun _ => rfl, fun _ => id, fun _ => .refl _⟩

theorem SameUnderFault.trans {p q r : Part} (h : SameUnderFault p q) (k : SameUnderFault q r) : SameUnderFault p r :=
  ⟨h.base.trans k.base, k.articles.trans h.articles, k.hides.trans h.hides, k.gap.trans h.gap,
    fun n => (k.service n).trans (h.service n), fun n empty => k.contact n (h.contact n empty),
    fun n => (h.drive n).trans (k.drive n)⟩

/-- Nothing of it is looked at by an operation that keeps the tables, the axis, the lanes and the drive records. -/
theorem SameUnderFault.of_same {p q : Part} (base : SameBase p q) (articles : q.articles = p.articles)
    (hides : q.hides = p.hides) (gap : q.gap = p.gap) (lanes : q.lanes = p.lanes) (drives : q.bus.drives = p.bus.drives) :
    SameUnderFault p q := by
  have lane : ∀ n, q.lane n = p.lane n := fun n => by rw [Part.lane, Part.lane, lanes]
  have drive : ∀ n, q.drive n = p.drive n := fun n => by rw [Part.drive, Part.drive, drives]
  exact ⟨base, articles, hides, gap, fun n => by rw [lane], fun n empty => by rwa [lane], fun n => by rw [drive]; exact .refl _⟩

theorem recompute_sameUnderFault (p : Part) : SameUnderFault p (recompute p) where
  base := recompute_sameBase p
  articles := recompute_articles p
  hides := recompute_hides p
  gap := recompute_gap p
  service n := by rw [recompute_lane]
  contact n empty := by rwa [recompute_lane]
  drive n := ⟨recompute_applied p n, recompute_retry p n, recompute_state p n⟩

theorem raise_sameUnderFault (e : Event) (p : Part) : SameUnderFault p (raise e p) :=
  .of_same (raise_sameBase e p) rfl rfl rfl rfl rfl

theorem attend_sameUnderFault (p : Part) {a : Attention} (base : SameBase p (p.attend a)) : SameUnderFault p (p.attend a) :=
  .of_same base rfl rfl rfl rfl rfl

theorem restoreMember_sameUnderFault (p : Part) (m : Member) : SameUnderFault p (restoreMember p m) := by
  refine ⟨restoreMember_sameBase p m, ?_, ?_, ?_, fun n => ?_, fun n empty => ?_, fun n => ?_⟩
  · unfold restoreMember
    split <;> rfl
  · unfold restoreMember
    split <;> rfl
  · unfold restoreMember
    split <;> rfl
  · by_cases same : m.lane = n
    · subst same
      cases saved : m.saved with
      | none =>
        rw [restoreMember, saved]
        rfl
      | some v =>
        rw [restoreMember_lane_same saved]
        rfl
    · rw [restoreMember_lane_other same]
  · by_cases same : m.lane = n
    · subst same
      cases saved : m.saved with
      | none =>
        rw [restoreMember, saved]
        exact empty
      | some v =>
        rw [restoreMember_lane_same saved]
        rfl
    · rwa [restoreMember_lane_other same]
  · unfold restoreMember
    split <;> exact .refl _

theorem withdraw_sameUnderFault (n : LaneNo) (p : Part) : SameUnderFault p (withdraw n p) := by
  unfold withdraw
  split
  · split
    · exact .refl p
    · exact restoreMember_sameUnderFault _ _
  · exact .refl p

theorem foldl_sameUnderFault {α : Type} (f : Part → α → Part) (step : ∀ p a, SameUnderFault p (f p a)) :
    ∀ (l : List α) (p : Part), SameUnderFault p (l.foldl f p)
  | [], p => .refl p
  | a :: l, p => (step p a).trans (foldl_sameUnderFault f step l (f p a))

theorem startBatch_drive (origin : Origin) (lanes : List LaneNo) (p : Part) (n : LaneNo) :
    (p.drive n).SameButSettled ((startBatch origin lanes p).drive n) := by
  have recomputed : ∀ q : Part, q.bus = p.bus → (p.drive n).SameButSettled ((recompute q).drive n) := fun q bus => by
    have drive : q.drive n = p.drive n := by rw [Part.drive, Part.drive, bus]
    rw [← drive]
    exact ⟨recompute_applied q n, recompute_retry q n, recompute_state q n⟩
  unfold startBatch
  exact recomputed _ rfl

theorem formationTest_drive (p : Part) (n : LaneNo) : (p.drive n).SameButSettled ((formationTest p).drive n) := by
  have bus : (dropUnqualified p).bus = p.bus := by simp only [dropUnqualified, Part.setTuning]
  have drops : (dropUnqualified p).drive n = p.drive n := by rw [Part.drive, Part.drive, bus]
  rcases formationTest_cases p with same | dropped | starts
  · rw [same]
    exact .refl _
  · rw [dropped, drops]
    exact .refl _
  · rw [starts, ← drops]
    exact startBatch_drive _ _ _ n

theorem formationTest_sameUnderFault (p : Part) : SameUnderFault p (formationTest p) := by
  refine ⟨formationTest_sameBase p, formationTest_articles p, formationTest_hides p, formationTest_gap p, fun n => ?_,
    fun n empty => ?_, formationTest_drive p⟩
  · rcases formationTest_lane p n with same | ⟨mode, joins⟩
    · rw [same]
    · rw [joins]
      rfl
  · rcases formationTest_lane p n with same | ⟨mode, joins⟩
    · rwa [same]
    · rw [joins]
      rfl

theorem completeBatch_sameUnderFault (p : Part) : SameUnderFault p (completeBatch p) := by
  unfold completeBatch
  split
  · have ended : SameUnderFault p ((endBatch p).attend .tuneDone) :=
      .of_same ((endBatch_sameBase p).trans (attend_sameBase _ _ (by simp) (by simp) (by simp))) rfl rfl rfl rfl rfl
    exact ended.trans (formationTest_sameUnderFault _)
  · exact .refl p

/-- A lane fault, once the lane's record is FAULTED (R102, R103). -/
theorem faultLane_sameUnderFault (n : LaneNo) (kind : LaneFaultKind) (p : Part) :
    SameUnderFault (p.setLane n ((p.lane n).faultWith kind)) (faultLane n kind p) := by
  unfold faultLane
  exact ((((withdraw_sameUnderFault n _).trans (recompute_sameUnderFault _)).trans (raise_sameUnderFault _ _)).trans
    (attend_sameUnderFault _ (attend_sameBase _ _ (by simp) (by simp) (by simp)))).trans (completeBatch_sameUnderFault _)

/-! ## A board fault -/

theorem boardOf_eq_iff (n : LaneNo) (b : BoardNo) : boardOf n = b ↔ n.val / 8 = b.val := Fin.ext_iff

theorem Lane.boardClaim_eq (l : Lane) : l.boardClaim = if l.service = .faulted .board then l else l.faultWith .board := by
  unfold Lane.boardClaim
  split
  · rename_i faulted
    rw [if_pos faulted]
  · rename_i other
    rw [if_neg other]

/-- The part with a board FAULTED and its lanes claimed (R103, R165). -/
def claimBoard (b : BoardNo) (kind : BoardFaultKind) (p : Part) : Part :=
  (p.setBoard b (.faulted kind)).modifyBoardLanes b Lane.boardClaim

theorem claimBoard_lane (b : BoardNo) (kind : BoardFaultKind) (p : Part) (n : LaneNo) : (claimBoard b kind p).lane n =
    if n.val / 8 = b.val ∧ (p.lane n).service ≠ .faulted .board then (p.lane n).faultWith .board else p.lane n := by
  rw [claimBoard, Part.lane_modifyBoardLanes]
  change (if boardOf n = b then (p.lane n).boardClaim else p.lane n) = _
  simp only [boardOf_eq_iff, Lane.boardClaim_eq]
  by_cases board : n.val / 8 = b.val <;> by_cases faulted : (p.lane n).service = .faulted .board <;> simp [board, faulted]

theorem faultBoard_sameUnderFault (b : BoardNo) (kind : BoardFaultKind) (p : Part) :
    SameUnderFault (claimBoard b kind p) (faultBoard b kind p) := by
  unfold faultBoard boardClaim
  exact ((((foldl_sameUnderFault _ (fun q n => withdraw_sameUnderFault n q) _ _).trans (recompute_sameUnderFault _)).trans
    (completeBatch_sameUnderFault _)).trans (raise_sameUnderFault _ _)).trans
      (attend_sameUnderFault _ (attend_sameBase _ _ (by simp) (by simp) (by simp)))

theorem faultBoard_attention (b : BoardNo) (kind : BoardFaultKind) (p : Part) :
    (faultBoard b kind p).port.attention.boardFault = true := rfl

/-- The eight lanes of the board are FAULTED(BOARD), those that were not already EMPTY. -/
theorem faultBoard_lane {b : BoardNo} {n : LaneNo} (board : n.val / 8 = b.val) (kind : BoardFaultKind) (p : Part) :
    ((faultBoard b kind p).lane n).service = .faulted .board ∧
      ((p.lane n).service ≠ .faulted .board → ((faultBoard b kind p).lane n).contact = .empty) := by
  have same := faultBoard_sameUnderFault b kind p
  have lane := claimBoard_lane b kind p n
  refine ⟨?_, fun other => same.contact n ?_⟩
  · rw [same.service, lane]
    split
    · rfl
    · rename_i no
      by_contra other
      exact no ⟨board, other⟩
  · rw [lane, if_pos ⟨board, other⟩]
    rfl

theorem faultBoard_service_other {b : BoardNo} {n : LaneNo} (other : n.val / 8 ≠ b.val) (kind : BoardFaultKind) (p : Part) :
    ((faultBoard b kind p).lane n).service = (p.lane n).service := by
  rw [(faultBoard_sameUnderFault b kind p).service, claimBoard_lane, if_neg fun both => other both.1]

/-! ## The master enters RELEASING -/

theorem releaseTicks_eq (units : Nat) : releaseTicks units = units := Nat.mul_one units

theorem releaseBus_eq (p : Part) : releaseBus p = { p with bus := { p.bus with
    master := .releasing
    releaseTimer := some p.settings.releaseInterval
    selectTimer := none
    resetDrain := false
    dueNext := none
    dueAfter := none } } := by
  rw [releaseBus, Bus.release, releaseTicks_eq]
  rfl

end Sys2Proof.Machine
end

section
/-! PROOFS. Selection, board faults and BOARD RECOVER (R103, R159, R165, R166). -/

namespace Sys2Proof.Machine

/-! ## Selecting -/

theorem takeSelectAnswer_elsewhere {p : Part} (other : ∀ b, p.bus.master ≠ .selecting b) (answer : BoardAnswer) :
    takeSelectAnswer answer p = p := by
  unfold takeSelectAnswer
  split
  · rename_i selecting
    exact absurd selecting (other _)
  · rename_i selecting
    exact absurd selecting (other _)
  · rfl

theorem expireSelectTimer_elsewhere {p : Part} (other : ∀ b, p.bus.master ≠ .selecting b) : expireSelectTimer p = p := by
  unfold expireSelectTimer
  split
  · rename_i b selecting
    exact absurd selecting (other b)
  · rfl

section
variable {p : Part} {b : BoardNo} (selecting : p.bus.master = .selecting b)
include selecting

theorem takeSelectAnswer_notReady : takeSelectAnswer .notReady p = p := by
  unfold takeSelectAnswer
  rw [selecting]

theorem takeSelectAnswer_ready : takeSelectAnswer .ready p = p.setBus (p.bus.open b p.settings.sessionFrameLimit) := by
  unfold takeSelectAnswer
  rw [selecting]

theorem takeSelectAnswer_refuse : takeSelectAnswer .refuse p = faultBoard b .refused (releaseBus p) := by
  unfold takeSelectAnswer
  rw [selecting]

theorem expireSelectTimer_selecting : expireSelectTimer p = faultBoard b .timeout (releaseBus p) := by
  unfold expireSelectTimer
  rw [selecting]

end

/-! ## The claim of a board -/

theorem lanesOfBoard_eq_filter (b : BoardNo) : lanesOfBoard b = (List.finRange 32).filter fun n => n.val / 8 == b.val := by
  revert b
  decide

/-- The claim of a board is known by its lanes. -/
theorem eq_claimBoard {b : BoardNo} {kind : BoardFaultKind} {p claimed : Part}
    (shape : claimed = { p with lanes := claimed.lanes, bus := { p.bus with boards := p.bus.boards.set b.val (.faulted kind) } })
    (lane : ∀ n : LaneNo, claimed.lane n =
      if n.val / 8 = b.val ∧ (p.lane n).service ≠ .faulted .board then (p.lane n).faultWith .board else p.lane n) :
    claimed = claimBoard b kind p := by
  have lanes : claimed.lanes = (claimBoard b kind p).lanes :=
    Vector.ext fun i bound => (lane ⟨i, bound⟩).trans (claimBoard_lane b kind p ⟨i, bound⟩).symm
  rw [shape, lanes]
  rfl

theorem faultBoard_eq (b : BoardNo) (kind : BoardFaultKind) (p : Part) : faultBoard b kind p =
    (raise (.boardFault b kind) (completeBatch (recompute
      (((List.finRange 32).filter fun n => n.val / 8 == b.val).foldl (fun q n => withdraw n q)
        (claimBoard b kind p))))).attend .boardFault := by
  rw [← lanesOfBoard_eq_filter]
  rfl

/-! ## BOARD RECOVER -/

theorem onBoard_of_board {board : Byte} {b : BoardNo} (number : board.toNat = b.val) (body : BoardNo → Part → Part × Answer)
    (p : Part) : onBoard board body p = body b p := by
  have named : boardOperand board = some b := by
    rw [boardOperand, dif_pos (number ▸ b.isLt)]
    exact congrArg some (Fin.ext number)
  rw [onBoard, named]

theorem onBoard_range {board : Byte} (out : 4 ≤ board.toNat) (body : BoardNo → Part → Part × Answer) (p : Part) :
    onBoard board body p = (p, refusal .range) := by
  rw [onBoard, boardOperand, dif_neg (Nat.not_lt.mpr out)]

theorem boardRecover_refused {b : BoardNo} {p : Part} (healthy : ∀ k, p.bus.boards[b.val] ≠ .faulted k) :
    boardRecover b p = (p, refusal .state) :=
  if_neg (by rw [(BoardState.isFaulted_eq_false_iff _).mpr healthy]; nofun)

theorem boardRecover_faulted {b : BoardNo} {p : Part} (faulted : ∃ k, p.bus.boards[b.val] = .faulted k) :
    boardRecover b p = (recoverBoard b p, answerOk []) := by
  obtain ⟨k, state⟩ := faulted
  exact if_pos (by rw [state]; rfl)

/-- The part with a board UNKNOWN and its lanes released. -/
def releaseLanes (b : BoardNo) (p : Part) : Part := (p.setBoard b .unknown).modifyBoardLanes b Lane.boardRelease

/-- The board released and recomputed, its lanes sent anew, before the arbiter test. -/
def releasedBoard (b : BoardNo) (p : Part) : Part :=
  (recompute (releaseLanes b p)).modifyBoardDrives b fun _ => Drive.fresh

theorem recoverBoard_eq (b : BoardNo) (p : Part) : recoverBoard b p = arbiterTest (releasedBoard b p) := rfl

theorem Lane.boardRelease_eq (l : Lane) : l.boardRelease = if l.service = .faulted .board then l.returnToService else l := by
  unfold Lane.boardRelease
  split
  · rename_i faulted
    rw [if_pos faulted]
  · rename_i other
    rw [if_neg other]

theorem releaseLanes_lane (b : BoardNo) (p : Part) (n : LaneNo) : (releaseLanes b p).lane n =
    if n.val / 8 = b.val ∧ (p.lane n).service = .faulted .board then (p.lane n).returnToService else p.lane n := by
  rw [releaseLanes, Part.lane_modifyBoardLanes]
  change (if boardOf n = b then (p.lane n).boardRelease else p.lane n) = _
  simp only [boardOf_eq_iff, Lane.boardRelease_eq]
  by_cases board : n.val / 8 = b.val <;> by_cases faulted : (p.lane n).service = .faulted .board <;> simp [board, faulted]

section
variable (p : Part) (b : BoardNo) (f : Drive → Drive)

theorem Part.drive_modifyBoardDrives (n : LaneNo) :
    (p.modifyBoardDrives b f).drive n = if n.val / 8 = b.val then f (p.drive n) else p.drive n := by
  simp only [Part.modifyBoardDrives, Part.drive, Part.setBus_bus, Vector.getElem_ofFn, boardOf_eq_iff]

theorem Part.modifyBoardDrives_same : ∃ drives, p.modifyBoardDrives b f = { p with bus := { p.bus with drives := drives } } := by
  unfold Part.modifyBoardDrives
  exact ⟨_, rfl⟩

end

theorem Part.lane_modifyBoardDrives (p : Part) (b : BoardNo) (f : Drive → Drive) (n : LaneNo) :
    (p.modifyBoardDrives b f).lane n = p.lane n := by
  obtain ⟨_, sent⟩ := p.modifyBoardDrives_same b f
  rw [sent]
  rfl

/-- The wanted pressures do not look at the drive records (R140 to R145). -/
theorem wantedIsDecided_of_drives {p : Part} (decided : wantedIsDecided p) (drives : Vector Drive 32) :
    wantedIsDecided { p with bus := { p.bus with drives := drives } } := decided

theorem recompute_same (p : Part) : ∃ wanted drives, recompute p =
    { p with pressure := { p.pressure with wanted := wanted }, bus := { p.bus with drives := drives } } := by
  unfold recompute
  exact ⟨_, _, rfl⟩

theorem Part.modifyBoardLanes_same (p : Part) (b : BoardNo) (f : Lane → Lane) : ∃ lanes, p.modifyBoardLanes b f =
    { p with lanes := lanes } := by
  unfold Part.modifyBoardLanes
  exact ⟨_, rfl⟩

theorem releasedBoard_lane (b : BoardNo) (p : Part) (n : LaneNo) : (releasedBoard b p).lane n =
    if n.val / 8 = b.val ∧ (p.lane n).service = .faulted .board then (p.lane n).returnToService else p.lane n := by
  rw [releasedBoard, Part.lane_modifyBoardDrives, recompute_lane, releaseLanes_lane]

theorem releasedBoard_drive {b : BoardNo} {n : LaneNo} (board : n.val / 8 = b.val) (p : Part) :
    (releasedBoard b p).drive n = Drive.fresh := by
  rw [releasedBoard, Part.drive_modifyBoardDrives, if_pos board]

theorem releasedBoard_decided (b : BoardNo) (p : Part) (n : LaneNo) :
    (releasedBoard b p).wanted n = (releasedBoard b p).pressureFor (releasedBoard b p).contactSpan n := by
  have decided := recompute_decides (releaseLanes b p)
  obtain ⟨drives, sent⟩ := (recompute (releaseLanes b p)).modifyBoardDrives_same b fun _ => Drive.fresh
  rw [releasedBoard, sent]
  exact Part.wanted_of_decided (wantedIsDecided_of_drives decided drives) n

theorem releasedBoard_same (b : BoardNo) (p : Part) : ∃ lanes wanted drives, releasedBoard b p = { p with
    lanes := lanes
    pressure := { p.pressure with wanted := wanted }
    bus := { p.bus with boards := p.bus.boards.set b.val .unknown, drives := drives } } := by
  obtain ⟨_, sent⟩ := (recompute (releaseLanes b p)).modifyBoardDrives_same b fun _ => Drive.fresh
  obtain ⟨_, _, decided⟩ := recompute_same (releaseLanes b p)
  obtain ⟨_, released⟩ := (p.setBoard b .unknown).modifyBoardLanes_same b Lane.boardRelease
  rw [releasedBoard, sent, decided, releaseLanes, released]
  exact ⟨_, _, _, rfl⟩

/-- With the lanes of the board in service again, the board has work. -/
theorem releasedBoard_hasWork {b : BoardNo} {p : Part}
    (lanes : ∀ n : LaneNo, n.val / 8 = b.val → (p.lane n).service = .faulted .board) :
    (releasedBoard b p).hasWork b = true := by
  have board : (laneOfBoard b 0).val / 8 = b.val := (mem_lanesOfBoard b _).mp (List.mem_map.mpr ⟨0, List.mem_finRange 0, rfl⟩)
  have lane := releasedBoard_lane b p (laneOfBoard b 0)
  rw [if_pos ⟨board, lanes _ board⟩] at lane
  refine ((releasedBoard b p).hasWork_iff b).mpr ⟨fun k => ?_, laneOfBoard b 0, board, ?_, ?_, ?_⟩
  · obtain ⟨_, _, _, same⟩ := releasedBoard_same b p
    rw [same]
    change (p.bus.boards.set b.val .unknown)[b.val] ≠ _
    rw [Vector.getElem_set_self]
    nofun
  · rw [releasedBoard_drive board]
    rfl
  · rw [lane]
    nofun
  · rw [lane]
    nofun

theorem mem_roundRobin (pointer b : BoardNo) : b ∈ roundRobin pointer := by
  revert pointer b
  decide

theorem arbiterTest_selects_some {p : Part} {b : BoardNo} (idle : p.bus.master = .idle) (work : p.hasWork b = true) :
    ∃ c, (arbiterTest p).bus.master = .selecting c := by
  have found : ((roundRobin p.bus.pointer).find? p.hasWork).isSome = true :=
    List.find?_isSome.mpr ⟨b, mem_roundRobin _ b, work⟩
  obtain ⟨c, first⟩ := Option.isSome_iff_exists.mp found
  exact ⟨c, by rw [arbiterTest_selects idle first]; rfl⟩

end Sys2Proof.Machine
end

section
/-! PROOFS. A board selected, faulted and recovered, at the machine (R159, R165, R166). -/

namespace Sys2Proof.Machine

theorem claimBoard_same (b : BoardNo) (kind : BoardFaultKind) (p : Part) : ∃ lanes, claimBoard b kind p =
    { p with lanes := lanes, bus := { p.bus with boards := p.bus.boards.set b.val (.faulted kind) } } := by
  obtain ⟨_, claimed⟩ := (p.setBoard b (.faulted kind)).modifyBoardLanes_same b Lane.boardClaim
  rw [claimBoard, claimed]
  exact ⟨_, rfl⟩

/-- A board fault made once the session is aborted: what the whole step leaves (R165). -/
theorem exec_faultBoard {c : Instr} {s : State} {b : BoardNo} {kind : BoardFaultKind} {p : Part}
    (faults : effect c s.toPart = faultBoard b kind p) (lanes : p.lanes = s.lanes) :
    exec c s = .next (s.withPart (faultBoard b kind p)) ∧
      SameUnderFault (claimBoard b kind p) (s.withPart (faultBoard b kind p)).toPart ∧
      (∀ n : LaneNo, n.val / 8 = b.val → ((faultBoard b kind p).lane n).service = .faulted .board ∧
        ((s.lane n).service ≠ .faulted .board → ((faultBoard b kind p).lane n).contact = .empty)) ∧
      ∀ n : LaneNo, n.val / 8 ≠ b.val → ((faultBoard b kind p).lane n).service = (s.lane n).service := by
  have lane : ∀ n, p.lane n = s.lane n := fun n => by rw [Part.lane, Part.lane, lanes]
  refine ⟨exec_of_effect faults, faultBoard_sameUnderFault b kind p, fun n board => ?_, fun n other => ?_⟩
  · rw [← lane]
    exact faultBoard_lane board kind p
  · rw [← lane]
    exact faultBoard_service_other other kind p

theorem arbiterTest_decided {p : Part} (decided : wantedIsDecided p) : wantedIsDecided (arbiterTest p) := by
  rw [arbiterTest_eq]
  exact decided

end Sys2Proof.Machine

open Sys2Proof Sys2Proof.Machine

/-- Settles O51: a selection by the master's state, a board fault by the relation every operation after the claim keeps,
BOARD RECOVER by the board released before the arbiter test. -/
theorem boardsAnswerFaultAndRecover : Obligations.BoardsAnswerFaultAndRecover := by
  refine ⟨fun s other => ⟨fun answer => exec_unchanged (c := .selectAnswer answer) (takeSelectAnswer_elsewhere other answer),
    exec_unchanged (c := .selectTimerExpiry) (expireSelectTimer_elsewhere other)⟩, fun b s selecting => ⟨?_, ?_, fun c kind named => ?_⟩,
    fun b kind p claimed told shape lane isTold => ?_, fun board s accept => ⟨fun out => ?_, fun b number => ⟨fun healthy => ?_,
    fun faulted => ?_⟩⟩⟩
  · exact exec_unchanged (c := .selectAnswer .notReady) (takeSelectAnswer_notReady selecting)
  · exact exec_of_effect (c := .selectAnswer .ready) (takeSelectAnswer_ready selecting)
  · have faults : effect c s.toPart = faultBoard b kind (releaseBus s.toPart) := by
      rcases named with ⟨rfl, rfl⟩ | ⟨rfl, rfl⟩
      · exact takeSelectAnswer_refuse selecting
      · exact expireSelectTimer_selecting selecting
    have released := releaseBus_eq s.toPart
    have attention := faultBoard_attention b kind (releaseBus s.toPart)
    obtain ⟨gives, same, own, others⟩ := exec_faultBoard faults (by rw [released])
    obtain ⟨_, claimed⟩ := claimBoard_same b kind (releaseBus s.toPart)
    rw [claimed] at same
    rw [released] at gives same own others attention
    refine ⟨_, gives, ?_⟩
    generalize faultBoard b kind _ = q at *
    exact ⟨same.base.boards, same.base.master, same.base.selectTimer, same.base.releaseTimer, same.base.pointer,
      own, others, fun n => ⟨(same.drive n).applied, (same.drive n).retry⟩, fun n => (same.drive n).state, attention,
      same.base.slot, same.articles, same.hides, same.base.settings, same.base.routes, same.base.eye, same.gap,
      same.base.position, rfl⟩
  · subst isTold
    rw [eq_claimBoard shape lane, faultBoard_eq]
    rfl
  · exact exec_command (c := .boardRecover board) (a := refusal .range) rfl accept (onBoard_range out _ _)
  · exact exec_command (c := .boardRecover board) (a := refusal .state) rfl accept
      ((onBoard_of_board number _ _).trans (boardRecover_refused healthy))
  · have recovers := exec_command (c := .boardRecover board) (a := answerOk []) rfl accept
      ((onBoard_of_board number boardRecover s.toPart).trans (boardRecover_faulted faulted))
    have decided := releasedBoard_decided b s.toPart
    have lane := releasedBoard_lane b s.toPart
    have drive := fun n board => releasedBoard_drive (n := n) (b := b) board s.toPart
    have work := releasedBoard_hasWork (b := b) (p := s.toPart)
    obtain ⟨_, _, _, same⟩ := releasedBoard_same b s.toPart
    rw [recoverBoard_eq] at recovers
    refine ⟨_, recovers, rfl, ?_⟩
    generalize releasedBoard b s.toPart = q at *
    have busy := arbiterTest_of_busy q
    have idle := fun free work => arbiterTest_selects_some (p := q) (b := b) free work
    have drives : ∀ n, (arbiterTest q).drive n = q.drive n := fun n => by rw [Part.drive, Part.drive, arbiterTest_bus_drives]
    have lanes : ∀ n, (arbiterTest q).lane n = q.lane n := fun n => by rw [Part.lane, Part.lane, arbiterTest_lanes]
    have wanted : ∀ n, (arbiterTest q).wanted n = q.wanted n := fun n => by rw [Part.wanted, Part.wanted, arbiterTest_pressure]
    have pressure := Part.pressureFor_congr (p := q) (q := arbiterTest q) (arbiterTest_lanes q) (arbiterTest_hides q)
      (arbiterTest_settings q) (congrArg (·.stopLevel) (arbiterTest_pressure q))
    have boards := arbiterTest_bus_boards q
    have tuning := arbiterTest_tuning q
    have feed := arbiterTest_feed q
    have hides := arbiterTest_hides q
    have articles := arbiterTest_articles q
    have gap := arbiterTest_gap q
    have settings := arbiterTest_settings q
    have routes := arbiterTest_routes q
    have port := arbiterTest_port q
    generalize arbiterTest q = r at *
    refine ⟨?_, fun n board => ⟨?_, fun faulted => ?_⟩, fun n no => ?_, fun n => ?_, fun other => ?_, fun free claimed => ?_, ?_,
      ?_, ?_, ?_, ?_, ?_, ?_, ?_⟩
    · exact boards.trans (by rw [same])
    · exact (drives n).trans (drive n board)
    · exact (lanes n).trans ((lane n).trans (if_pos ⟨board, faulted⟩))
    · exact (lanes n).trans ((lane n).trans (if_neg fun both => no.elim (fun other => other both.1) fun other => other both.2))
    · exact (wanted n).trans ((decided n).trans (pressure n).symm)
    · exact (congrArg (·.bus.master) (busy (by rw [same]; exact other))).trans (by rw [same])
    · exact idle (by rw [same]; exact free) (work claimed)
    · exact congrArg (·.attention) (port.trans (by rw [same]))
    · exact tuning.trans (by rw [same])
    · exact feed.trans (by rw [same])
    · exact hides.trans (by rw [same])
    · exact articles.trans (by rw [same])
    · exact gap.trans (by rw [same])
    · exact settings.trans (by rw [same])
    · exact routes.trans (by rw [same])
end

section
/-! PROOFS. The slots of a session (R160, R164): frames issued, draining and the end of the session. -/

namespace Sys2Proof.Machine

/-! ## Outside a session -/

section
variable {p : Part} (outside : ∀ b, p.bus.master ≠ .opened b ∧ p.bus.master ≠ .draining b)
include outside

theorem takeSlot_outside (received : Option Echo) : takeSlot received p = p := by
  unfold takeSlot
  split
  · rename_i opened
    exact absurd opened (outside _).1
  · rename_i draining
    exact absurd draining (outside _).2
  · rfl

theorem takeEchoArrival_outside (e : Echo) : takeEchoArrival e p = p := by
  unfold takeEchoArrival
  split
  · rename_i opened
    exact absurd opened (outside _).1
  · rename_i draining
    exact absurd draining (outside _).2
  · rfl

end

/-! ## Inside a session -/

theorem takeSlot_inside {p : Part} {b : BoardNo} (inside : p.bus.master = .opened b ∨ p.bus.master = .draining b)
    (received : Option Echo) : takeSlot received p = sessionSlot b received p := by
  unfold takeSlot
  rcases inside with opened | draining
  · rw [opened]
  · rw [draining]

theorem sessionSlot_nothing_due {p : Part} (none : p.bus.dueNext = none) (b : BoardNo) (received : Option Echo) :
    sessionSlot b received p = frameDue b p := by
  unfold sessionSlot
  rw [none]

theorem frameDue_opened {p : Part} {b : BoardNo} (opened : p.bus.master = .opened b) : frameDue b p = issueFrame b p := by
  unfold frameDue
  rw [opened]

theorem frameDue_draining {p : Part} {b : BoardNo} (draining : p.bus.master = .draining b) : frameDue b p = issueIdle p := by
  unfold frameDue
  rw [draining]

/-! ## Draining -/

theorem drainTest_ends {p : Part} {b : BoardNo} (draining : p.bus.master = .draining b) (next : p.bus.dueNext = none)
    (after : p.bus.dueAfter = none) : drainTest p = releaseBus p := by
  unfold drainTest
  rw [draining]
  exact if_pos (by rw [Bus.nothingDue, next, after]; rfl)

theorem drainTest_goes_on {p : Part} (due : p.bus.dueNext ≠ none ∨ p.bus.dueAfter ≠ none) : drainTest p = p := by
  unfold drainTest
  split
  · refine if_neg fun nothing => ?_
    rw [Bus.nothingDue, Bool.and_eq_true, Option.isNone_iff_eq_none, Option.isNone_iff_eq_none] at nothing
    exact due.elim (fun next => next nothing.1) fun after => after nothing.2
  · rfl

theorem drainTest_elsewhere {p : Part} (other : ∀ b, p.bus.master ≠ .draining b) : drainTest p = p := by
  unfold drainTest
  split
  · rename_i draining
    exact absurd draining (other _)
  · rfl

/-- A slot of a session that drains, or that a board without work makes drain (R160, R164). -/
theorem drainTest_idle_slot (p : Part) (b : BoardNo) :
    drainTest (p.setBus { p.bus.issue none with master := .draining b }) = { p with
      bus := if p.bus.dueAfter = none then { p.bus with
        master := .releasing
        releaseTimer := some p.settings.releaseInterval
        selectTimer := none
        resetDrain := false
        dueNext := none
        dueAfter := none }
      else { p.bus with dueNext := p.bus.dueAfter, dueAfter := none, master := .draining b } } := by
  by_cases nothing : p.bus.dueAfter = none
  · rw [if_pos nothing, drainTest_ends (b := b) rfl nothing rfl, releaseBus_eq]
    rfl
  · rw [if_neg nothing, drainTest_goes_on (.inl nothing)]
    rfl

theorem issueIdle_draining {p : Part} {b : BoardNo} (draining : p.bus.master = .draining b) :
    issueIdle p = drainTest (p.setBus { p.bus.issue none with master := .draining b }) := by
  unfold issueIdle
  rw [← draining]
  rfl

/-! ## Frames -/

theorem eq_evenLane {b : BoardNo} {k : Fin 4} {n : LaneNo} (even : n.val = 8 * b.val + 2 * k.val) : evenLane b k = n :=
  Fin.ext even.symm

theorem eq_oddLane {b : BoardNo} {k : Fin 4} {n : LaneNo} (odd : n.val = 8 * b.val + 2 * k.val + 1) : oddLane b k = n :=
  Fin.ext odd.symm

theorem launch_same (n : LaneNo) (carried : Option Nat) (p : Part) : ∃ drives, launch n carried p =
    { p with bus := { p.bus with drives := drives } } := by
  unfold launch
  cases carried <;> exact ⟨_, rfl⟩

theorem launch_drive (m : LaneNo) (q p : Part) (n : LaneNo) : (launch m (q.carried m) p).drive n =
    if n = m ∧ q.waitingDriven m = true then { p.drive n with state := .inFlight (q.wanted n) } else p.drive n := by
  by_cases waits : q.waitingDriven m = true
  · have carried : q.carried m = some (q.wanted m) := if_pos waits
    rw [carried, launch, Part.drive_setDrive]
    by_cases same : n = m
    · subst same
      rw [if_pos rfl, if_pos ⟨rfl, waits⟩]
    · rw [if_neg (Ne.symm same), if_neg fun both => same both.1]
  · have carried : q.carried m = none := if_neg waits
    rw [carried, launch, if_neg fun both => waits both.2]

theorem issueFrame_none {p : Part} {b : BoardNo} (none : p.nextPair? b = none) :
    issueFrame b p = drainTest (p.setBus { p.bus.issue .none with master := .draining b }) := by
  unfold issueFrame
  rw [none]

/-- The part once the frame of a pair is launched. -/
def launchPair (p : Part) (b : BoardNo) (k : Fin 4) : Part :=
  launch (oddLane b k) (p.carried (oddLane b k)) (launch (evenLane b k) (p.carried (evenLane b k)) p)

theorem launchPair_same (p : Part) (b : BoardNo) (k : Fin 4) : ∃ drives, launchPair p b k =
    { p with bus := { p.bus with drives := drives } } := by
  obtain ⟨_, even⟩ := launch_same (evenLane b k) (p.carried (evenLane b k)) p
  obtain ⟨_, odd⟩ := launch_same (oddLane b k) (p.carried (oddLane b k))
    (launch (evenLane b k) (p.carried (evenLane b k)) p)
  rw [launchPair, odd, even]
  exact ⟨_, rfl⟩

theorem issueFrame_some {p : Part} {b : BoardNo} {k : Fin 4} (first : p.nextPair? b = some k) :
    issueFrame b p = { p with bus := { p.bus with
      drives := (launchPair p b k).bus.drives
      dueNext := p.bus.dueAfter
      dueAfter := some ⟨k, p.carried (evenLane b k), p.carried (oddLane b k)⟩
      frameCount := p.bus.frameCount + 1
      cursor := k + 1
      master := if p.bus.sessionLimit ≤ p.bus.frameCount + 1 then .draining b else .opened b } } := by
  have issued : issueFrame b p = (launchPair p b k).setBus { (launchPair p b k).bus.issue (some (p.frameOf b k)) with
      frameCount := (launchPair p b k).bus.frameCount + 1
      cursor := k + 1
      master := if (launchPair p b k).bus.sessionLimit ≤ (launchPair p b k).bus.frameCount + 1 then .draining b
        else .opened b } := by
    unfold issueFrame
    rw [first]
    rfl
  obtain ⟨_, same⟩ := launchPair_same p b k
  rw [issued, same]
  rfl

theorem launchPair_drive {p : Part} {b : BoardNo} {k : Fin 4} (n : LaneNo) : (launchPair p b k).drive n =
    if (n = evenLane b k ∨ n = oddLane b k) ∧ p.waitingDriven n = true then
      { p.drive n with state := .inFlight (p.wanted n) } else p.drive n := by
  rw [launchPair, launch_drive, launch_drive]
  have differ : evenLane b k ≠ oddLane b k := fun same => by
    have value := Fin.val_eq_of_eq same
    change 8 * b.val + 2 * k.val = 8 * b.val + 2 * k.val + 1 at value
    omega
  by_cases odd : n = oddLane b k
  · subst odd
    simp [differ.symm]
  · by_cases even : n = evenLane b k
    · subst even
      simp [differ]
    · simp [odd, even]

end Sys2Proof.Machine

open Sys2Proof Sys2Proof.Machine

/-- Settles O52: a slot with no echo due issues the frame of the first pair with work, or drains. -/
theorem slotsIssueFrames : Obligations.SlotsIssueFrames := by
  intro s
  refine ⟨fun outside => ⟨fun received => exec_unchanged (c := .busSlot received) (takeSlot_outside outside received),
    fun e => exec_unchanged (c := .echoArrival e) (takeEchoArrival_outside outside e)⟩,
    fun b received work even odd none isWork lanes => ?_⟩
  have isWaiting : work = s.toPart.waitingDriven :=
    funext fun n => Bool.eq_iff_iff.mpr ((isWork n).trans (s.toPart.waitingDriven_iff n).symm)
  have isEven : even = evenLane b := funext fun k => (eq_evenLane (lanes k).1).symm
  have isOdd : odd = oddLane b := funext fun k => (eq_oddLane (lanes k).2).symm
  subst isWaiting isEven isOdd
  have slot := fun inside => (takeSlot_inside (p := s.toPart) (b := b) inside received).trans
    (sessionSlot_nothing_due none b received)
  refine ⟨fun k opened first => ?_, fun ends => ?_⟩
  · have issues := (slot (.inl opened)).trans ((frameDue_opened opened).trans (issueFrame_some (k := k) first))
    exact ⟨_, exec_of_effect (c := .busSlot received) issues, rfl, fun n => launchPair_drive n⟩
  · refine exec_of_effect (c := .busSlot received) ?_
    rw [← drainTest_idle_slot s.toPart b]
    rcases ends with ⟨opened, noWork⟩ | draining
    · have nobody : s.toPart.nextPair? b = .none :=
        List.find?_eq_none.mpr fun k _ => by
          rw [Part.pairHasWork, (noWork k).1, (noWork k).2]
          nofun
      exact (slot (.inl opened)).trans ((frameDue_opened opened).trans (issueFrame_none nobody))
    · exact (slot (.inr draining)).trans ((frameDue_draining draining).trans (issueIdle_draining draining))
end

section
/-! PROOFS. The echoes of a session (R161 to R163, R170). -/

namespace Sys2Proof.Machine

/-! ## A lane is judged -/

section
variable {n : LaneNo} {echoed : Nat} {p : Part}

theorem judgeLane_idle (idle : ∀ v, (p.drive n).state ≠ .inFlight v) : judgeLane n echoed p = p := by
  unfold judgeLane
  split
  · rename_i flight
    exact absurd flight (idle _)
  · rfl

variable {v : Nat} (flight : (p.drive n).state = .inFlight v)
include flight

theorem judgeLane_flight : judgeLane n echoed p =
    if echoed = v then p.setDrive n ⟨if p.wanted n = v then .settled else .waiting, some v, 0⟩
    else if (p.drive n).retry = 0 then p.setDrive n ⟨.waiting, none, 1⟩
    else driveClaim n (p.setDrive n ⟨.waiting, none, 0⟩) := by
  unfold judgeLane
  rw [flight]

theorem judgeLane_match (echoes : echoed = v) : judgeLane n echoed p =
    p.setDrive n ⟨if p.wanted n = v then .settled else .waiting, some v, 0⟩ :=
  (judgeLane_flight flight).trans (if_pos echoes)

theorem judgeLane_first (differs : echoed ≠ v) (first : (p.drive n).retry = 0) :
    judgeLane n echoed p = p.setDrive n ⟨.waiting, none, 1⟩ := by
  rw [judgeLane_flight flight, if_neg differs, if_pos first]

theorem judgeLane_second (differs : echoed ≠ v) (second : (p.drive n).retry ≠ 0) :
    judgeLane n echoed p = driveClaim n (p.setDrive n ⟨.waiting, none, 0⟩) := by
  rw [judgeLane_flight flight, if_neg differs, if_neg second]

end

theorem driveClaim_faults {n : LaneNo} {p : Part} (noDrive : (p.lane n).service ≠ .faulted .drive)
    (noBoard : (p.lane n).service ≠ .faulted .board) : driveClaim n p = faultLane n .drive p := by
  unfold driveClaim
  split
  · rfl
  · rfl
  · rfl
  · rename_i faulted
    exact absurd faulted noDrive
  · rename_i faulted
    exact absurd faulted noBoard

theorem driveClaim_same {n : LaneNo} {p : Part} (faulted : (p.lane n).service = .faulted .drive ∨
    (p.lane n).service = .faulted .board) : driveClaim n p = p := by
  unfold driveClaim
  rcases faulted with drive | board
  · rw [drive]
  · rw [board]

theorem judgeHalf_eq (carried : Option Nat) (n : LaneNo) (echoed : Half) (p : Part) :
    judgeHalf carried n echoed p = (if carried.isSome = true then judgeLane n echoed.toNat else id) p := by
  cases carried <;> rfl

theorem echoAnswers_iff (e : Echo) (b : BoardNo) (f : BusFrame) :
    echoAnswers e b f = true ↔ e.pair.val = 4 * b.val + f.pair.val := by
  rw [echoAnswers, beq_iff_eq, Fin.ext_iff]
  rfl

/-! ## The reset drain -/

/-- A drive record whose echo is taken under the reset drain mark (R170). -/
def Drive.drained (d : Drive) (carried : Option Nat) (echoed : Option Half) : Drive :=
  match carried with
  | none => d
  | some v => ⟨.waiting, if echoed.map (·.toNat) = some v then some v else none, 0⟩

theorem drainHalf_same (carried : Option Nat) (n : LaneNo) (echoed : Option Half) (p : Part) : ∃ drives,
    drainHalf carried n echoed p = { p with bus := { p.bus with drives := drives } } := by
  unfold drainHalf
  cases carried <;> exact ⟨_, rfl⟩

theorem drainHalf_drive (carried : Option Nat) (m : LaneNo) (echoed : Option Half) (p : Part) (n : LaneNo) :
    (drainHalf carried m echoed p).drive n = if n = m then (p.drive n).drained carried echoed else p.drive n := by
  cases carried with
  | none => exact (ite_self _).symm
  | some v =>
    refine (p.drive_setDrive m n _).trans ?_
    by_cases same : n = m
    · rw [if_pos same, if_pos same.symm]
      rfl
    · rw [if_neg same, if_neg (Ne.symm same)]

theorem drainEcho_same (b : BoardNo) (f : BusFrame) (received : Option Echo) (p : Part) : ∃ drives,
    drainEcho b f received p = { p with bus := { p.bus with drives := drives } } := by
  obtain ⟨_, even⟩ := drainHalf_same f.even (evenLane b f.pair) ((received.filter fun e => echoAnswers e b f).map (·.even)) p
  obtain ⟨_, odd⟩ := drainHalf_same f.odd (oddLane b f.pair) ((received.filter fun e => echoAnswers e b f).map (·.odd))
    (drainHalf f.even (evenLane b f.pair) ((received.filter fun e => echoAnswers e b f).map (·.even)) p)
  rw [drainEcho, odd, even]
  exact ⟨_, rfl⟩

theorem evenLane_ne_oddLane (b : BoardNo) (k : Fin 4) : evenLane b k ≠ oddLane b k := fun same => by
  have value := Fin.val_eq_of_eq same
  change 8 * b.val + 2 * k.val = 8 * b.val + 2 * k.val + 1 at value
  omega

theorem drainEcho_drive (b : BoardNo) (f : BusFrame) (received : Option Echo) (p : Part) (n : LaneNo) :
    (drainEcho b f received p).drive n =
      if n = evenLane b f.pair then (p.drive n).drained f.even ((received.filter fun e => echoAnswers e b f).map (·.even))
      else if n = oddLane b f.pair then (p.drive n).drained f.odd ((received.filter fun e => echoAnswers e b f).map (·.odd))
      else p.drive n := by
  have differ := evenLane_ne_oddLane b f.pair
  rw [drainEcho, drainHalf_drive, drainHalf_drive]
  by_cases even : n = evenLane b f.pair
  · subst even
    rw [if_neg differ, if_pos rfl, if_pos rfl]
  · rw [if_neg even, if_neg even]

/-! ## The session after an echo -/

section
variable {p q : Part} {b : BoardNo} (same : SameBase p q)
include same

/-- The session after the echo due is taken, where it arrives ahead of the slot (R161, R164). -/
theorem drainTest_after_echo (inside : p.bus.master = .opened b ∨ p.bus.master = .draining b) :
    drainTest (q.setBus { q.bus with dueNext := none }) = { q with
      bus := if p.bus.master = .draining b ∧ p.bus.dueAfter = none then { q.bus with
        master := .releasing
        releaseTimer := some p.settings.releaseInterval
        selectTimer := none
        resetDrain := false
        dueNext := none
        dueAfter := none }
      else { q.bus with dueNext := none } } := by
  by_cases ends : p.bus.master = .draining b ∧ p.bus.dueAfter = none
  · rw [if_pos ends, drainTest_ends (p := q.setBus { q.bus with dueNext := none }) (b := b) (same.master.trans ends.1) rfl
      (same.dueAfter.trans ends.2), releaseBus_eq, ← same.settings]
    rfl
  · rw [if_neg ends]
    rcases inside with opened | draining
    · refine drainTest_elsewhere fun c drains => ?_
      cases (same.master.trans opened).symm.trans drains
    · refine drainTest_goes_on (.inr fun none => ends ⟨draining, ?_⟩)
      exact same.dueAfter.symm.trans none

end

section
variable {p : Part} {b : BoardNo} {f : BusFrame} (due : p.bus.dueNext = some f)
include due

theorem sessionEcho_other {e : Echo} (other : echoAnswers e b f = false) : sessionEcho b e p = p := by
  unfold sessionEcho
  rw [due]
  exact if_neg (by rw [other]; nofun)

theorem sessionEcho_taken {e : Echo} (answers : echoAnswers e b f = true) : sessionEcho b e p =
    drainTest ((if p.bus.resetDrain then drainEcho b f (some e) p else takeEcho b f e p).setBus
      { (if p.bus.resetDrain then drainEcho b f (some e) p else takeEcho b f e p).bus with dueNext := none }) := by
  unfold sessionEcho
  rw [due]
  exact if_pos answers

theorem sessionSlot_valid {e : Echo} (answers : echoAnswers e b f = true) (unmarked : p.bus.resetDrain = false) :
    sessionSlot b (some e) p = frameDue b (takeEcho b f e p) := by
  have valid : (some e).filter (fun e => echoAnswers e b f) = some e := by rw [Option.filter_some, if_pos answers]
  unfold sessionSlot
  rw [due]
  dsimp only
  rw [unmarked, valid]
  rfl

theorem sessionSlot_silent {received : Option Echo} (invalid : ∀ e, received = some e → echoAnswers e b f = false)
    (unmarked : p.bus.resetDrain = false) : sessionSlot b received p = silenceBoard b p := by
  have none : received.filter (fun e => echoAnswers e b f) = none := by
    rw [Option.filter_eq_none_iff]
    exact fun e given => by rw [invalid e given]; nofun
  unfold sessionSlot
  rw [due]
  dsimp only
  rw [unmarked, none]
  rfl

theorem sessionSlot_drained (received : Option Echo) (marked : p.bus.resetDrain = true) :
    sessionSlot b received p = issueIdle (drainEcho b f received p) := by
  unfold sessionSlot
  rw [due]
  exact if_pos marked

end

/-- An idle slot changes the master's own records alone (R164). -/
theorem issueIdle_same (p : Part) : ∃ u, issueIdle p = { p with bus := u } ∧ u.boards = p.bus.boards ∧
    u.drives = p.bus.drives := by
  unfold issueIdle drainTest
  split
  · split
    · rw [releaseBus_eq]
      exact ⟨_, rfl, rfl, rfl⟩
    · exact ⟨_, rfl, rfl, rfl⟩
  · exact ⟨_, rfl, rfl, rfl⟩

/-! ## The frame part does not look at the echo due -/

/-- The part with no echo due in the slot under way. -/
def withoutDue (p : Part) : Part := { p with bus := { p.bus with dueNext := none } }

theorem launchPair_withoutDue (p : Part) (b : BoardNo) (k : Fin 4) :
    (launchPair (withoutDue p) b k).bus.drives = (launchPair p b k).bus.drives :=
  Vector.ext fun i bound => (launchPair_drive (p := withoutDue p) (b := b) (k := k) ⟨i, bound⟩).trans
    (launchPair_drive (p := p) (b := b) (k := k) ⟨i, bound⟩).symm

theorem frameDue_withoutDue (b : BoardNo) (p : Part) : frameDue b (withoutDue p) = frameDue b p := by
  have opened : issueFrame b (withoutDue p) = issueFrame b p := by
    cases first : p.nextPair? b with
    | none =>
      have same : (withoutDue p).nextPair? b = none := first
      rw [issueFrame_none first, issueFrame_none same]
      rfl
    | some k =>
      have same : (withoutDue p).nextPair? b = some k := first
      rw [issueFrame_some first, issueFrame_some same, launchPair_withoutDue]
      rfl
  have master : (withoutDue p).bus.master = p.bus.master := rfl
  unfold frameDue
  rw [master]
  split
  · exact opened
  · rfl

end Sys2Proof.Machine
end

section
/-! PROOFS. Echoes at the machine (R161 to R163, R170). -/

namespace Sys2Proof.Machine

theorem takeEchoArrival_inside {p : Part} {b : BoardNo} (inside : p.bus.master = .opened b ∨ p.bus.master = .draining b)
    (e : Echo) : takeEchoArrival e p = sessionEcho b e p := by
  unfold takeEchoArrival
  rcases inside with opened | draining
  · rw [opened]
  · rw [draining]

theorem sessionEcho_nothing_due {p : Part} (none : p.bus.dueNext = none) (b : BoardNo) (e : Echo) : sessionEcho b e p = p := by
  unfold sessionEcho
  rw [none]

theorem takeEcho_eq (b : BoardNo) (f : BusFrame) (e : Echo) (p : Part) : takeEcho b f e p =
    (if f.odd.isSome = true then judgeLane (oddLane b f.pair) e.odd.toNat else id)
      ((if f.even.isSome = true then judgeLane (evenLane b f.pair) e.even.toNat else id) p) := by
  rw [takeEcho, judgeHalf_eq, judgeHalf_eq]

theorem Part.eq_of_drives {p q : Part} {drives : Vector Drive 32}
    (shape : p = { q with bus := { q.bus with drives := p.bus.drives } }) (get : ∀ n : LaneNo, p.drive n = drives[n.val]) :
    p = { q with bus := { q.bus with drives := drives } } := by
  have same : p.bus.drives = drives := Vector.ext fun i bound => get ⟨i, bound⟩
  rw [← same]
  exact shape

/-- The part after an echo under the reset drain mark is known by its drive records. -/
theorem drainEcho_eq {b : BoardNo} {f : BusFrame} {received : Option Echo} {p q : Part}
    (shape : q = { p with bus := { p.bus with drives := q.bus.drives } })
    (get : ∀ n, q.drive n = (drainEcho b f received p).drive n) : drainEcho b f received p = q := by
  obtain ⟨drives, same⟩ := drainEcho_same b f received p
  rw [Part.eq_of_drives (drives := drives) shape fun n => (get n).trans (by rw [same]; rfl)]
  exact same

theorem Drive.drained_echo (d : Drive) (carried : Option Nat) (echoed : Half) : d.drained carried (some echoed) =
    match carried with
    | some v => ⟨.waiting, if echoed.toNat = v then some v else none, 0⟩
    | none => d := by
  cases carried with
  | none => rfl
  | some v =>
    rw [Drive.drained, Option.map_some]
    simp only [Option.some.injEq]

/-- A drained record takes the value carried where its half of a valid echo shows it (R170). -/
theorem Drive.drained_value (d : Drive) (v : Nat) (received : Option Echo) (half : Echo → Half) (valid : Echo → Bool) :
    ∃ applied : Option Nat, d.drained (some v) ((received.filter valid).map half) = ⟨.waiting, applied, 0⟩ ∧
      (applied = none ∨ applied = some v) ∧
      (applied = some v ↔ ∃ e : Echo, received = some e ∧ valid e = true ∧ (half e).toNat = v) := by
  refine ⟨_, rfl, ?_, ?_⟩
  · split
    · exact .inr rfl
    · exact .inl rfl
  · cases received with
    | none => simp
    | some e => by_cases answers : valid e = true <;> simp [Option.filter_some, answers]

/-! ## Silence -/

theorem Drive.lose_of_flight {d : Drive} {v : Nat} (flight : d.state = .inFlight v) : d.lose = ⟨.waiting, none, 0⟩ := by
  unfold Drive.lose
  rw [flight]

theorem Drive.lose_of_idle {d : Drive} (idle : ∀ v, d.state ≠ .inFlight v) : d.lose = d := by
  unfold Drive.lose
  split
  · rename_i flight
    exact absurd flight (idle _)
  · rfl

/-- The part whose board has fallen silent, before the board faults (R163). -/
def loseBoard (b : BoardNo) (p : Part) : Part := releaseBus (p.modifyBoardDrives b Drive.lose)

theorem releaseBus_drive (p : Part) (n : LaneNo) : (releaseBus p).drive n = p.drive n := by
  rw [releaseBus_eq]
  rfl

theorem loseBoard_same (b : BoardNo) (p : Part) : ∃ drives, loseBoard b p = { p with bus := { p.bus with
    drives := drives
    master := .releasing
    releaseTimer := some p.settings.releaseInterval
    selectTimer := none
    resetDrain := false
    dueNext := none
    dueAfter := none } } := by
  obtain ⟨_, lost⟩ := p.modifyBoardDrives_same b Drive.lose
  rw [loseBoard, releaseBus_eq, lost]
  exact ⟨_, rfl⟩

theorem loseBoard_drive (b : BoardNo) (p : Part) (n : LaneNo) :
    (loseBoard b p).drive n = if n.val / 8 = b.val then (p.drive n).lose else p.drive n := by
  rw [loseBoard, releaseBus_drive, Part.drive_modifyBoardDrives]

theorem eq_loseBoard {b : BoardNo} {p lost : Part}
    (shape : lost = { p with bus := { p.bus with
      drives := lost.bus.drives
      master := .releasing
      releaseTimer := some p.settings.releaseInterval
      selectTimer := none
      resetDrain := false
      dueNext := none
      dueAfter := none } })
    (drive : ∀ n : LaneNo, lost.drive n = (loseBoard b p).drive n) : lost = loseBoard b p := by
  have drives : lost.bus.drives = (loseBoard b p).bus.drives := Vector.ext fun i bound => drive ⟨i, bound⟩
  obtain ⟨_, same⟩ := loseBoard_same b p
  rw [shape, drives, same]

/-- What a silent board's fault leaves of the session and of its lanes in flight (R163, R165). -/
theorem silenceBoard_leaves (b : BoardNo) (p : Part) :
    (silenceBoard b p).bus.boards = p.bus.boards.set b.val (.faulted .silent) ∧ (silenceBoard b p).bus.master = .releasing ∧
      (silenceBoard b p).bus.releaseTimer = some p.settings.releaseInterval ∧ (silenceBoard b p).bus.dueNext = none ∧
      (silenceBoard b p).bus.dueAfter = none ∧
      ∀ (n : LaneNo) (v : Nat), n.val / 8 = b.val → (p.drive n).state = .inFlight v →
        (silenceBoard b p).drive n = ⟨.waiting, none, 0⟩ := by
  have same : SameUnderFault (claimBoard b .silent (loseBoard b p)) (silenceBoard b p) :=
    faultBoard_sameUnderFault b .silent (loseBoard b p)
  have drive := loseBoard_drive b p
  obtain ⟨_, claimed⟩ := claimBoard_same b .silent (loseBoard b p)
  obtain ⟨_, shape⟩ := loseBoard_same b p
  rw [claimed] at same
  generalize silenceBoard b p = q at *
  refine ⟨same.base.boards.trans (by rw [shape]), same.base.master.trans (by rw [shape]),
    same.base.releaseTimer.trans (by rw [shape]), same.base.dueNext.trans (by rw [shape]),
    same.base.dueAfter.trans (by rw [shape]), fun n v board flight => ?_⟩
  have sent : (loseBoard b p).drive n = ⟨.waiting, none, 0⟩ := by
    rw [drive, if_pos board, Drive.lose_of_flight flight]
  clear shape
  generalize loseBoard b p = lost at *
  exact ((same.drive n).eq_of_waiting (by exact congrArg (·.state) sent)).trans sent

theorem loseBoard_drive_eq (b : BoardNo) (p : Part) (n : LaneNo) : (loseBoard b p).drive n =
    match (p.drive n).state with
    | .inFlight _ => if n.val / 8 = b.val then ⟨.waiting, none, 0⟩ else p.drive n
    | _ => p.drive n := by
  rw [loseBoard_drive]
  cases state : (p.drive n).state with
  | inFlight v => rw [Drive.lose_of_flight state]
  | settled =>
    rw [Drive.lose_of_idle (by rw [state]; nofun)]
    exact ite_self _
  | waiting =>
    rw [Drive.lose_of_idle (by rw [state]; nofun)]
    exact ite_self _

/-! ## A lane claimed by its second mismatch -/

theorem faultLane_claimed (n : LaneNo) (p : Part) :
    ((faultLane n .drive (p.setDrive n ⟨.waiting, none, 0⟩)).lane n).service = .faulted .drive ∧
      (faultLane n .drive (p.setDrive n ⟨.waiting, none, 0⟩)).drive n = ⟨.waiting, none, 0⟩ ∧
      (faultLane n .drive (p.setDrive n ⟨.waiting, none, 0⟩)).port.attention.laneFault = true ∧
      (∀ m : LaneNo, m ≠ n →
        ((faultLane n .drive (p.setDrive n ⟨.waiting, none, 0⟩)).lane m).service = (p.lane m).service) ∧
      (faultLane n .drive (p.setDrive n ⟨.waiting, none, 0⟩)).bus.master = p.bus.master ∧
      (faultLane n .drive (p.setDrive n ⟨.waiting, none, 0⟩)).bus.boards = p.bus.boards := by
  have same := faultLane_sameUnderFault n .drive (p.setDrive n ⟨.waiting, none, 0⟩)
  have own := (faultLane_lane_same n .drive (p.setDrive n ⟨.waiting, none, 0⟩)).1
  have others := fun m => faultLane_lane_other n .drive (p.setDrive n ⟨.waiting, none, 0⟩) (m := m)
  have attention := faultLane_attention n .drive (p.setDrive n ⟨.waiting, none, 0⟩)
  have sent : ((p.setDrive n ⟨.waiting, none, 0⟩).setLane n
      (((p.setDrive n ⟨.waiting, none, 0⟩).lane n).faultWith .drive)).drive n = ⟨.waiting, none, 0⟩ :=
    (p.drive_setDrive n n _).trans (if_pos rfl)
  have drive := (same.drive n).eq_of_waiting (by rw [sent])
  generalize faultLane n .drive (p.setDrive n ⟨.waiting, none, 0⟩) = q at *
  exact ⟨own, drive.trans sent, attention, fun m other => (others m other).1, same.base.master, same.base.boards⟩

end Sys2Proof.Machine

open Sys2Proof Sys2Proof.Machine

/-- Settles O53: an echo by the frame it answers and the reset drain mark, a lane by its drive record. -/
theorem echoesAreJudged : Obligations.EchoesAreJudged := by
  refine ⟨fun s b e inside => ⟨fun none => ?_, fun f due => ⟨fun other => ?_, fun answers unmarked even odd q isEven isOdd isTaken => ?_,
      fun answers marked even odd q isEven isOdd shape drive => ?_⟩⟩,
    fun s b f even odd due inside isEven isOdd => ⟨fun e answers unmarked q isTaken => ?_, fun received unmarked invalid => ?_,
      fun received marked => ?_⟩,
    fun n echoed p => ⟨judgeLane_idle, fun v flight => ⟨judgeLane_match flight, judgeLane_first flight,
      fun differs second serves => ?_, fun differs second => ⟨fun noDrive noBoard => ?_, fun faulted => ?_⟩⟩⟩⟩
  · exact exec_unchanged (c := .echoArrival e) ((takeEchoArrival_inside inside e).trans (sessionEcho_nothing_due none b e))
  · have ignored : echoAnswers e b f = false := Bool.eq_false_iff.mpr fun answers => other ((echoAnswers_iff e b f).mp answers)
    exact exec_unchanged (c := .echoArrival e) ((takeEchoArrival_inside inside e).trans (sessionEcho_other due ignored))
  · have valid := (echoAnswers_iff e b f).mpr answers
    have taken := sessionEcho_taken due valid
    rw [unmarked] at taken
    obtain rfl := eq_evenLane isEven
    obtain rfl := eq_oddLane isOdd
    rw [← takeEcho_eq] at isTaken
    subst isTaken
    exact exec_of_effect (c := .echoArrival e) ((takeEchoArrival_inside inside e).trans (taken.trans
      (drainTest_after_echo (takeEcho_sameBase b f e s.toPart) inside)))
  · have valid := (echoAnswers_iff e b f).mpr answers
    have taken := sessionEcho_taken due valid
    obtain rfl := eq_evenLane isEven
    obtain rfl := eq_oddLane isOdd
    have drained : drainEcho b f (some e) s.toPart = q := drainEcho_eq shape fun n => by
      rw [drive, drainEcho_drive, Option.filter_some, if_pos valid, Option.map_some, Option.map_some, Drive.drained_echo,
        Drive.drained_echo]
      by_cases even : n = evenLane b f.pair
      · simp only [if_pos even] <;> rfl
      · simp only [if_neg even]
        by_cases odd : n = oddLane b f.pair
        · simp only [if_pos odd] <;> rfl
        · simp only [if_neg odd]
    rw [marked, if_pos rfl, drained] at taken
    exact exec_of_effect (c := .echoArrival e) ((takeEchoArrival_inside inside e).trans (taken.trans
      (drainTest_after_echo (drained ▸ drainEcho_sameBase b f (some e) s.toPart) inside)))
  · obtain rfl := eq_evenLane isEven
    obtain rfl := eq_oddLane isOdd
    rw [← takeEcho_eq] at isTaken
    have slot := (takeSlot_inside inside (some e)).trans (sessionSlot_valid due ((echoAnswers_iff e b f).mpr answers) unmarked)
    have master : q.bus.master = s.bus.master := isTaken ▸ (takeEcho_sameBase b f e s.toPart).master
    have later : takeSlot none (withoutDue q) = frameDue b q :=
      (takeSlot_inside (b := b) (by rwa [← master] at inside) none).trans
        ((sessionSlot_nothing_due rfl b none).trans (frameDue_withoutDue b q))
    rw [← isTaken] at slot
    exact (exec_of_effect (c := .busSlot (some e)) slot).trans
      (exec_of_effect (c := .busSlot none) (s := s.withPart (withoutDue q)) later).symm
  · have ignored : ∀ e, received = some e → echoAnswers e b f = false := fun e given =>
      Bool.eq_false_iff.mpr fun answers => invalid e given ((echoAnswers_iff e b f).mp answers)
    have silent := (takeSlot_inside inside received).trans (sessionSlot_silent due ignored unmarked)
    obtain ⟨_, shape⟩ := loseBoard_same b s.toPart
    obtain ⟨gives, _, own, others⟩ := exec_faultBoard (c := .busSlot received) (b := b) (kind := .silent)
      (p := loseBoard b s.toPart) silent (by rw [shape])
    obtain ⟨boards, master, timer, next, after, drive⟩ := silenceBoard_leaves b s.toPart
    refine ⟨_, gives, boards, master, timer, next, after, drive, fun n board => (own n board).1, others, rfl,
      fun lost lostShape lostDrive => ?_⟩
    rw [eq_loseBoard (b := b) (p := s.toPart) lostShape fun n => (lostDrive n).trans (loseBoard_drive_eq b s.toPart n).symm]
  · obtain rfl := eq_evenLane isEven
    obtain rfl := eq_oddLane isOdd
    have differ := evenLane_ne_oddLane b f.pair
    have slot := (takeSlot_inside inside received).trans (sessionSlot_drained due received marked)
    have drive := drainEcho_drive b f received s.toPart
    obtain ⟨u, ends, boards, drives⟩ := issueIdle_same (drainEcho b f received s.toPart)
    obtain ⟨_, drained⟩ := drainEcho_same b f received s.toPart
    have sent : ∀ n : LaneNo, u.drives[n.val] = (drainEcho b f received s.toPart).drive n := fun n => by rw [drives]; rfl
    refine ⟨_, exec_of_effect (c := .busSlot received) (slot.trans ends), by rw [drained]; rfl,
      boards.trans (by rw [drained]), fun n v carries => ?_, fun n noEven noOdd => ?_⟩
    · rcases carries with ⟨rfl, even⟩ | ⟨rfl, odd⟩
      · obtain ⟨applied, record, either, taken⟩ := ((s.drive (evenLane b f.pair)).drained_value v received (·.even)
          fun e => echoAnswers e b f)
        refine ⟨applied, (sent _).trans ?_, either, ?_⟩
        · rw [drive, if_pos rfl, even]
          exact record
        · simp only [taken, echoAnswers_iff, if_true]
      · obtain ⟨applied, record, either, taken⟩ := ((s.drive (oddLane b f.pair)).drained_value v received (·.odd)
          fun e => echoAnswers e b f)
        refine ⟨applied, (sent _).trans ?_, either, ?_⟩
        · rw [drive, if_neg differ.symm, if_pos rfl, odd]
          exact record
        · simp only [taken, echoAnswers_iff, if_neg differ.symm]
    · refine (sent n).trans ?_
      rw [drive]
      by_cases isEven : n = evenLane b f.pair
      · have kept : f.even = none := Option.not_isSome_iff_eq_none.mp fun carried => noEven ⟨isEven, carried⟩
        rw [if_pos isEven, kept]
        rfl
      · rw [if_neg isEven]
        by_cases isOdd : n = oddLane b f.pair
        · have kept : f.odd = none := Option.not_isSome_iff_eq_none.mp fun carried => noOdd ⟨isOdd, carried⟩
          rw [if_pos isOdd, kept]
          rfl
        · exact if_neg isOdd
  · rw [judgeLane_second flight differs (by rw [second]; nofun),
      driveClaim_faults (p := p.setDrive n ⟨.waiting, none, 0⟩) (serves .drive) (serves .board)]
    exact faultLane_claimed n p
  · rw [judgeLane_second flight differs second, driveClaim_faults (p := p.setDrive n ⟨.waiting, none, 0⟩) noDrive noBoard]
  · rw [judgeLane_second flight differs second, driveClaim_same (p := p.setDrive n ⟨.waiting, none, 0⟩) faulted]
end

section
/-! PROOFS. The replies of the reads (12): bytes of numbers, codes and lengths. -/

namespace Sys2Proof.Machine

/-! ## Bytes of a number -/

theorem u16_eq (x : Nat) : u16 x = [BitVec.ofNat 8 (x / 2 ^ 8), BitVec.ofNat 8 x] := by
  simp only [u16, bytes2, List.cons.injEq, and_true]
  constructor <;>
  · apply BitVec.eq_of_toNat_eq
    simp only [BitVec.extractLsb'_toNat, BitVec.toNat_ofNat, Nat.shiftRight_eq_div_pow]
    omega

theorem u32_eq (x : Nat) : u32 x =
    [BitVec.ofNat 8 (x / 2 ^ 24), BitVec.ofNat 8 (x / 2 ^ 16), BitVec.ofNat 8 (x / 2 ^ 8), BitVec.ofNat 8 x] := by
  simp only [u32, bytes4, List.cons.injEq, and_true]
  refine ⟨?_, ?_, ?_, ?_⟩ <;>
  · apply BitVec.eq_of_toNat_eq
    simp only [BitVec.extractLsb'_toNat, BitVec.toNat_ofNat, Nat.shiftRight_eq_div_pow]
    omega

/-! ## Codes of flags and absent values -/

theorem toNat_eq_ite (b : Bool) : b.toNat = if b = true then 1 else 0 := by cases b <;> rfl

theorem gapMethod_code (m : GapMethod) : (match m with
    | .atClear => 0
    | .host => 1) = if m = .atClear then 0 else 1 := by
  cases m <;> rfl

/-! ## A read at the machine -/

section
variable {c : Instr} {header : Byte} {body : Part → Part × Answer} (row : effect c = command header body) {s : State}
  (accept : s.port.acceptIn = none)
include row accept

theorem exec_read {bytes reply : List Byte} {k : Nat} (gives : body s.toPart = (s.toPart, answerOk bytes))
    (layout : bytes = reply) (length : bytes.length = k) :
    ∃ r : List Byte, r.length = k ∧ r = reply ∧ exec c s = .next (s.answers header .ok r s.toPart) :=
  ⟨bytes, length, layout, exec_command (a := answerOk bytes) row accept gives⟩

theorem exec_read_range (gives : body s.toPart = (s.toPart, refusal .range)) : exec c s = .next (s.refuses header .range) :=
  exec_command (a := refusal .range) row accept gives

end

theorem lineRead_of_line {x : Byte} {i : Fin 4} (number : x.toNat = i.val) (p : Part) :
    lineRead x p = (p, answerOk (p.lineBytes i)) := by
  rw [lineRead, (fourOperand_eq_some_iff x i).mpr number]

theorem lineRead_range {x : Byte} (out : 4 ≤ x.toNat) (p : Part) : lineRead x p = (p, refusal .range) := by
  rw [lineRead, fourOperand_eq_none out]

theorem tallyRead_of_tally {x : Byte} {i : Fin 4} (number : x.toNat = i.val) (p : Part) :
    tallyRead x p = (p, answerOk (p.tallyBytes i)) := by
  rw [tallyRead, (fourOperand_eq_some_iff x i).mpr number]

theorem tallyRead_range {x : Byte} (out : 4 ≤ x.toNat) (p : Part) : tallyRead x p = (p, refusal .range) := by
  rw [tallyRead, fourOperand_eq_none out]

theorem routeRead_of_index {x : Byte} {i : Fin 16} (number : x.toNat = i.val) (p : Part) :
    routeRead x p = (p, answerOk (p.routeBytes i)) := by
  rw [routeRead, routeOperand_of_index number]

theorem routeRead_range {x : Byte} (out : 16 ≤ x.toNat) (p : Part) : routeRead x p = (p, refusal .range) := by
  rw [routeRead, routeOperand, dif_neg (Nat.not_lt.mpr out)]

/-! ## Lengths -/

theorem u8_length (x : Nat) : (u8 x).length = 1 := rfl
theorem u16_length (x : Nat) : (u16 x).length = 2 := rfl
theorem u32_length (x : Nat) : (u32 x).length = 4 := rfl

theorem Part.feedBytes_length (p : Part) : p.feedBytes.length = 11 := rfl
theorem Part.eyeBytes_length (p : Part) : p.eyeBytes.length = 10 := by
  simp only [Part.eyeBytes, List.length_append, u8_length, bytes4_length, List.length_singleton]
theorem Part.gapBytes_length (p : Part) : p.gapBytes.length = 21 := by
  simp only [Part.gapBytes, List.length_append, u8_length, u16_length, List.length_cons, List.length_nil]
theorem Settings.bytes_length (t : Settings) : t.bytes.length = 25 := by
  simp only [Settings.bytes, List.length_append, u8_length, u16_length]
theorem Part.laneBytes_length (p : Part) (n : LaneNo) : (p.laneBytes n).length = 35 := by
  simp only [Part.laneBytes, LaneSettings.bytes, List.length_append, u8_length, u16_length, u32_length, List.length_singleton]
theorem Part.pressureBytes_length (p : Part) (n : LaneNo) : (p.pressureBytes n).length = 15 := by
  simp only [Part.pressureBytes, List.length_append, u8_length, u16_length, bytes2_length, List.length_cons, List.length_nil]
theorem Part.tuneBytes_length (p : Part) (n : LaneNo) : (p.tuneBytes n).length = 25 := by
  simp only [Part.tuneBytes, List.length_append, u8_length, u16_length, bytes4_length, List.length_singleton]
theorem Part.lineBytes_length (p : Part) (i : Fin 4) : (p.lineBytes i).length = 10 := rfl
theorem Part.tallyBytes_length (p : Part) (i : Fin 4) : (p.tallyBytes i).length = 10 := rfl
theorem Part.routeBytes_length (p : Part) (i : Fin 16) : (p.routeBytes i).length = 12 := rfl

theorem Part.boardBytes_length (p : Part) (b : BoardNo) : (p.boardBytes b).length = 65 := by
  have entries : ((lanesOfBoard b).flatMap p.driveBytes).length = 56 := by
    rw [List.length_flatMap]
    rfl
  rw [Part.boardBytes]
  simp only [List.length_append, entries]
  rfl

end Sys2Proof.Machine
end

section
/-! PROOFS. The replies of LANE READ, LANE PRESSURE and TUNE READ (R116, R137, R149). -/

namespace Sys2Proof.Machine

/-! ## LANE READ -/

theorem Part.globalHalt_iff (p : Part) : p.globalHalt = true ↔ ∃ m : LaneNo, (p.lane m).service = .inService ∧
    (p.lane m).tune = .tuned ∧ (p.lane m).contact ≠ .empty ∧ (p.lane m).settings.haltEnable = true := by
  simp only [Part.globalHalt, List.any_eq_true, allLanes, List.mem_finRange, true_and, Bool.and_eq_true,
    Lane.inContactSet_iff, and_assoc]

theorem Part.laneBytes_eq {p : Part} {n : LaneNo} {l : Lane} {global : Bool} (lane : p.lane n = l)
    (halt : p.globalHalt = global) : p.laneBytes n =
      u8 n.val ++ u8 l.service.code ++ u8 l.tune.code ++ u8 l.contact.code ++
        [flagByte [l.seedPending, l.service == .inService && l.tune == .tuned, global, l.settings.haltEnable && global]] ++
        u16 l.lastRaw ++ u16 l.lastConditioned ++ u16 l.reference ++ u8 l.enterCount ++ u8 l.exitCount ++
        u32 l.distance ++ u8 l.railCount ++ u8 l.calibration.gain ++ u16 l.calibration.offset ++
        u16 l.settings.contactThreshold ++ u8 l.settings.hysteresis ++ u8 l.settings.enterDebounce ++
        u8 l.settings.exitDebounce ++ u16 l.settings.bottomLimit ++ u32 l.settings.contactLimit ++
        u8 l.settings.referenceBeta ++ u8 l.settings.fastBeta ++ u8 (if l.settings.haltEnable = true then 1 else 0) := by
  subst lane halt
  simp only [Part.laneBytes, LaneSettings.bytes, Lane.seeing, Part.halted, toNat_eq_ite, List.append_assoc]

/-! ## LANE PRESSURE -/

/-- The ends of a span as numbers. -/
def spanEnds (span : Option (LaneNo × LaneNo)) : Option (Nat × Nat) := span.map fun ends => (ends.1.val, ends.2.val)

/-- The span of the contact set is known by its ends. -/
theorem Part.contactSpan_eq {p : Part} {inContact : LaneNo → Prop} {span : Option (LaneNo × LaneNo)}
    (isIn : ∀ m : LaneNo, inContact m ↔
      (p.lane m).service = .inService ∧ (p.lane m).tune = .tuned ∧ (p.lane m).contact ≠ .empty)
    (ends : match span with
      | some (a, z) => inContact a ∧ inContact z ∧ ∀ m : LaneNo, inContact m → a ≤ m ∧ m ≤ z
      | none => ∀ m : LaneNo, ¬inContact m) : p.contactSpan = spanEnds span := by
  simp only [isIn, ← p.mem_contactSet] at ends
  cases span with
  | none => exact p.contactSpan_of_nil (List.eq_nil_iff_forall_not_mem.mpr ends)
  | some x => exact (p.contactSpan_eq_some_iff _).mpr ⟨x.1, x.2, ends, rfl⟩

theorem spanEnds_first (span : Option (LaneNo × LaneNo)) : ((spanEnds span).map Prod.fst).getD 0 = (span.getD (0, 0)).1.val := by
  cases span <;> rfl

theorem spanEnds_last (span : Option (LaneNo × LaneNo)) : ((spanEnds span).map Prod.snd).getD 0 = (span.getD (0, 0)).2.val := by
  cases span <;> rfl

theorem spanEnds_isSome (span : Option (LaneNo × LaneNo)) : (spanEnds span).isSome = span.isSome := by
  cases span <;> rfl

theorem inEdgeBand_spanEnds (span : Option (LaneNo × LaneNo)) (band : Nat) (n : LaneNo) :
    inEdgeBand (spanEnds span) band n.val = match span with
      | some (a, z) => decide (a ≤ n ∧ n ≤ z ∧ (n.val - a.val < band ∨ z.val - n.val < band))
      | none => false := by
  cases span with
  | none => rfl
  | some x =>
    rw [Bool.eq_iff_iff, inEdgeBand_iff]
    refine Iff.trans ⟨?_, fun inside => ⟨x.1.val, x.2.val, rfl, inside⟩⟩ decide_eq_true_iff.symm
    rintro ⟨_, _, same, inside⟩
    cases same
    exact inside

section
variable {p : Part} {n : LaneNo}

theorem Part.pressureCase_stop (stop : p.pressure.stopLevel = true) : p.pressureCase n = .stop := by
  simp only [Part.pressureCase, stop, if_true]

theorem Part.pressureCase_blind (stop : p.pressure.stopLevel = false) (blind : (p.lane n).seeing = false) :
    p.pressureCase n = .blind := by
  simp only [Part.pressureCase, stop, blind, Bool.false_eq_true, if_false, Bool.not_false, if_true]

theorem Part.pressureCase_idle (stop : p.pressure.stopLevel = false) (seeing : (p.lane n).seeing = true)
    (idle : p.splitting? = none) : p.pressureCase n = .idle := by
  simp only [Part.pressureCase, stop, seeing, idle, Bool.false_eq_true, if_false, Bool.not_true]

theorem Part.pressureCase_outside {seeing : Bool} {code : Nat} (sees : (p.lane n).seeing = seeing)
    (decides : p.pressure.stopLevel = true ∧ code = 0 ∨ p.pressure.stopLevel = false ∧ seeing = false ∧ code = 1 ∨
      p.pressure.stopLevel = false ∧ seeing = true ∧ (∀ h ∈ p.hides, h.state ≠ .splitting) ∧ code = 2) :
    ∃ c, p.pressureCase n = c ∧ (∀ h f, c ≠ .split h f) ∧ c.code = code := by
  rcases decides with ⟨stop, rfl⟩ | ⟨stop, blind, rfl⟩ | ⟨stop, seen, none, rfl⟩
  · exact ⟨.stop, Part.pressureCase_stop stop, fun _ _ => PressureCase.noConfusion, rfl⟩
  · exact ⟨.blind, Part.pressureCase_blind stop (sees.trans blind), fun _ _ => PressureCase.noConfusion, rfl⟩
  · exact ⟨.idle, Part.pressureCase_idle stop (sees.trans seen) (p.splitting?_eq_none.mpr none),
      fun _ _ => PressureCase.noConfusion, rfl⟩

theorem Part.pressureCase_split {h : Hide} {f : PlanFields} (stop : p.pressure.stopLevel = false)
    (seeing : (p.lane n).seeing = true) (split : p.splitting? = some h) (snapshot : h.snapshot = some f) :
    p.pressureCase n = .split h f := by
  simp only [Part.pressureCase, stop, seeing, split, snapshot, Bool.false_eq_true, if_false, Bool.not_true]

variable {span : Option (LaneNo × LaneNo)} (ends : p.contactSpan = spanEnds span)
include ends

/-- Outside the SPLIT case there is no ticket and no sum, and the first three flags are free (log entry 17). -/
theorem Part.pressureBytes_outside {c : PressureCase} (is : p.pressureCase n = c) (noSplit : ∀ h f, c ≠ .split h f) :
    ∃ flags : Byte, (∀ i : Nat, 3 ≤ i → flags.getLsbD i = false) ∧ p.pressureBytes n =
      u16 (p.wanted n) ++ u8 c.code ++ [flagByte [false, span.isSome, false], flags] ++ u16 0 ++
        u8 (span.getD (0, 0)).1.val ++ u8 (span.getD (0, 0)).2.val ++ u16 0 ++ u16 p.settings.idlePressure ++
        u16 p.settings.parkPressure := by
  have ticket : c.ticket = none := by
    unfold PressureCase.ticket
    split
    · exact absurd rfl (noSplit _ _)
    · rfl
  have sum : p.caseSum n = 0 := by
    unfold Part.caseSum
    rw [is]
    split
    · exact absurd rfl (noSplit _ _)
    · rfl
  have flags : p.caseFlags n = [(Config.pressureFlagsOutsideSplit n).getLsbD 0,
      (Config.pressureFlagsOutsideSplit n).getLsbD 1, (Config.pressureFlagsOutsideSplit n).getLsbD 2, false] := by
    unfold Part.caseFlags
    rw [is]
    split
    · exact absurd rfl (noSplit _ _)
    · rfl
  refine ⟨flagByte (p.caseFlags n), fun i beyond => ?_, ?_⟩
  · rw [flags, flagByte_getLsbD _ _ (by simp)]
    match i, beyond with
    | 3, _ => rfl
    | i + 4, _ => rfl
  · simp only [Part.pressureBytes, is, ticket, sum, ends, spanEnds_first, spanEnds_last, spanEnds_isSome]
    rfl

theorem Part.pressureBytes_split {h : Hide} {f : PlanFields} (is : p.pressureCase n = .split h f) {edge bridged : Bool}
    {sum : Int} (inBand : inEdgeBand p.contactSpan f.edgeBand n.val = edge) (isBridged : p.bridged n = bridged)
    (total : p.splitSum p.contactSpan f n = sum) : p.pressureBytes n =
      u16 (p.wanted n) ++ u8 3 ++ [flagByte [true, span.isSome, true],
        flagByte [edge, (p.lane n).contact == .bottomed, bridged, decide (sum < 0 ∨ 600 < sum)]] ++ u16 h.ticket ++
        u8 (span.getD (0, 0)).1.val ++ u8 (span.getD (0, 0)).2.val ++ bytes2 (BitVec.ofInt 16 sum) ++
        u16 p.settings.idlePressure ++ u16 p.settings.parkPressure := by
  have caseSum : p.caseSum n = sum := by
    unfold Part.caseSum
    rw [is]
    exact total
  have flags : p.caseFlags n = [edge, (p.lane n).contact == .bottomed, bridged, decide (sum < 0 ∨ 600 < sum)] := by
    unfold Part.caseFlags
    rw [is, Bool.decide_or]
    dsimp only
    rw [inBand, isBridged, caseSum]
    rfl
  simp only [Part.pressureBytes, is, flags, caseSum, ends, spanEnds_first, spanEnds_last, spanEnds_isSome]
  rfl

end

end Sys2Proof.Machine
end

section
/-! PROOFS. The other replies (R57, R76, R94, R137, R167, R178, R182, R183, R193). -/

namespace Sys2Proof.Machine

/-! ## GAP READ and the settings -/

theorem Part.gapBytes_eq (p : Part) : p.gapBytes = u8 p.gap.state.code ++
    [flagByte [p.feed.holds.gapFault],
     flagByte [p.gap.active.isSome, p.gap.staged.isSome, p.gap.target.isSome, p.gap.lastPair.isSome,
       p.gap.moveTimer.isSome, p.gap.excursionRun, p.gap.applyPending, p.feed.holds.gapNotReady]] ++
    u16 (p.gap.active.getD ⟨0, 0⟩).gap ++ u8 (p.gap.active.getD ⟨0, 0⟩).tol ++
    u16 (p.gap.staged.getD ⟨0, 0⟩).gap ++ u8 (p.gap.staged.getD ⟨0, 0⟩).tol ++
    u16 (p.gap.target.getD ⟨0, 0⟩).gap ++ u8 (p.gap.target.getD ⟨0, 0⟩).tol ++
    u8 p.gap.settle ++ u16 (p.gap.lastPair.getD (0, 0)).1 ++ u16 (p.gap.lastPair.getD (0, 0)).2 ++
    u8 (p.gap.moveTimer.getD 0 / 10000) ++ u8 (if p.settings.gapMethod = .atClear then 0 else 1) ++
    u8 p.settings.defaultGapTolerance ++ u8 p.settings.gapMoveTimeout := by
  have gap : ∀ o : Option GapTol, (o.map (·.gap)).getD 0 = (o.getD ⟨0, 0⟩).gap := fun o => by cases o <;> rfl
  have tol : ∀ o : Option GapTol, (o.map (·.tol)).getD 0 = (o.getD ⟨0, 0⟩).tol := fun o => by cases o <;> rfl
  have left : ∀ o : Option (Nat × Nat), (o.map (·.1)).getD 0 = (o.getD (0, 0)).1 := fun o => by cases o <;> rfl
  have right : ∀ o : Option (Nat × Nat), (o.map (·.2)).getD 0 = (o.getD (0, 0)).2 := fun o => by cases o <;> rfl
  simp only [Part.gapBytes, gap, tol, left, right]
  cases p.settings.gapMethod <;> rfl

theorem Settings.bytes_eq (t : Settings) : t.bytes =
    u16 t.throatLength ++ u16 t.maximumHideLength ++ u16 t.gapFilter ++
      u16 t.leadDebounce ++ u16 t.approachMargin ++
      u8 (if t.eyePolarity = .darkHigh then 0 else 1) ++
      u8 (if t.unannouncedPolicy = .refuse then 0 else 1) ++ u16 t.idleFeedSpeed ++
      u16 t.idlePressure ++ u16 t.parkPressure ++ u8 t.scanPeriod ++
      u8 (if t.gapMethod = .atClear then 0 else 1) ++ u8 t.defaultGapTolerance ++
      u8 t.gapMoveTimeout ++ u8 t.selectTimeout ++ u8 t.sessionFrameLimit ++
      u8 t.releaseInterval := by
  unfold Settings.bytes
  cases t.eyePolarity <;> cases t.unannouncedPolicy <;> cases t.gapMethod <;> rfl

/-! ## TUNE READ -/

/-- The last six bytes of TUNE READ (R137; log entry 39). -/
def memberBytes (member : Option Member) : List Byte :=
  match member with
  | some m => u8 m.phase.code ++ (match m.phase with
      | .gain trial base _ => u8 trial ++ u8 base
      | _ => [0, 0]) ++ u8 m.readings ++ u16 (m.lastAverage.getD 0)
  | none => [0, 0, 0, 0, 0, 0]

theorem memberBytes_eq (member : Option Member) : memberBytes member =
    u8 ((member.map (·.phase.code)).getD 0) ++ u8 ((member.map Member.phase).getD Phase.finished).trialAndBase.1 ++
      u8 ((member.map Member.phase).getD Phase.finished).trialAndBase.2 ++ u8 ((member.map (·.readings)).getD 0) ++
      u16 ((member.bind (·.lastAverage)).getD 0) := by
  cases member with
  | none => rfl
  | some m =>
    simp only [memberBytes, Option.map_some, Option.getD_some, Option.bind_some]
    cases m.phase <;> rfl

theorem laneMask_eq {lanes : List LaneNo} {mask : Word} (bits : ∀ n : LaneNo, mask.getLsbD n.val = decide (n ∈ lanes)) :
    laneMask lanes = mask :=
  BitVec.eq_of_getLsbD_eq fun i bound => (laneMask_getLsbD lanes ⟨i, bound⟩).trans (bits ⟨i, bound⟩).symm

theorem Part.tuneBytes_eq {p : Part} {n : LaneNo} {member : Option Member} {origin : Nat} {members : Word}
    (isMember : p.member? n = member) (isOrigin : (p.tuning.batch.map (·.origin.code)).getD 0 = origin)
    (isMembers : (p.tuning.batch.map fun b => laneMask (b.members.map (·.lane))).getD 0 = members) : p.tuneBytes n =
      u8 (p.lane n).tune.code ++ u8 (p.laneTuning n).settings.mode.code ++ u16 (p.laneTuning n).settings.base ++
        u16 (p.laneTuning n).settings.target ++ u8 (p.laneTuning n).settings.band ++ u8 (p.laneTuning n).settings.holdoff ++
        [flagByte [(p.laneTuning n).settings.automatic, (p.laneTuning n).requested, (p.laneTuning n).holdoff.isSome,
          p.batchRunning, p.tuning.batch.isSome, member.isSome]] ++
        u16 (p.laneTuning n).settings.window.1 ++ u16 (p.laneTuning n).settings.window.2 ++
        u8 ((p.laneTuning n).holdoff.getD 0 / 100000) ++ u8 origin ++ bytes4 members ++ memberBytes member := by
  subst isMember isOrigin isMembers
  rw [memberBytes_eq]
  simp only [Part.tuneBytes, List.append_assoc]
  rfl

/-! ## BOARD READ -/

theorem Part.driveBytes_eq {p : Part} {entry : LaneNo → List Byte}
    (isEntry : ∀ n : LaneNo, entry n = [BitVec.ofNat 8 ((p.drive n).state.code +
        (if (p.lane n).service = .faulted .drive ∨ (p.lane n).service = .faulted .board then 0 else 4) +
        (if (p.drive n).applied.isSome = true then 8 else 0) + 16 * (p.drive n).retry)] ++
      u16 (p.wanted n) ++ u16 ((p.drive n).applied.getD 0) ++ u16 (match (p.drive n).state with
        | .inFlight v => v
        | _ => 0)) (n : LaneNo) : p.driveBytes n = entry n := by
  have driven : 4 * (p.lane n).driven.toNat =
      if (p.lane n).service = .faulted .drive ∨ (p.lane n).service = .faulted .board then 0 else 4 := by
    by_cases drive : (p.lane n).service = .faulted .drive <;> by_cases board : (p.lane n).service = .faulted .board <;>
      simp [Lane.driven, drive, board]
  have applied : 8 * (p.drive n).applied.isSome.toNat = if (p.drive n).applied.isSome = true then 8 else 0 := by
    cases (p.drive n).applied.isSome <;> rfl
  rw [isEntry, Part.driveBytes, driven, applied] <;> cases (p.drive n).state <;> rfl

theorem Part.boardBytes_eq {p : Part} {b : BoardNo} {session : Bool} {entry : LaneNo → List Byte}
    (isSession : session = true ↔ p.bus.master = .opened b ∨ p.bus.master = .draining b)
    (isEntry : ∀ n, p.driveBytes n = entry n) : p.boardBytes b =
      u8 b.val ++ u8 (p.bus.boards[b.val]).code ++ u8 p.bus.master.code ++ u8 p.bus.pointer.val ++
        u8 (if session = true then p.bus.frameCount else 0) ++
        u8 (if session = true then 4 * b.val + p.bus.cursor.val else 0) ++
        ((List.finRange 8).flatMap fun i => entry ⟨8 * b.val + i.val, by omega⟩) ++
        u8 p.settings.selectTimeout ++ u8 p.settings.sessionFrameLimit ++ u8 p.settings.releaseInterval := by
  have inSession : (p.bus.master == .opened b || p.bus.master == .draining b) = session := by
    rw [Bool.eq_iff_iff, Bool.or_eq_true, beq_iff_eq, beq_iff_eq, isSession]
  have entries : (lanesOfBoard b).flatMap p.driveBytes = (List.finRange 8).flatMap fun i => entry ⟨8 * b.val + i.val, by omega⟩ := by
    rw [lanesOfBoard, List.flatMap_map, funext isEntry]
    rfl
  simp only [Part.boardBytes, inSession, entries]

/-! ## LINE READ, TALLY READ and ROUTE READ -/

theorem Part.lineBytes_eq (p : Part) (i : Fin 4) : p.lineBytes i =
    u8 (if (p.line i).mode = .routed then 0 else 1) ++ u8 (if (p.line i).drive = .pushPull then 0 else 1) ++
      u8 (if (p.line i).directActive = true then 1 else 0) ++ u8 (if (p.line i).latched = true then 1 else 0) ++
      u8 (if (p.line i).pulse.isSome = true then 1 else 0) ++ u16 ((p.line i).pulse.getD 0 / 100) ++
      u8 (if p.lineFollowed i = true then 1 else 0) ++ u8 (if p.lineActive i = true then 1 else 0) ++
      u8 (if p.linePinHigh i = true then 1 else 0) := by
  simp only [Part.lineBytes, toNat_eq_ite]
  cases (p.line i).mode <;> cases (p.line i).drive <;> rfl

theorem Part.tallyBytes_eq (p : Part) (i : Fin 4) : p.tallyBytes i =
    bytes4 (p.tallies[i.val]).count ++ bytes4 (p.tallies[i.val]).threshold ++
      u8 (if (p.tallies[i.val]).scope = .running then 0 else 1) ++
      [flagByte [(p.tallies[i.val]).invert, (p.tallies[i.val]).frozen, (p.tallies[i.val]).freezeOnStop,
        (p.tallies[i.val]).frozen || ((p.tallies[i.val]).freezeOnStop && p.feed.stopLine)]] := by
  simp only [Part.tallyBytes]
  cases (p.tallies[i.val]).scope <;> rfl

/-- The four bytes of a filter (R197). -/
theorem Filter.bytes_eq (f : Filter) : bytes4 f.word = match f with
    | .lanes mask => bytes4 mask
    | .article code => u32 code
    | .tallies mask => u32 mask.toNat
    | .none => [0, 0, 0, 0] := by
  cases f with
  | lanes mask => rfl
  | article code => rfl
  | tallies mask =>
    change bytes4 (mask.setWidth 32) = u32 mask.toNat
    rw [u32, BitVec.ofNat_toNat]
  | none => rfl

/-- The three operand bytes of a task (R197). -/
theorem Task.bytes_eq (t : Task) : [t.lineSet.setWidth 8] ++ u8 t.width ++ u8 t.tallyIndex = match t with
    | .pulseLines lines width => u8 lines.toNat ++ u8 width ++ [0]
    | .setLines lines => u8 lines.toNat ++ [0, 0]
    | .clearLines lines => u8 lines.toNat ++ [0, 0]
    | .follow lines => u8 lines.toNat ++ [0, 0]
    | .tallyStep k => [0, 0] ++ u8 k.val
    | _ => [0, 0, 0] := by
  have set : ∀ lines : BitVec 4, u8 lines.toNat = [lines.setWidth 8] := fun lines => by rw [u8, BitVec.ofNat_toNat]
  cases t <;> simp only [set] <;> rfl

theorem Part.conditionBytes_eq (p : Part) (r : Route) : u8 (p.conditionTrue r).toNat = u8 (match r.source with
    | .level l => if p.levelHolds l r.filter = true then 1 else 0
    | .event _ => 0) := by
  unfold Part.conditionTrue
  cases r.source with
  | level l => rw [toNat_eq_ite]
  | event _ => rfl

theorem Part.routeBytes_eq (p : Part) (i : Fin 16) : p.routeBytes i =
    u8 i.val ++ u8 (if (p.routes[i.val]).enabled = true then 1 else 0) ++ u8 (p.routes[i.val]).source.code ++
      bytes4 (p.routes[i.val]).filter.word ++ u8 (p.routes[i.val]).task.code ++
      ([(p.routes[i.val]).task.lineSet.setWidth 8] ++ u8 (p.routes[i.val]).task.width ++
        u8 (p.routes[i.val]).task.tallyIndex) ++ u8 (p.conditionTrue p.routes[i.val]).toNat := by
  simp only [Part.routeBytes, toNat_eq_ite (p.routes[i.val]).enabled, List.append_assoc]

end Sys2Proof.Machine
end

section
/-! PROOFS. The reads at the machine (R57, R76, R94, R116, R137, R149, R167, R178, R182, R183, R193, R197). -/

namespace Sys2Proof.Machine

section
variable {lane : Byte} {n : LaneNo} (number : lane.toNat = n.val) {s : State} (accept : s.port.acceptIn = none)
  {reply : List Byte}
include number accept

theorem exec_laneRead (layout : s.toPart.laneBytes n = reply) : ∃ r : List Byte, r.length = 35 ∧ r = reply ∧
    exec (.laneRead lane) s = .next (s.answers Header.laneRead .ok r s.toPart) :=
  exec_read (c := .laneRead lane) (body := onLane lane readLane) rfl accept (onLane_of_lane number readLane s.toPart) layout
    (s.toPart.laneBytes_length n)

theorem exec_lanePressure (layout : s.toPart.pressureBytes n = reply) : ∃ r : List Byte, r.length = 15 ∧ r = reply ∧
    exec (.lanePressure lane) s = .next (s.answers Header.lanePressure .ok r s.toPart) :=
  exec_read (c := .lanePressure lane) (body := onLane lane readPressure) rfl accept
    (onLane_of_lane number readPressure s.toPart) layout (s.toPart.pressureBytes_length n)

theorem exec_tuneRead (layout : s.toPart.tuneBytes n = reply) : ∃ r : List Byte, r.length = 25 ∧ r = reply ∧
    exec (.tuneRead lane) s = .next (s.answers Header.tuneRead .ok r s.toPart) :=
  exec_read (c := .tuneRead lane) (body := onLane lane readTune) rfl accept (onLane_of_lane number readTune s.toPart) layout
    (s.toPart.tuneBytes_length n)

end

end Sys2Proof.Machine

open Sys2Proof Sys2Proof.Machine

/-- Settles O38: each reply is its layout's bytes, of a length the layout fixes. -/
theorem readsAnswerTheirLayouts : Obligations.ReadsAnswerTheirLayouts := by
  refine ⟨fun s accept => ⟨?_, ?_, ?_, ?_, fun lane n l global number isLane halts => ?_,
      fun lane n inContact span seeing number isSeeing isIn ends => ?_,
      fun lane n t width member origin members number isTuning isWidth batch => ?_,
      fun lane out => ⟨?_, ?_, ?_⟩, fun x b session entry number isSession isEntry => ?_,
      fun x i number => ⟨?_, fun t isTally => ?_⟩, fun x out => ⟨?_, ?_, ?_⟩,
      fun index i r number isRoute => ?_, fun index out => ?_⟩,
    ⟨fun _ => rfl, u16_eq, u32_eq, fun x => (u16_toNat x).symm, fun x => (u32_toNat x).symm,
      fun flags i short => flagByte_getLsbD flags i short, fun _ => rfl, fun _ => rfl, fun _ => rfl⟩,
    rfl, rfl, fun _ _ => rfl, rfl, rfl, rfl, rfl, rfl, fun _ => rfl, rfl, rfl, rfl, rfl, fun _ _ _ => rfl, rfl, rfl,
    fun _ _ _ => rfl, fun _ => rfl⟩
  · exact exec_read (c := .feedRead) rfl accept rfl rfl s.toPart.feedBytes_length
  · exact exec_read (c := .eyeRead) rfl accept rfl rfl s.toPart.eyeBytes_length
  · exact exec_read (c := .gapRead) rfl accept rfl s.toPart.gapBytes_eq s.toPart.gapBytes_length
  · exact exec_read (c := .machineReadSettings) rfl accept rfl s.settings.bytes_eq s.settings.bytes_length
  · exact exec_laneRead number accept
      (Part.laneBytes_eq isLane.symm (Bool.eq_iff_iff.mpr (s.toPart.globalHalt_iff.trans halts.symm)))
  · have spans := Part.contactSpan_eq isIn ends
    refine ⟨fun code decides => ?_, fun h f edge bridged sum stop seeing split snapshot isEdge isBridged isSum => ?_⟩
    · obtain ⟨c, is, noSplit, rfl⟩ := Part.pressureCase_outside isSeeing.symm decides
      obtain ⟨flags, clear, layout⟩ := Part.pressureBytes_outside spans is noSplit
      obtain ⟨reply, length, bytes, reads⟩ := exec_lanePressure number accept layout
      exact ⟨reply, flags, length, clear, bytes, reads⟩
    · have is := Part.pressureCase_split stop (isSeeing.symm.trans seeing) split snapshot
      have inBand : inEdgeBand s.contactSpan f.edgeBand n.val = edge := by
        rw [spans, inEdgeBand_spanEnds]
        exact isEdge.symm
      have bridges : s.bridged n = bridged := by
        rw [Bool.eq_iff_iff, s.toPart.bridged_iff, isBridged]
        simp only [← Lane.seeing_iff, Bool.not_eq_true]
      have total : s.splitSum s.contactSpan f n = sum := by rw [Part.splitSum, inBand, bridges, isSum]
      exact exec_lanePressure number accept (Part.pressureBytes_split spans is inBand bridges total)
  · have facts : s.member? n = member ∧ (s.tuning.batch.map (·.origin.code)).getD 0 = origin ∧
        (s.tuning.batch.map fun b => laneMask (b.members.map (·.lane))).getD 0 = members := by
      cases record : s.tuning.batch with
      | none =>
        rw [record] at batch
        obtain ⟨rfl, rfl, rfl⟩ := batch
        refine ⟨?_, rfl, rfl⟩
        rw [Part.member?, record]
      | some b =>
        rw [record] at batch
        obtain ⟨isMember, isOrigin, isMembers⟩ := batch
        refine ⟨?_, isOrigin.symm, laneMask_eq fun m => (isMembers m).trans ?_⟩
        · rw [Part.member?, record]
          exact isMember.symm
        · rw [Bool.eq_iff_iff, List.any_eq_true, decide_eq_true_eq, List.mem_map]
          simp only [beq_iff_eq]
    obtain ⟨isMember, isOrigin, isMembers⟩ := facts
    subst isTuning isWidth
    exact exec_tuneRead number accept (Part.tuneBytes_eq isMember isOrigin isMembers)
  · exact exec_read_range (c := .laneRead lane) rfl accept (onLane_range out _ _)
  · exact exec_read_range (c := .lanePressure lane) rfl accept (onLane_range out _ _)
  · exact exec_read_range (c := .tuneRead lane) rfl accept (onLane_range out _ _)
  · exact exec_read (c := .boardRead x) rfl accept (onBoard_of_board number _ _)
      (Part.boardBytes_eq isSession (Part.driveBytes_eq isEntry)) (s.toPart.boardBytes_length b)
  · exact exec_read (c := .lineRead x) rfl accept (lineRead_of_line number _) (s.toPart.lineBytes_eq i)
      (s.toPart.lineBytes_length i)
  · subst isTally
    exact exec_read (c := .tallyRead x) rfl accept (tallyRead_of_tally number _) (s.toPart.tallyBytes_eq i)
      (s.toPart.tallyBytes_length i)
  · exact exec_read_range (c := .boardRead x) rfl accept (onBoard_range out _ _)
  · exact exec_read_range (c := .lineRead x) rfl accept (lineRead_range out _)
  · exact exec_read_range (c := .tallyRead x) rfl accept (tallyRead_range out _)
  · subst isRoute
    refine exec_read (c := .routeRead index) rfl accept (routeRead_of_index number _) ?_ (s.toPart.routeBytes_length i)
    rw [Part.routeBytes_eq, Filter.bytes_eq, Task.bytes_eq, Part.conditionBytes_eq] <;> rfl
  · exact exec_read_range (c := .routeRead index) rfl accept (routeRead_range out _)
end

section
/-! PROOFS. The records in passage aborted by a STOP assertion (R18, R43). -/

namespace Sys2Proof.Machine

/-! ## The parts an aborted record changes -/

/-- From `p` to `q` records are aborted with their events: the tables, the excursion run and what routes act on may differ,
and a stopped feed stays so. -/
def AbortsRecords (p q : Part) : Prop :=
  (p.feed.runState = .stopped → q.feed.runState = .stopped) ∧
  ∃ hides articles excursionRun runState routeHold lines tallies route, q = { p with
    hides := hides
    articles := articles
    gap := { p.gap with excursionRun := excursionRun }
    feed := { p.feed with runState := runState, holds := { p.feed.holds with routeHold := routeHold } }
    lines := lines
    tallies := tallies
    port := { p.port with attention := { p.port.attention with route := route } } }

theorem AbortsRecords.refl (p : Part) : AbortsRecords p p := ⟨id, _, _, _, _, _, _, _, _, rfl⟩

theorem AbortsRecords.trans {p q r : Part} (h : AbortsRecords p q) (k : AbortsRecords q r) : AbortsRecords p r := by
  obtain ⟨first, _, _, _, _, _, _, _, _, rfl⟩ := h
  obtain ⟨second, _, _, _, _, _, _, _, _, rfl⟩ := k
  exact ⟨fun stopped => second (first stopped), _, _, _, _, _, _, _, _, rfl⟩

theorem raise_abortsRecords (e : Event) (p : Part) : AbortsRecords p (raise e p) :=
  ⟨raise_stopped e p, _, _, _, _, _, _, _, _, raise_onlyRoutes e p⟩

theorem abortRecord_abortsRecords (h : Hide) (cause : AbortCause) (p : Part) : AbortsRecords p (abortRecord h cause p) := by
  refine ⟨fun stopped => by rwa [abortRecord_feed], ?_⟩
  by_cases splitting : h.state = .splitting
  · rw [abortRecord_of_splitting splitting]
    exact ⟨_, _, _, _, _, _, _, _, rfl⟩
  · rw [abortRecord_of_not_splitting splitting]
    exact ⟨_, _, _, _, _, _, _, _, rfl⟩

theorem stopRecord_abortsRecords (p : Part) (h : Hide) : AbortsRecords p (stopRecord p h) :=
  (abortRecord_abortsRecords h .stop p).trans (raise_abortsRecords _ _)

theorem stopRecords_abortsRecords : ∀ (l : List Hide) (p : Part), AbortsRecords p (l.foldl stopRecord p)
  | [], p => .refl p
  | h :: l, p => (stopRecord_abortsRecords p h).trans (stopRecords_abortsRecords l (stopRecord p h))

/-! ## The tables -/

theorem stopRecord_hides (p : Part) (h : Hide) : (stopRecord p h).hides =
    p.hides.map fun x => if x.ticket = h.ticket then x.abort .stop else x := by
  rw [stopRecord, raise_hides, abortRecord_hides, Part.modifyHide_hides]
  simp only [beq_iff_eq]

theorem stopRecord_articles (p : Part) (h : Hide) : (stopRecord p h).articles =
    p.articles.map fun a => if a.code = h.article then { a with aborted := a.aborted + 1 } else a := by
  rw [stopRecord, raise_articles, abortRecord_articles]
  simp only [beq_iff_eq]

theorem stopRecords_hides : ∀ (l : List Hide) (p : Part), (l.foldl stopRecord p).hides =
    p.hides.map fun x => if x.ticket ∈ l.map (·.ticket) then x.abort .stop else x
  | [], p => by simp
  | h :: l, p => by
    rw [List.foldl_cons, stopRecords_hides l, stopRecord_hides, List.map_map]
    refine List.map_congr_left fun x _ => ?_
    have ticket : (x.abort .stop).ticket = x.ticket := rfl
    have again : (x.abort .stop).abort .stop = x.abort .stop := rfl
    rw [Function.comp_apply]
    by_cases first : x.ticket = h.ticket
    · rw [if_pos first, ticket, again, ite_self, List.map_cons, if_pos (List.mem_cons.mpr (.inl first))]
    · rw [if_neg first]
      simp only [List.map_cons, List.mem_cons, first, false_or]

theorem stopRecords_articles : ∀ (l : List Hide) (p : Part), (l.foldl stopRecord p).articles =
    p.articles.map fun a => { a with
      aborted := a.aborted + BitVec.ofNat 32 (l.filter fun h => h.article == a.code).length }
  | [], p => by simp
  | h :: l, p => by
    rw [List.foldl_cons, stopRecords_articles l, stopRecord_articles, List.map_map]
    refine List.map_congr_left fun a _ => ?_
    rw [Function.comp_apply, List.filter_cons]
    by_cases counted : a.code = h.article
    · have more : BitVec.ofNat 32 ((l.filter fun x => x.article == a.code).length + 1) =
          1 + BitVec.ofNat 32 (l.filter fun x => x.article == a.code).length := by
        rw [Nat.add_comm, BitVec.ofNat_add]
        rfl
      rw [if_pos counted, if_pos (beq_iff_eq.mpr counted.symm), List.length_cons, more, ← BitVec.add_assoc]
    · rw [if_neg counted, if_neg fun same => counted (beq_iff_eq.mp same).symm]

end Sys2Proof.Machine
end

section
/-! PROOFS. A STOP assertion, block by block (R43, R59, R75, R93, R133, R148, R190). -/

namespace Sys2Proof.Machine

/-! ## One block each -/

theorem seatEye_eq (p : Part) : seatEye p =
    { p with eye := ⟨p.eye.inputHigh, if p.eyeDark = true then .discard none else .clear⟩ } := rfl

theorem stopGap_of_moving {p : Part} (moving : p.gap.state = .moving) : stopGap p = { p with gap := p.gap.abandon } :=
  if_pos moving

theorem stopGap_of_not_moving {p : Part} (still : p.gap.state ≠ .moving) : stopGap p = p := if_neg still

theorem takeStopLevel_same (asserted : Bool) (p : Part) : ∃ wanted drives, takeStopLevel asserted p = { p with
    pressure := { p.pressure with stopLevel := asserted, wanted := wanted }
    bus := { p.bus with drives := drives } } := by
  obtain ⟨_, _, same⟩ := recompute_same (p.setPressure { p.pressure with stopLevel := asserted })
  rw [takeStopLevel, same]
  exact ⟨_, _, rfl⟩

theorem abortBatch_shape (p : Part) : ∃ hold, abortBatch p = { p with
    lanes := (abortBatch p).lanes
    tuning := (abortBatch p).tuning
    feed := { p.feed with holds := { p.feed.holds with tuning := hold } } } := by
  cases running : p.batchRunning with
  | false =>
    rw [abortBatch_idle running]
    exact ⟨_, rfl⟩
  | true =>
    obtain ⟨b, record, isRunning⟩ := p.batchRunning_iff.mp running
    obtain ⟨ended, ends, _⟩ := abortBatch_record p b record isRunning
    have same := abortBatch_same record isRunning ends
    have tuning : (abortBatch p).tuning = { p.tuning with batch := some ended } := by rw [same]
    rw [tuning]
    exact ⟨_, same⟩

/-! ## The assertion -/

/-- The part as the feed unit and the attention set have taken an assertion (R75, R190). -/
def stopTaken (p : Part) : Part := (stopFeed p).attend .stop

/-- The records in passage aborted, in table order (R43). -/
def stopTold (p : Part) : Part := (p.hides.filter Hide.inPassage).foldl stopRecord (stopTaken p)

/-- The unbound edge discarded, the eye seated and a move abandoned (R43, R59, R93). -/
def stopSeated (p : Part) : Part := stopGap (seatEye ((stopTold p).setUnbound none))

theorem assertStop_eq (p : Part) : assertStop p = notReadyTest (takeStopLevel true (abortBatch (stopSeated p))) := rfl

theorem stopTold_aborts (p : Part) : AbortsRecords (stopTaken p) (stopTold p) := stopRecords_abortsRecords _ _

theorem stopSeated_same (p : Part) : ∃ excursionRun, stopSeated p = { p with
    hides := (stopTold p).hides
    articles := (stopTold p).articles
    unbound := none
    eye := ⟨p.eye.inputHigh, if p.eyeDark = true then .discard none else .clear⟩
    gap := if p.gap.state = .moving then { p.gap.abandon with excursionRun := excursionRun }
      else { p.gap with excursionRun := excursionRun }
    feed := { p.feed with
      stopLine := true
      runState := .stopped
      holds := { p.feed.holds with
        stopLine := true, stopRecovery := true, routeHold := (stopTold p).feed.holds.routeHold } }
    lines := (stopTold p).lines
    tallies := (stopTold p).tallies
    port := (stopTold p).port } := by
  obtain ⟨stopped, hides, articles, excursionRun, runState, routeHold, lines, tallies, route, told⟩ := stopTold_aborts p
  have run : runState = .stopped := (congrArg (fun q : Part => q.feed.runState) told).symm.trans (stopped rfl)
  subst run
  refine ⟨excursionRun, ?_⟩
  have dark : ((stopTold p).setUnbound none).eyeDark = p.eyeDark := by
    rw [told, Part.eyeDark_eq, Part.eyeDark_eq]
    rfl
  rw [stopSeated, seatEye_eq, dark, told]
  by_cases moving : p.gap.state = .moving
  · rw [if_pos moving]
    exact stopGap_of_moving moving
  · rw [if_neg moving]
    exact stopGap_of_not_moving moving

theorem stopTold_port (p : Part) : ∃ route, (stopTold p).port =
    { p.port with attention := { p.port.attention with stop := true, route := route } } := by
  obtain ⟨_, _, _, _, _, _, _, _, _, told⟩ := stopTold_aborts p
  rw [told]
  exact ⟨_, rfl⟩

theorem stopTold_hides {p : Part} (distinct : (p.hides.map (·.ticket)).Nodup) : (stopTold p).hides =
    p.hides.map fun h => if h.state = .entering ∨ h.state = .splitting then h.abort .stop else h := by
  rw [stopTold, stopRecords_hides]
  refine List.map_congr_left fun h member => ?_
  have inPassage : h.ticket ∈ (p.hides.filter Hide.inPassage).map (·.ticket) ↔ h.state = .entering ∨ h.state = .splitting := by
    rw [List.mem_map]
    constructor
    · rintro ⟨x, among, same⟩
      obtain ⟨inTable, passage⟩ := List.mem_filter.mp among
      rw [← List.inj_on_of_nodup_map distinct inTable member same]
      simpa [Hide.inPassage] using passage
    · exact fun passage => ⟨h, List.mem_filter.mpr ⟨member, by simpa [Hide.inPassage] using passage⟩, rfl⟩
  simp only [inPassage]

theorem stopTold_articles (p : Part) : (stopTold p).articles = p.articles.map fun a => { a with
    aborted := a.aborted + BitVec.ofNat 32 (p.hides.filter fun h =>
      (h.state == .entering || h.state == .splitting) && h.article == a.code).length } := by
  rw [stopTold, stopRecords_articles]
  refine List.map_congr_left fun a _ => ?_
  rw [List.filter_filter]
  simp only [Hide.inPassage, Bool.and_comm]

end Sys2Proof.Machine
end

section
/-! PROOFS. What a STOP assertion leaves, field by field (R18, R43, R59, R75, R93, R133, R148, R190). -/

namespace Sys2Proof.Machine

theorem stopSeated_hides (p : Part) : (stopSeated p).hides = (stopTold p).hides := by
  obtain ⟨_, same⟩ := stopSeated_same p
  rw [same]

theorem stopSeated_no_entering {p : Part} (distinct : (p.hides.map (·.ticket)).Nodup) :
    ∀ h ∈ (stopSeated p).hides, h.state ≠ .entering := by
  rw [stopSeated_hides, stopTold_hides distinct]
  intro h member
  obtain ⟨x, _, rfl⟩ := List.mem_map.mp member
  split
  · exact HideState.noConfusion
  · next outside => exact fun entering => outside (.inl entering)

/-- No record in passage is left for the axis to be not ready for (R89). -/
theorem assertStop_same {p : Part} (distinct : (p.hides.map (·.ticket)).Nodup) :
    ∃ hold wanted drives, assertStop p = { stopSeated p with
      lanes := (abortBatch (stopSeated p)).lanes
      tuning := (abortBatch (stopSeated p)).tuning
      feed := { (stopSeated p).feed with
        holds := { (stopSeated p).feed.holds with tuning := hold, gapNotReady := false } }
      pressure := { (stopSeated p).pressure with stopLevel := true, wanted := wanted }
      bus := { (stopSeated p).bus with drives := drives } } := by
  have none := stopSeated_no_entering distinct
  obtain ⟨hold, ended⟩ := abortBatch_shape (stopSeated p)
  rw [assertStop_eq, ended]
  generalize (abortBatch (stopSeated p)).lanes = lanes
  generalize (abortBatch (stopSeated p)).tuning = tuning
  generalize stopSeated p = q at none ⊢
  obtain ⟨wanted, drives, level⟩ := takeStopLevel_same true { q with
    lanes := lanes
    tuning := tuning
    feed := { q.feed with holds := { q.feed.holds with tuning := hold } } }
  rw [level]
  exact ⟨_, _, _, (notReadyTest_of_no_entering (by exact none)).trans rfl⟩

theorem assertStop_wanted (p : Part) (n : LaneNo) : (assertStop p).wanted n = p.settings.parkPressure := by
  have settings : (takeStopLevel true (abortBatch (stopSeated p))).settings = p.settings := by
    obtain ⟨_, _, level⟩ := takeStopLevel_same true (abortBatch (stopSeated p))
    obtain ⟨_, ended⟩ := abortBatch_shape (stopSeated p)
    obtain ⟨_, seated⟩ := stopSeated_same p
    rw [level, ended, seated]
  have stop : (takeStopLevel true (abortBatch (stopSeated p))).pressure.stopLevel = true := by
    obtain ⟨_, _, level⟩ := takeStopLevel_same true (abortBatch (stopSeated p))
    rw [level]
  calc (assertStop p).wanted n = (takeStopLevel true (abortBatch (stopSeated p))).wanted n := rfl
    _ = _ := Part.wanted_of_decided (takeStopLevel_decided true _) n
    _ = _ := Part.pressureFor_of_stop _ _ n stop
    _ = _ := by rw [settings]

/-! ## The feed and its holds -/

section
variable {p : Part} (distinct : (p.hides.map (·.ticket)).Nodup)
include distinct

theorem assertStop_feed : ∃ tuning, (assertStop p).feed = { p.feed with
    stopLine := true
    runState := .stopped
    holds := { p.feed.holds with
      stopLine := true, stopRecovery := true, gapNotReady := false, tuning := tuning
      routeHold := (stopTold p).feed.holds.routeHold } } := by
  obtain ⟨_, _, _, same⟩ := assertStop_same distinct
  obtain ⟨_, seated⟩ := stopSeated_same p
  rw [same, seated]
  exact ⟨_, rfl⟩

theorem assertStop_has {c : HoldCause} (stopLine : c ≠ .stopLine) (stopRecovery : c ≠ .stopRecovery)
    (gapNotReady : c ≠ .gapNotReady) (tuning : c ≠ .tuning) (routeHold : c ≠ .routeHold) :
    (assertStop p).feed.holds.has c = p.feed.holds.has c := by
  obtain ⟨_, feed⟩ := assertStop_feed distinct
  rw [feed]
  cases c <;> first | contradiction | rfl

/-! ## The gap axis -/

theorem assertStop_gap : ∃ excursionRun, (assertStop p).gap =
    if p.gap.state = .moving then { p.gap.abandon with excursionRun := excursionRun }
    else { p.gap with excursionRun := excursionRun } := by
  obtain ⟨_, _, _, same⟩ := assertStop_same distinct
  obtain ⟨_, seated⟩ := stopSeated_same p
  rw [same, seated]
  exact ⟨_, rfl⟩

theorem assertStop_gap_moving (moving : p.gap.state = .moving) : (assertStop p).gap.state = .stale ∧
    (assertStop p).gap.target = none ∧ (assertStop p).gap.moveTimer = none ∧ (assertStop p).gap.settle = 0 ∧
    (assertStop p).gap.jackOrder = .halt := by
  obtain ⟨_, gap⟩ := assertStop_gap distinct
  rw [gap, if_pos moving]
  exact ⟨rfl, rfl, rfl, rfl, rfl⟩

theorem assertStop_gap_still (still : p.gap.state ≠ .moving) : (assertStop p).gap.state = p.gap.state ∧
    (assertStop p).gap.target = p.gap.target := by
  obtain ⟨_, gap⟩ := assertStop_gap distinct
  rw [gap, if_neg still]
  exact ⟨rfl, rfl⟩

theorem assertStop_gap_kept : (assertStop p).gap.active = p.gap.active ∧ (assertStop p).gap.staged = p.gap.staged := by
  obtain ⟨_, gap⟩ := assertStop_gap distinct
  rw [gap]
  split <;> exact ⟨rfl, rfl⟩

/-! ## The tables, the outputs and what no block touches -/

theorem assertStop_tables : (assertStop p).hides = (stopTold p).hides ∧ (assertStop p).articles = (stopTold p).articles ∧
    (assertStop p).lines = (stopTold p).lines ∧ (assertStop p).tallies = (stopTold p).tallies ∧
    (assertStop p).port = (stopTold p).port := by
  obtain ⟨_, _, _, same⟩ := assertStop_same distinct
  obtain ⟨_, seated⟩ := stopSeated_same p
  rw [same, seated]
  exact ⟨rfl, rfl, rfl, rfl, rfl⟩

theorem assertStop_eye : (assertStop p).unbound = none ∧
    (assertStop p).eye = ⟨p.eye.inputHigh, if p.eyeDark = true then .discard none else .clear⟩ := by
  obtain ⟨_, _, _, same⟩ := assertStop_same distinct
  obtain ⟨_, seated⟩ := stopSeated_same p
  rw [same, seated]
  exact ⟨rfl, rfl⟩

theorem assertStop_untouched : (assertStop p).nextTicket = p.nextTicket ∧ (assertStop p).settings = p.settings ∧
    (assertStop p).routes = p.routes ∧ (assertStop p).bus.boards = p.bus.boards ∧
    (assertStop p).pressure.stopLevel = true := by
  obtain ⟨_, _, _, same⟩ := assertStop_same distinct
  obtain ⟨_, seated⟩ := stopSeated_same p
  rw [same, seated]
  exact ⟨rfl, rfl, rfl, rfl, rfl⟩

/-! ## The tuning batch -/

theorem assertStop_batch : (assertStop p).lanes = (abortBatch (stopSeated p)).lanes ∧
    (assertStop p).tuning = (abortBatch (stopSeated p)).tuning := by
  obtain ⟨_, _, _, same⟩ := assertStop_same distinct
  rw [same]
  exact ⟨rfl, rfl⟩

end

theorem stopSeated_lanes (p : Part) : (stopSeated p).lanes = p.lanes ∧ (stopSeated p).tuning = p.tuning := by
  obtain ⟨_, seated⟩ := stopSeated_same p
  rw [seated]
  exact ⟨rfl, rfl⟩

end Sys2Proof.Machine
end

section
/-! PROOFS. The rows of the STOP line, both ways (R18, R43, R59, R75, R93, R133, R148, R190). -/

namespace Sys2Proof.Machine

theorem exec_stopAssertion {s : State} (released : s.feed.stopLine = false) :
    exec .stopAssertion s = .next (s.thenWakes (assertStop s.toPart)) := by
  rw [exec_thenArbiter_of_effect (c := .stopAssertion) rfl, takeStopAssertion, if_neg (by rw [released]; nofun)]

theorem exec_stopRelease {s : State} (asserted : s.feed.stopLine = true) :
    exec .stopRelease s = .next (s.thenWakes (releaseStop s.toPart)) := by
  rw [exec_thenArbiter_of_effect (c := .stopRelease) rfl, takeStopRelease, if_pos asserted]

theorem assertStop_batchRunning {p : Part} (distinct : (p.hides.map (·.ticket)).Nodup) :
    (assertStop p).batchRunning = false := by
  obtain ⟨_, tuning⟩ := assertStop_batch distinct
  rw [Part.batchRunning, tuning]
  exact abortBatch_batchRunning (stopSeated p)

theorem assertStop_idle {p : Part} (distinct : (p.hides.map (·.ticket)).Nodup) (idle : p.batchRunning = false) :
    (assertStop p).lanes = p.lanes ∧ (assertStop p).tuning = p.tuning := by
  obtain ⟨lanes, tuning⟩ := assertStop_batch distinct
  obtain ⟨lanes', tuning'⟩ := stopSeated_lanes p
  have none : (stopSeated p).batchRunning = false := by rwa [Part.batchRunning, tuning']
  rw [lanes, tuning, abortBatch_idle none]
  exact ⟨lanes', tuning'⟩

theorem assertStop_record {p : Part} (distinct : (p.hides.map (·.ticket)).Nodup) {b : Batch}
    (record : p.tuning.batch = some b) (running : b.running = true) : ∃ ended : Batch,
    (assertStop p).tuning.batch = some ended ∧ ended.origin = b.origin ∧
    ended.members.map (·.lane) = b.members.map (·.lane) ∧ ∀ m ∈ ended.members, m.phase = .finished := by
  obtain ⟨_, tuning⟩ := assertStop_batch distinct
  obtain ⟨_, tuning'⟩ := stopSeated_lanes p
  obtain ⟨ended, ends, _, origin, members, finished⟩ :=
    abortBatch_record (stopSeated p) b (by rw [tuning', record]) running
  exact ⟨ended, by rw [tuning, ends], origin, members, finished⟩

theorem assertStop_lane_of_finished {p : Part} (distinct : (p.hides.map (·.ticket)).Nodup) {n : LaneNo}
    (finished : ∀ (b : Batch) (m : Member), p.tuning.batch = some b → b.running = true → m ∈ b.members → m.lane = n →
      m.phase = .finished) : (assertStop p).lane n = p.lane n := by
  cases running : p.batchRunning with
  | false => rw [Part.lane, Part.lane, (assertStop_idle distinct running).1]
  | true =>
    obtain ⟨b, record, isRunning⟩ := p.batchRunning_iff.mp running
    obtain ⟨lanes, _⟩ := assertStop_batch distinct
    obtain ⟨lanes', tuning'⟩ := stopSeated_lanes p
    calc (assertStop p).lane n = (abortBatch (stopSeated p)).lane n := by rw [Part.lane, Part.lane, lanes]
      _ = (stopSeated p).lane n :=
        abortBatch_lane_of_finished (by rw [tuning', record]) isRunning fun m => finished b m record isRunning
      _ = p.lane n := by rw [Part.lane, Part.lane, lanes']

theorem assertStop_lane_of_saved {p : Part} (distinct : (p.hides.map (·.ticket)).Nodup) {b : Batch} {m : Member} {v : Saved}
    (record : p.tuning.batch = some b) (running : b.running = true) (once : (b.members.map (·.lane)).Nodup)
    (among : m ∈ b.members) (unfinished : m.phase ≠ .finished) (saved : m.saved = some v) :
    (assertStop p).lane m.lane = (p.lane m.lane).restore v := by
  obtain ⟨lanes, _⟩ := assertStop_batch distinct
  obtain ⟨lanes', tuning'⟩ := stopSeated_lanes p
  calc (assertStop p).lane m.lane = (abortBatch (stopSeated p)).lane m.lane := by rw [Part.lane, Part.lane, lanes]
    _ = ((stopSeated p).lane m.lane).restore v :=
      abortBatch_lane (by rw [tuning', record]) running once among unfinished saved
    _ = _ := by rw [Part.lane, Part.lane, lanes']

end Sys2Proof.Machine

open Sys2Proof Sys2Proof.Machine

/-- Settles O31: the assertion block by block, the records in passage by induction on them. -/
theorem stopLineStopsTheMachine : Obligations.StopLineStopsTheMachine := by
  refine ⟨fun s asserted => exec_thenArbiter_unchanged (c := .stopAssertion) rfl (if_pos asserted), fun s released distinct =>
    ⟨s.thenWakes (assertStop s.toPart), exec_stopAssertion released, ?_⟩, fun h cause p aborted isAborted => ?_,
    fun s released => exec_thenArbiter_unchanged (c := .stopRelease) rfl (if_neg (by rw [released]; nofun)),
    fun s asserted => exec_stopRelease asserted⟩
  · simp only [State.thenWakes_feed, State.thenWakes_hides, State.thenWakes_articles, State.thenWakes_unbound,
      State.thenWakes_nextTicket, State.thenWakes_eye, State.thenWakes_gap, State.thenWakes_lanes, State.thenWakes_tuning,
      State.thenWakes_lane, State.thenWakes_pressure, State.thenWakes_wanted, State.thenWakes_port,
      State.thenWakes_settings, State.thenWakes_routes, State.thenWakes_boards, State.thenWakes_lines,
      State.thenWakes_tallies]
    obtain ⟨_, feed⟩ := assertStop_feed distinct
    obtain ⟨hides, articles, lines, tallies, port⟩ := assertStop_tables distinct
    obtain ⟨unbound, eye⟩ := assertStop_eye distinct
    obtain ⟨active, staged⟩ := assertStop_gap_kept distinct
    obtain ⟨nextTicket, settings, routes, boards, stopLevel⟩ := assertStop_untouched distinct
    obtain ⟨_, told⟩ := stopTold_port s.toPart
    refine ⟨by rw [feed], by rw [feed], ?_, by rw [feed], by rw [feed], by rw [feed], by rw [feed], by rw [feed],
      fun c => assertStop_has distinct, ?_, ?_, unbound, nextTicket, eye, assertStop_gap_moving distinct,
      assertStop_gap_still distinct, active, staged, ?_, assertStop_idle distinct, fun b => assertStop_record distinct,
      fun n => assertStop_lane_of_finished distinct, fun b m v => assertStop_lane_of_saved distinct, stopLevel,
      assertStop_wanted s.toPart, by rw [port, told], by rw [port, told], settings, routes, boards, ?_⟩
    · exact Part.feedEnable_eq_false_of_stopped _ (by rw [State.thenWakes_feed, feed])
    · exact hides.trans (stopTold_hides distinct)
    · exact articles.trans (stopTold_articles s.toPart)
    · rw [Part.batchRunning, State.thenWakes_tuning]
      exact assertStop_batchRunning distinct
    · rintro _ rfl
      exact ⟨lines, tallies, port, by rw [feed]; rfl⟩
  · subst isAborted
    exact ⟨fun other => abortRecord_of_not_splitting other cause p, fun splitting => abortRecord_of_splitting splitting cause p⟩

end

section
/-! PROOFS. MACHINE RESET, block by block (R21, R45, R60, R77, R96, R120, R138, R152, R170, R184, R195). -/

namespace Sys2Proof.Machine

/-! ## The blocks before the bus -/

/-- The part as every block but the bus has reset (R195). -/
def resetBlocks (p : Part) : Part := seatEye (resetTables (resetLanes p))

/-- The part as the bus has reset too. -/
def resetCleared (p : Part) : Part := resetBus (resetBlocks p)

/-- The part before the arbiter test. -/
def resetStarted (p : Part) : Part := startTest (takeStopLevel (resetCleared p).feed.stopLine (resetCleared p))

theorem machineReset_eq (p : Part) : machineReset p = (arbiterTest (resetStarted p), answerOk []) := rfl

theorem resetLanes_shape (p : Part) : ∃ hold, resetLanes p = { p with
    lanes := mapAll Lane.machineReset (abortBatch p).lanes
    tuning := { (abortBatch p).tuning with lanes := mapAll LaneTuning.withdrawRequest (abortBatch p).tuning.lanes }
    feed := { p.feed with holds := { p.feed.holds with tuning := hold } } } := by
  obtain ⟨hold, ended⟩ := abortBatch_shape p
  unfold resetLanes
  generalize abortBatch p = q at ended ⊢
  rw [ended]
  exact ⟨hold, rfl⟩

theorem resetBlocks_eq (p : Part) : resetBlocks p = { p with
    articles := resetArticles p.articles
    hides := []
    nextTicket := 1
    unbound := none
    eye := ⟨p.eye.inputHigh, if p.eyeDark = true then .discard none else .clear⟩
    feed := p.feed.machineReset
    gap := p.gap.machineReset
    lanes := mapAll Lane.machineReset (abortBatch p).lanes
    tuning := { (abortBatch p).tuning with lanes := mapAll LaneTuning.withdrawRequest (abortBatch p).tuning.lanes }
    lines := mapAll Line.clear p.lines
    port := { p.port with attention := AttentionSet.restartedAlone } } := by
  obtain ⟨hold, lanes⟩ := resetLanes_shape p
  have dark : (resetTables (resetLanes p)).eyeDark = p.eyeDark := by
    rw [Part.eyeDark_eq, Part.eyeDark_eq, resetTables, lanes]
  rw [resetBlocks, seatEye_eq, dark, resetTables, lanes]
  rfl

/-! ## The bus -/

theorem drainTest_onlyBus (p : Part) : ∃ bus : Bus, drainTest p = { p with bus := { bus with
    drives := p.bus.drives, boards := p.bus.boards, pointer := p.bus.pointer } } := by
  unfold drainTest
  split
  · split
    · exact ⟨(releaseBus p).bus, by rw [releaseBus_eq]⟩
    · exact ⟨p.bus, rfl⟩
  · exact ⟨p.bus, rfl⟩

theorem resetMaster_onlyBus (p : Part) : ∃ bus : Bus, resetMaster p = { p with bus := { bus with
    drives := p.bus.drives, boards := p.bus.boards, pointer := p.bus.pointer } } := by
  have drains : ∀ b, ∃ bus : Bus, drainTest (p.setBus { p.bus with master := .draining b, resetDrain := true }) =
      { p with bus := { bus with drives := p.bus.drives, boards := p.bus.boards, pointer := p.bus.pointer } } := fun b =>
    drainTest_onlyBus (p.setBus { p.bus with master := .draining b, resetDrain := true })
  unfold resetMaster
  split
  · exact ⟨p.bus, rfl⟩
  · exact ⟨p.bus, rfl⟩
  · exact ⟨(releaseBus p).bus, by rw [releaseBus_eq]⟩
  · exact drains _
  · exact drains _

theorem resetMaster_idle {p : Part} (idle : p.bus.master = .idle) : resetMaster p = p := by
  unfold resetMaster
  rw [idle]

theorem resetMaster_releasing {p : Part} (releasing : p.bus.master = .releasing) : resetMaster p = p := by
  unfold resetMaster
  rw [releasing]

theorem resetMaster_selecting {p : Part} {b : BoardNo} (selecting : p.bus.master = .selecting b) :
    resetMaster p = releaseBus p := by
  unfold resetMaster
  rw [selecting]

theorem resetMaster_inSession {p : Part} {b : BoardNo} (inside : p.bus.master = .opened b ∨ p.bus.master = .draining b) :
    resetMaster p = drainTest (p.setBus { p.bus with master := .draining b, resetDrain := true }) := by
  unfold resetMaster
  rcases inside with opened | draining
  · rw [opened]
  · rw [draining]

theorem resetMaster_drains {p : Part} {b : BoardNo} (inside : p.bus.master = .opened b ∨ p.bus.master = .draining b)
    (due : p.bus.dueNext ≠ none ∨ p.bus.dueAfter ≠ none) :
    resetMaster p = p.setBus { p.bus with master := .draining b, resetDrain := true } := by
  exact (resetMaster_inSession inside).trans (drainTest_goes_on due)

theorem resetMaster_ends {p : Part} {b : BoardNo} (inside : p.bus.master = .opened b ∨ p.bus.master = .draining b)
    (next : p.bus.dueNext = none) (after : p.bus.dueAfter = none) :
    resetMaster p = releaseBus (p.setBus { p.bus with master := .draining b, resetDrain := true }) := by
  exact (resetMaster_inSession inside).trans (drainTest_ends rfl next after)

/-- A reset leaves no master IDLE that was not (R170). -/
theorem resetMaster_busy {p : Part} (busy : p.bus.master ≠ .idle) : (resetMaster p).bus.master ≠ .idle := by
  have inSession : ∀ b, p.bus.master = .opened b ∨ p.bus.master = .draining b → (resetMaster p).bus.master ≠ .idle := by
    intro b inside
    by_cases due : p.bus.dueNext ≠ none ∨ p.bus.dueAfter ≠ none
    · rw [resetMaster_drains inside due]
      exact MasterState.noConfusion
    · rw [not_or, not_not, not_not] at due
      rw [resetMaster_ends inside due.1 due.2]
      exact MasterState.noConfusion
  cases master : p.bus.master with
  | idle => exact absurd master busy
  | selecting b =>
    rw [resetMaster_selecting master]
    exact MasterState.noConfusion
  | opened b => exact inSession b (.inl master)
  | draining b => exact inSession b (.inr master)
  | releasing => rwa [resetMaster_releasing master]

end Sys2Proof.Machine
end

section
/-! PROOFS. What MACHINE RESET leaves before the arbiter test (R96, R152, R170). -/

namespace Sys2Proof.Machine

/-! ## The drives and boards -/

/-- The drive records as the bus resets them (R170). -/
def resetDrives (p : Part) : Vector Drive 32 :=
  Vector.ofFn fun n : LaneNo => (p.drive n).machineReset (p.lane n).driven

theorem resetDrives_get (p : Part) (n : LaneNo) : (resetDrives p)[n.val] = (p.drive n).machineReset (p.lane n).driven :=
  Vector.getElem_ofFn n.isLt

/-- The part as the boards and the drives have reset, before the master. -/
def resetBoards (p : Part) : Part := (resetBlocks p).setBus { (resetBlocks p).bus with
  boards := mapAll BoardState.machineReset (resetBlocks p).bus.boards
  drives := resetDrives (resetBlocks p) }

theorem resetCleared_eq (p : Part) : resetCleared p = resetMaster (resetBoards p) := rfl

theorem resetBoards_eq (p : Part) : resetBoards p = { resetBlocks p with bus := { p.bus with
    boards := mapAll BoardState.machineReset p.bus.boards
    drives := resetDrives (resetBlocks p) } } := by
  have bus : (resetBlocks p).bus = p.bus := by rw [resetBlocks_eq]
  rw [resetBoards, bus]
  rfl

/-- The part as the pressure unit has taken the level, before the start test. -/
def resetLevelled (p : Part) : Part := takeStopLevel p.feed.stopLine (resetCleared p)

theorem resetCleared_onlyBus (p : Part) : ∃ bus : Bus, resetCleared p = { resetBlocks p with bus := { bus with
    boards := mapAll BoardState.machineReset p.bus.boards
    drives := resetDrives (resetBlocks p)
    pointer := p.bus.pointer } } := by
  obtain ⟨bus, same⟩ := resetMaster_onlyBus (resetBoards p)
  rw [resetCleared_eq, same, resetBoards_eq]
  generalize mapAll BoardState.machineReset p.bus.boards = boards
  generalize resetDrives (resetBlocks p) = drives
  generalize resetBlocks p = q
  exact ⟨bus, rfl⟩

theorem resetCleared_stopLine (p : Part) : (resetCleared p).feed.stopLine = p.feed.stopLine := by
  obtain ⟨_, same⟩ := resetCleared_onlyBus p
  rw [same, resetBlocks_eq]
  rfl

theorem resetStarted_eq (p : Part) : resetStarted p = startTest (resetLevelled p) := by
  rw [resetStarted, resetCleared_stopLine, resetLevelled]

theorem resetLevelled_same (p : Part) : ∃ (wanted : Vector Nat 32) (drives : Vector Drive 32), resetLevelled p = { resetCleared p with
    pressure := ⟨wanted, p.feed.stopLine⟩
    bus := { (resetCleared p).bus with drives := drives } } := by
  obtain ⟨wanted, drives, same⟩ := takeStopLevel_same p.feed.stopLine (resetCleared p)
  exact ⟨wanted, drives, same⟩

/-- All but the bus, before the start test (R195). -/
theorem resetLevelled_blocks (p : Part) : ∃ wanted bus, resetLevelled p = { resetBlocks p with
    pressure := ⟨wanted, p.feed.stopLine⟩
    bus := bus } := by
  obtain ⟨_, _, levelled⟩ := resetLevelled_same p
  obtain ⟨_, cleared⟩ := resetCleared_onlyBus p
  rw [levelled, cleared]
  generalize resetBlocks p = q
  exact ⟨_, _, rfl⟩

/-! ## The gap axis -/

theorem GapAxis.machineReset_kept (g : GapAxis) : g.machineReset.active = g.active ∧ g.machineReset.staged = g.staged ∧
    g.machineReset.lastPair = g.lastPair ∧ g.machineReset.excursionRun = false ∧ g.machineReset.applyPending = false ∧
    g.machineReset.jackOrder = (if g.state = .moving then .halt else g.jackOrder) ∧
    g.machineReset.jackOrders = g.jackOrders + (if g.state = .moving then 1 else 0) := by
  unfold GapAxis.machineReset
  by_cases moving : g.state = .moving
  · rw [if_pos moving, if_pos moving, if_pos moving]
    exact ⟨rfl, rfl, rfl, rfl, rfl, rfl, rfl⟩
  · rw [if_neg moving, if_neg moving, if_neg moving]
    exact ⟨rfl, rfl, rfl, rfl, rfl, rfl, rfl⟩

/-- The gap the axis moves to after a MACHINE RESET (R96). -/
theorem resetLevelled_startTarget? (p : Part) (g : GapTol) : (resetLevelled p).startTarget? = some g ↔
    p.settings.gapMethod = .atClear ∧ p.feed.stopLine = false ∧ p.gap.staged = some g := by
  obtain ⟨state, _⟩ := p.gap.machineReset_eq
  obtain ⟨_, staged, _⟩ := p.gap.machineReset_kept
  obtain ⟨_, _, blocks⟩ := resetLevelled_blocks p
  have clear : (resetLevelled p).knifeOccupied = p.feed.stopLine := by
    rw [blocks, resetBlocks_eq]
    rfl
  have axis : (resetLevelled p).gap = p.gap.machineReset := by rw [blocks, resetBlocks_eq]
  have settings : (resetLevelled p).settings = p.settings := by rw [blocks, resetBlocks_eq]
  rw [Part.startTarget?_eq_some_iff, clear, axis, settings, state, staged]
  simp

theorem startMove_of_no_hides {p : Part} (empty : p.hides = []) (g : GapTol) : startMove g p = { p with
    gap := { p.gap with
      state := .moving
      target := some g
      settle := 0
      moveTimer := some (p.settings.gapMoveTimeout * 10000)
      jackOrder := .target g.gap
      jackOrders := p.gap.jackOrders + 1 }
    feed := { p.feed with holds := { p.feed.holds with gapNotReady := false } } } := by
  refine (notReadyTest_of_no_entering ?_).trans rfl
  intro h member
  rw [Part.setGap_hides, empty] at member
  exact absurd member List.not_mem_nil

theorem resetLevelled_hides (p : Part) : (resetLevelled p).hides = [] := by
  obtain ⟨_, _, blocks⟩ := resetLevelled_blocks p
  rw [blocks, resetBlocks_eq]

/-- The start test changes the axis record alone, which moves to a staged gap or stays (R83, R96). -/
theorem resetStarted_onlyGap (p : Part) : resetStarted p = { resetLevelled p with gap := (resetStarted p).gap } := by
  have notHeld : (resetLevelled p).feed.holds.gapNotReady = false := by
    obtain ⟨_, _, blocks⟩ := resetLevelled_blocks p
    rw [blocks, resetBlocks_eq]
    rfl
  rw [resetStarted_eq]
  rcases startTest_cases (resetLevelled p) with same | ⟨g, moves⟩
  · rw [same]
  · rw [moves, startMove_of_no_hides (resetLevelled_hides p)]
    generalize resetLevelled p = q at notHeld
    rw [← notHeld]

end Sys2Proof.Machine
end

section
/-! PROOFS. MACHINE RESET, field by field before the arbiter test (R96, R120, R133, R152, R170). -/

namespace Sys2Proof.Machine

/-! ## The gap axis -/

theorem resetLevelled_gap (p : Part) : (resetLevelled p).gap = p.gap.machineReset := by
  obtain ⟨_, _, blocks⟩ := resetLevelled_blocks p
  rw [blocks, resetBlocks_eq]

theorem resetLevelled_settings (p : Part) : (resetLevelled p).settings = p.settings := by
  obtain ⟨_, _, blocks⟩ := resetLevelled_blocks p
  rw [blocks, resetBlocks_eq]

theorem resetStarted_gap_moves {p : Part} {g : GapTol} (method : p.settings.gapMethod = .atClear)
    (released : p.feed.stopLine = false) (staged : p.gap.staged = some g) : (resetStarted p).gap =
      { p.gap.machineReset with
        state := .moving
        target := some g
        settle := 0
        moveTimer := some (p.settings.gapMoveTimeout * 10000)
        jackOrder := .target g.gap
        jackOrders := p.gap.machineReset.jackOrders + 1 } := by
  have target := (resetLevelled_startTarget? p g).mpr ⟨method, released, staged⟩
  rw [resetStarted_eq, startTest, target]
  refine (congrArg (·.gap) (startMove_of_no_hides (resetLevelled_hides p) g)).trans ?_
  rw [resetLevelled_gap, resetLevelled_settings]

theorem resetStarted_gap_stays {p : Part}
    (still : ¬(p.settings.gapMethod = .atClear ∧ p.feed.stopLine = false ∧ p.gap.staged.isSome = true)) :
    (resetStarted p).gap = p.gap.machineReset := by
  have none : (resetLevelled p).startTarget? = .none := by
    refine Option.eq_none_iff_forall_ne_some.mpr fun g target => still ?_
    obtain ⟨method, released, staged⟩ := (resetLevelled_startTarget? p g).mp target
    exact ⟨method, released, Option.isSome_iff_exists.mpr ⟨g, staged⟩⟩
  rw [resetStarted_eq, startTest, none]
  exact resetLevelled_gap p

theorem resetStarted_gap_kept (p : Part) : (resetStarted p).gap.active = p.gap.active ∧
    (resetStarted p).gap.staged = p.gap.staged ∧ (resetStarted p).gap.lastPair = p.gap.lastPair ∧
    (resetStarted p).gap.excursionRun = false ∧ (resetStarted p).gap.applyPending = false ∧
    (resetStarted p).gap.settle = 0 := by
  obtain ⟨_, _, settle, _⟩ := p.gap.machineReset_eq
  obtain ⟨active, staged, lastPair, excursionRun, applyPending, _⟩ := p.gap.machineReset_kept
  by_cases moves : p.settings.gapMethod = .atClear ∧ p.feed.stopLine = false ∧ p.gap.staged.isSome = true
  · obtain ⟨method, released, isStaged⟩ := moves
    obtain ⟨g, isGap⟩ := Option.isSome_iff_exists.mp isStaged
    rw [resetStarted_gap_moves method released isGap]
    exact ⟨active, staged, lastPair, excursionRun, applyPending, rfl⟩
  · rw [resetStarted_gap_stays moves]
    exact ⟨active, staged, lastPair, excursionRun, applyPending, settle⟩

/-! ## What the bus, the pressures and the axis do not hold -/

theorem resetStarted_blocks (p : Part) : ∃ wanted gap bus, resetStarted p = { resetBlocks p with
    pressure := ⟨wanted, p.feed.stopLine⟩
    gap := gap
    bus := bus } := by
  obtain ⟨_, _, blocks⟩ := resetLevelled_blocks p
  have same := resetStarted_onlyGap p
  rw [blocks] at same
  generalize (resetStarted p).gap = gap at same
  rw [same]
  generalize resetBlocks p = q
  exact ⟨_, _, _, rfl⟩

/-! ## The lanes -/

theorem Lane.restore_restore (l : Lane) (v w : Saved) : (l.restore v).restore w = l.restore w := rfl

theorem restoreMember_lane_cases (m : Member) (p : Part) (n : LaneNo) :
    (restoreMember p m).lane n = p.lane n ∨ ∃ v, (restoreMember p m).lane n = (p.lane n).restore v := by
  by_cases same : m.lane = n
  · subst same
    cases saved : m.saved with
    | none =>
      refine .inl ?_
      unfold restoreMember
      rw [saved]
      rfl
    | some v => exact .inr ⟨v, restoreMember_lane_same saved p⟩
  · exact .inl (restoreMember_lane_other same p)

theorem restoreMembers_lane_cases (n : LaneNo) : ∀ (members : List Member) (p : Part),
    (members.foldl restoreMember p).lane n = p.lane n ∨
      ∃ v, (members.foldl restoreMember p).lane n = (p.lane n).restore v
  | [], _ => .inl rfl
  | m :: members, p => by
    rw [List.foldl_cons]
    rcases restoreMembers_lane_cases n members (restoreMember p m) with rest | ⟨w, rest⟩ <;>
      rcases restoreMember_lane_cases m p n with first | ⟨v, first⟩
    · exact .inl (rest.trans first)
    · exact .inr ⟨v, rest.trans first⟩
    · exact .inr ⟨w, by rw [rest, first]⟩
    · exact .inr ⟨w, by rw [rest, first, Lane.restore_restore]⟩

theorem abortBatch_lane_cases (p : Part) (n : LaneNo) :
    (abortBatch p).lane n = p.lane n ∨ ∃ v, (abortBatch p).lane n = (p.lane n).restore v := by
  cases running : p.batchRunning with
  | false => exact .inl (by rw [abortBatch_idle running])
  | true =>
    obtain ⟨b, record, isRunning⟩ := p.batchRunning_iff.mp running
    rw [abortBatch_running record isRunning]
    exact restoreMembers_lane_cases n p.unfinished p

/-- An abort takes back what a batch tunes and nothing else a lane reads (R133). -/
theorem abortBatch_lane_kept (p : Part) (n : LaneNo) : ((abortBatch p).lane n).service = (p.lane n).service ∧
    ((abortBatch p).lane n).settings = (p.lane n).settings ∧ ((abortBatch p).lane n).lastRaw = (p.lane n).lastRaw ∧
    ((abortBatch p).lane n).lastConditioned = (p.lane n).lastConditioned := by
  rcases abortBatch_lane_cases p n with same | ⟨v, restored⟩
  · rw [same]
    exact ⟨rfl, rfl, rfl, rfl⟩
  · rw [restored]
    exact ⟨rfl, rfl, rfl, rfl⟩

theorem abortBatch_tuning_lanes (p : Part) : (abortBatch p).tuning.lanes = p.tuning.lanes := by
  cases running : p.batchRunning with
  | false => rw [abortBatch_idle running]
  | true =>
    obtain ⟨b, record, isRunning⟩ := p.batchRunning_iff.mp running
    obtain ⟨ended, ends, _⟩ := abortBatch_record p b record isRunning
    rw [abortBatch_same record isRunning ends]

theorem resetBlocks_lane (p : Part) (n : LaneNo) : (resetBlocks p).lane n = ((abortBatch p).lane n).machineReset := by
  rw [Part.lane, resetBlocks_eq]
  exact getElem_mapAll _ _ _ _

theorem resetBlocks_driven (p : Part) (n : LaneNo) : ((resetBlocks p).lane n).driven = (p.lane n).driven := by
  obtain ⟨service, _⟩ := abortBatch_lane_kept p n
  rw [resetBlocks_lane, Lane.driven, Lane.driven, ← service]
  rfl

theorem resetStarted_lane (p : Part) (n : LaneNo) : (resetStarted p).lane n = ((abortBatch p).lane n).machineReset := by
  obtain ⟨_, _, _, blocks⟩ := resetStarted_blocks p
  have lanes : (resetStarted p).lanes = (resetBlocks p).lanes := by rw [blocks]
  rw [← resetBlocks_lane, Part.lane, Part.lane, lanes]

theorem resetStarted_laneTuning (p : Part) (n : LaneNo) :
    (resetStarted p).laneTuning n = ⟨(p.laneTuning n).settings, false, none⟩ := by
  obtain ⟨_, _, _, blocks⟩ := resetStarted_blocks p
  rw [Part.laneTuning, blocks, resetBlocks_eq]
  refine (getElem_mapAll _ _ _ _).trans ?_
  rw [abortBatch_tuning_lanes]
  rfl

theorem resetStarted_batch (p : Part) : (resetStarted p).tuning.batch = (abortBatch p).tuning.batch := by
  obtain ⟨_, _, _, blocks⟩ := resetStarted_blocks p
  rw [blocks, resetBlocks_eq]

/-! ## The pressures -/

/-- Without a record on the knife line a lane is idle or parked (R140). -/
theorem Part.wanted_without_splitting {p : Part} (decided : wantedIsDecided p) (none : p.splitting? = none) (n : LaneNo) :
    p.wanted n = if p.pressure.stopLevel = false ∧ (p.lane n).service = .inService ∧ (p.lane n).tune = .tuned
      then p.settings.idlePressure else p.settings.parkPressure := by
  rw [Part.wanted_of_decided decided n]
  by_cases stop : p.pressure.stopLevel = false
  · by_cases seeing : (p.lane n).service = .inService ∧ (p.lane n).tune = .tuned
    · rw [if_pos ⟨stop, seeing⟩, p.pressureFor_of_idle _ n stop ((Lane.seeing_iff _).mpr seeing) none]
    · rw [if_neg fun both => seeing both.2, p.pressureFor_of_blind _ n
        (Bool.eq_false_iff.mpr fun sees => seeing ((Lane.seeing_iff _).mp sees))]
  · rw [if_neg fun both => stop both.1, p.pressureFor_of_stop _ n (Bool.not_eq_false _ ▸ stop)]

theorem resetLevelled_wanted (p : Part) (n : LaneNo) : (resetLevelled p).wanted n =
    if p.feed.stopLine = false ∧ ((resetLevelled p).lane n).service = .inService ∧
        ((resetLevelled p).lane n).tune = .tuned
      then p.settings.idlePressure else p.settings.parkPressure := by
  obtain ⟨_, _, blocks⟩ := resetLevelled_blocks p
  have decided : wantedIsDecided (resetLevelled p) := takeStopLevel_decided _ _
  have level : (resetLevelled p).pressure.stopLevel = p.feed.stopLine := by rw [blocks]
  have idle : (resetLevelled p).splitting? = none := by
    rw [Part.splitting?, resetLevelled_hides]
    rfl
  rw [Part.wanted_without_splitting decided idle n, level, resetLevelled_settings]

end Sys2Proof.Machine
end

section
/-! PROOFS. The bus after MACHINE RESET, before and after the arbiter test (R158, R164, R170). -/

namespace Sys2Proof.Machine

/-! ## The drives -/

theorem Drive.machineReset_inFlight {d : Drive} {v : Nat} (flying : d.state = .inFlight v) (driven : Bool) :
    d.machineReset driven = d := by
  rw [Drive.machineReset, flying]

theorem Drive.machineReset_driven {d : Drive} (grounded : ∀ v, d.state ≠ .inFlight v) :
    d.machineReset true = ⟨.waiting, d.applied, 0⟩ := by
  rw [Drive.machineReset]
  cases state : d.state with
  | inFlight v => exact absurd state (grounded v)
  | settled => rfl
  | waiting => rfl

theorem Drive.machineReset_undriven (d : Drive) : d.machineReset false = d := by
  rw [Drive.machineReset]
  cases d.state <;> rfl

theorem resetStarted_bus_eq (p : Part) : (resetStarted p).bus = (resetLevelled p).bus := by
  rw [resetStarted_eq, startTest_bus]

theorem resetCleared_drive (p : Part) (n : LaneNo) :
    (resetCleared p).drive n = (p.drive n).machineReset (p.lane n).driven := by
  obtain ⟨_, cleared⟩ := resetCleared_onlyBus p
  have drives : (resetCleared p).bus.drives = resetDrives (resetBlocks p) := by rw [cleared]
  have kept : (resetBlocks p).bus = p.bus := by rw [resetBlocks_eq]
  rw [Part.drive, drives, resetDrives_get, resetBlocks_driven, Part.drive, Part.drive, kept]

/-- A recompute hands a new wanted pressure to a settled drive alone (R145, R156). -/
theorem resetStarted_drive (p : Part) (n : LaneNo) :
    (resetStarted p).drive n = (p.drive n).machineReset (p.lane n).driven ∨
      (p.drive n).machineReset (p.lane n).driven = { (p.drive n).machineReset (p.lane n).driven with state := .settled } ∧
      (resetStarted p).drive n = { (p.drive n).machineReset (p.lane n).driven with state := .waiting } := by
  have drive : (resetStarted p).drive n = (resetLevelled p).drive n := by
    rw [Part.drive, Part.drive, resetStarted_bus_eq]
  have before : ((resetCleared p).setPressure { (resetCleared p).pressure with stopLevel := p.feed.stopLine }).drive n =
      (resetCleared p).drive n := rfl
  rw [drive, resetLevelled, takeStopLevel, recompute_drive, before, resetCleared_drive]
  generalize (p.drive n).machineReset (p.lane n).driven = d
  split
  · next handed =>
    obtain ⟨_, settled⟩ := handed
    exact .inr ⟨by rw [← settled], rfl⟩
  · exact .inl rfl

theorem resetStarted_drive_of_unsettled {p : Part} {n : LaneNo} {d : Drive}
    (resets : (p.drive n).machineReset (p.lane n).driven = d) (unsettled : d.state ≠ .settled) :
    (resetStarted p).drive n = d := by
  subst resets
  rcases resetStarted_drive p n with same | ⟨settled, _⟩
  · exact same
  · exact absurd (congrArg Drive.state settled) unsettled

theorem resetStarted_drive_undriven {p : Part} {n : LaneNo} (undriven : (p.lane n).driven = false) :
    ((resetStarted p).drive n).applied = (p.drive n).applied ∧ ((resetStarted p).drive n).retry = (p.drive n).retry := by
  have same := undriven ▸ resetStarted_drive p n
  rw [Drive.machineReset_undriven] at same
  rcases same with same | ⟨_, waits⟩
  · rw [same]
    exact ⟨rfl, rfl⟩
  · rw [waits]
    exact ⟨rfl, rfl⟩

theorem Lane.driven_iff (l : Lane) : l.driven = true ↔ l.service ≠ .faulted .drive ∧ l.service ≠ .faulted .board := by
  simp only [Lane.driven, Bool.not_eq_true', Bool.or_eq_false_iff, beq_eq_false_iff_ne]

/-! ## The boards and the session -/

theorem resetStarted_session (p : Part) : ∃ drives : Vector Drive 32,
    (resetStarted p).bus = { (resetMaster (resetBoards p)).bus with drives := drives } := by
  obtain ⟨_, drives, levelled⟩ := resetLevelled_same p
  rw [resetStarted_bus_eq, levelled, resetCleared_eq]
  exact ⟨drives, rfl⟩

theorem resetStarted_cleared (p : Part) : (resetStarted p).bus.boards = (resetCleared p).bus.boards ∧
    (resetStarted p).bus.pointer = (resetCleared p).bus.pointer := by
  obtain ⟨_, session⟩ := resetStarted_session p
  rw [session, resetCleared_eq]
  exact ⟨rfl, rfl⟩

theorem resetStarted_boards (p : Part) (b : BoardNo) :
    (resetStarted p).bus.boards[b.val] = (p.bus.boards[b.val]).machineReset := by
  obtain ⟨same, _⟩ := resetStarted_cleared p
  obtain ⟨_, cleared⟩ := resetCleared_onlyBus p
  have boards : (resetStarted p).bus.boards = mapAll BoardState.machineReset p.bus.boards := by
    rw [same, cleared]
  rw [boards]
  exact getElem_mapAll _ _ _ _

theorem resetBoards_session (p : Part) : ∃ (boards : Vector BoardState 4) (drives : Vector Drive 32),
    (resetBoards p).bus = { p.bus with boards := boards, drives := drives } ∧ (resetBoards p).settings = p.settings := by
  have settings : (resetBoards p).settings = p.settings := by rw [resetBoards_eq, resetBlocks_eq]
  refine ⟨mapAll BoardState.machineReset p.bus.boards, resetDrives (resetBlocks p), ?_, settings⟩
  rw [resetBoards_eq]

theorem resetBoards_master (p : Part) : (resetBoards p).bus.master = p.bus.master := by
  obtain ⟨_, _, bus, _⟩ := resetBoards_session p
  rw [bus]

theorem resetStarted_pointer (p : Part) : (resetStarted p).bus.pointer = p.bus.pointer := by
  obtain ⟨_, same⟩ := resetStarted_cleared p
  obtain ⟨_, cleared⟩ := resetCleared_onlyBus p
  rw [same, cleared]

theorem resetStarted_busy {p : Part} (busy : p.bus.master ≠ .idle) : (resetStarted p).bus.master ≠ .idle := by
  obtain ⟨_, session⟩ := resetStarted_session p
  rw [session]
  exact resetMaster_busy (by rwa [resetBoards_master])

theorem resetStarted_idle {p : Part} (idle : p.bus.master = .idle) : (resetStarted p).bus.master = .idle := by
  obtain ⟨_, session⟩ := resetStarted_session p
  have isIdle : (resetBoards p).bus.master = .idle := (resetBoards_master p).trans idle
  rw [resetMaster_idle isIdle] at session
  generalize resetBoards p = q at session isIdle
  rw [session]
  exact isIdle

theorem resetStarted_releasing {p : Part} (releasing : p.bus.master = .releasing) :
    (resetStarted p).bus.master = .releasing ∧ (resetStarted p).bus.releaseTimer = p.bus.releaseTimer := by
  obtain ⟨_, session⟩ := resetStarted_session p
  obtain ⟨_, _, bus, _⟩ := resetBoards_session p
  rw [session, resetMaster_releasing ((resetBoards_master p).trans releasing), bus]
  exact ⟨releasing, rfl⟩

theorem resetStarted_selecting {p : Part} {b : BoardNo} (selecting : p.bus.master = .selecting b) :
    (resetStarted p).bus.master = .releasing ∧ (resetStarted p).bus.selectTimer = none ∧
      (resetStarted p).bus.releaseTimer = some p.settings.releaseInterval := by
  obtain ⟨_, session⟩ := resetStarted_session p
  obtain ⟨_, _, _, settings⟩ := resetBoards_session p
  rw [session, resetMaster_selecting ((resetBoards_master p).trans selecting), releaseBus_eq, settings]
  exact ⟨rfl, rfl, rfl⟩

section
variable {p : Part} {b : BoardNo} (inside : p.bus.master = .opened b ∨ p.bus.master = .draining b)
include inside

theorem resetStarted_drains (due : p.bus.dueNext.isSome = true ∨ p.bus.dueAfter.isSome = true) :
    (resetStarted p).bus.master = .draining b ∧ (resetStarted p).bus.resetDrain = true ∧
      (resetStarted p).bus.dueNext = p.bus.dueNext ∧ (resetStarted p).bus.dueAfter = p.bus.dueAfter := by
  obtain ⟨_, session⟩ := resetStarted_session p
  obtain ⟨_, _, bus, _⟩ := resetBoards_session p
  have isDue : (resetBoards p).bus.dueNext ≠ none ∨ (resetBoards p).bus.dueAfter ≠ none := by
    rw [bus]
    exact due.imp Option.isSome_iff_ne_none.mp Option.isSome_iff_ne_none.mp
  rw [session, resetMaster_drains (b := b) (by rwa [resetBoards_master]) isDue, Part.setBus_bus, bus]
  exact ⟨rfl, rfl, rfl, rfl⟩

theorem resetStarted_ends (next : p.bus.dueNext = none) (after : p.bus.dueAfter = none) :
    (resetStarted p).bus.master = .releasing ∧ (resetStarted p).bus.resetDrain = false ∧
      (resetStarted p).bus.releaseTimer = some p.settings.releaseInterval := by
  obtain ⟨_, session⟩ := resetStarted_session p
  obtain ⟨_, _, bus, settings⟩ := resetBoards_session p
  rw [session, resetMaster_ends (b := b) (by rwa [resetBoards_master]) (by rwa [bus]) (by rwa [bus]), releaseBus_eq,
    Part.setBus_settings, settings]
  exact ⟨rfl, rfl, rfl⟩

end

end Sys2Proof.Machine
end

section
/-! PROOFS. The row of MACHINE RESET: what it keeps and what it clears (R195). -/

namespace Sys2Proof.Machine

/-- The part MACHINE RESET leaves (R195). -/
@[irreducible] def resetDone (p : Part) : Part := arbiterTest (resetStarted p)

theorem exec_machineReset {s : State} (accept : s.port.acceptIn = none) :
    exec .machineReset s = .next (s.answers Header.machineReset .ok [] (resetDone s.toPart)) :=
  exec_command (c := .machineReset) (a := answerOk []) rfl accept (by rw [machineReset_eq, resetDone])

theorem resetDone_blocks (p : Part) : ∃ wanted bus, resetDone p = { resetBlocks p with
    pressure := ⟨wanted, p.feed.stopLine⟩
    gap := (resetStarted p).gap
    bus := bus } := by
  obtain ⟨wanted, gap, bus, blocks⟩ := resetStarted_blocks p
  have arbiter := arbiterTest_eq (resetStarted p)
  rw [resetDone, arbiter]
  generalize (arbiterTest (resetStarted p)).bus = after
  generalize resetStarted p = q at blocks
  rw [blocks]
  generalize resetBlocks p = z
  exact ⟨_, _, rfl⟩

/-! ## What the blocks leave -/

theorem resetDone_tables (p : Part) : (resetDone p).hides = [] ∧ (resetDone p).nextTicket = 1 ∧
    (resetDone p).unbound = none ∧ (resetDone p).articles = resetArticles p.articles ∧
    (resetDone p).eye = ⟨p.eye.inputHigh, if p.eyeDark = true then .discard none else .clear⟩ ∧
    (resetDone p).encoder = p.encoder ∧ (resetDone p).feed = p.feed.machineReset ∧
    (resetDone p).pressure.stopLevel = p.feed.stopLine := by
  obtain ⟨_, _, done⟩ := resetDone_blocks p
  rw [done, resetBlocks_eq]
  exact ⟨rfl, rfl, rfl, rfl, rfl, rfl, rfl, rfl⟩

theorem resetDone_kept (p : Part) : (resetDone p).routes = p.routes ∧ (resetDone p).tallies = p.tallies ∧
    (resetDone p).settings = p.settings ∧ (resetDone p).scanPeriod = p.scanPeriod ∧
    (resetDone p).port = { p.port with attention := AttentionSet.restartedAlone } := by
  obtain ⟨_, _, done⟩ := resetDone_blocks p
  rw [done, resetBlocks_eq]
  exact ⟨rfl, rfl, rfl, rfl, rfl⟩

theorem resetDone_line (p : Part) (i : Fin 4) :
    (resetDone p).line i = { p.line i with latched := false, pulse := none } := by
  obtain ⟨_, _, done⟩ := resetDone_blocks p
  have lines : (resetDone p).lines = mapAll Line.clear p.lines := by rw [done, resetBlocks_eq]
  rw [Part.line, lines]
  exact getElem_mapAll _ _ _ _

theorem resetDone_gap (p : Part) : (resetDone p).gap = (resetStarted p).gap := by
  rw [resetDone, arbiterTest_gap]

theorem resetDone_gap_kept (p : Part) : (resetDone p).gap.active = p.gap.active ∧
    (resetDone p).gap.staged = p.gap.staged ∧ (resetDone p).gap.lastPair = p.gap.lastPair ∧
    (resetDone p).gap.excursionRun = false ∧ (resetDone p).gap.applyPending = false ∧ (resetDone p).gap.settle = 0 := by
  rw [resetDone_gap]
  exact resetStarted_gap_kept p

theorem resetDone_gap_moves {p : Part} {g : GapTol} (method : p.settings.gapMethod = .atClear)
    (released : p.feed.stopLine = false) (staged : p.gap.staged = some g) : (resetDone p).gap.state = .moving ∧
      (resetDone p).gap.target = some g ∧
      (resetDone p).gap.moveTimer = some (p.settings.gapMoveTimeout * 10000) ∧
      (resetDone p).gap.jackOrder = .target g.gap ∧
      (resetDone p).gap.jackOrders = p.gap.jackOrders + (if p.gap.state = .moving then 2 else 1) := by
  obtain ⟨_, _, _, _, _, _, orders⟩ := p.gap.machineReset_kept
  rw [resetDone_gap, resetStarted_gap_moves method released staged]
  refine ⟨rfl, rfl, rfl, rfl, ?_⟩
  dsimp only
  rw [orders]
  split <;> rfl

theorem resetDone_gap_stays {p : Part}
    (still : ¬(p.settings.gapMethod = .atClear ∧ p.feed.stopLine = false ∧ p.gap.staged.isSome = true)) :
    (resetDone p).gap.state = .stale ∧ (resetDone p).gap.target = none ∧ (resetDone p).gap.moveTimer = none ∧
      (resetDone p).gap.jackOrder = (if p.gap.state = .moving then .halt else p.gap.jackOrder) ∧
      (resetDone p).gap.jackOrders = p.gap.jackOrders + (if p.gap.state = .moving then 1 else 0) := by
  obtain ⟨state, target, _, timer⟩ := p.gap.machineReset_eq
  obtain ⟨_, _, _, _, _, order, orders⟩ := p.gap.machineReset_kept
  rw [resetDone_gap, resetStarted_gap_stays still]
  exact ⟨state, target, timer, order, orders⟩

/-! ## The lanes and the batch -/

theorem resetDone_lane (p : Part) (n : LaneNo) : (resetDone p).lane n = ((abortBatch p).lane n).machineReset := by
  rw [← resetStarted_lane, resetDone, Part.lane, Part.lane, arbiterTest_lanes]

theorem resetDone_lane_cleared (p : Part) (n : LaneNo) : ((resetDone p).lane n).contact = .empty ∧
    ((resetDone p).lane n).enterCount = 0 ∧ ((resetDone p).lane n).exitCount = 0 ∧
    ((resetDone p).lane n).distance = 0 ∧ ((resetDone p).lane n).railCount = 0 := by
  rw [resetDone_lane]
  exact ⟨rfl, rfl, rfl, rfl, rfl⟩

theorem resetDone_lane_kept (p : Part) (n : LaneNo) : ((resetDone p).lane n).service = (p.lane n).service ∧
    ((resetDone p).lane n).settings = (p.lane n).settings ∧ ((resetDone p).lane n).lastRaw = (p.lane n).lastRaw ∧
    ((resetDone p).lane n).lastConditioned = (p.lane n).lastConditioned ∧
    (resetDone p).laneTuning n = ⟨(p.laneTuning n).settings, false, none⟩ := by
  obtain ⟨service, settings, lastRaw, lastConditioned⟩ := abortBatch_lane_kept p n
  have tuning : (resetDone p).laneTuning n = (resetStarted p).laneTuning n := by
    rw [resetDone, Part.laneTuning, Part.laneTuning, arbiterTest_tuning]
  rw [resetDone_lane, tuning]
  exact ⟨service, settings, lastRaw, lastConditioned, resetStarted_laneTuning p n⟩

theorem resetDone_batch (p : Part) : (resetDone p).tuning.batch = (abortBatch p).tuning.batch := by
  rw [resetDone, arbiterTest_tuning, resetStarted_batch]

theorem resetDone_batchRunning (p : Part) : (resetDone p).batchRunning = false := by
  rw [Part.batchRunning, resetDone_batch]
  exact abortBatch_batchRunning p

theorem resetDone_batch_none {p : Part} (none : p.tuning.batch = none) : (resetDone p).tuning.batch = .none := by
  have idle : p.batchRunning = false := by simp only [Part.batchRunning, none, Option.map_none, Option.getD_none]
  rw [resetDone_batch, abortBatch_idle idle, none]

theorem resetDone_batch_ended {p : Part} {b : Batch} (record : p.tuning.batch = some b) (ended : b.running = false) :
    (resetDone p).tuning.batch = some b := by
  have idle : p.batchRunning = false := by
    simp only [Part.batchRunning, record, ended, Option.map_some, Option.getD_some]
  rw [resetDone_batch, abortBatch_idle idle, record]

theorem resetDone_batch_ends {p : Part} {b : Batch} (record : p.tuning.batch = some b) (running : b.running = true) :
    ∃ ended : Batch, (resetDone p).tuning.batch = some ended ∧ ended.running = false ∧ ended.origin = b.origin ∧
      ended.members.map (·.lane) = b.members.map (·.lane) ∧ ∀ m ∈ ended.members, m.phase = .finished := by
  rw [resetDone_batch]
  exact abortBatch_record p b record running

theorem resetDone_lane_of_finished {p : Part} {n : LaneNo}
    (finished : ∀ (b : Batch) (m : Member), p.tuning.batch = some b → b.running = true → m ∈ b.members → m.lane = n →
      m.phase = .finished) : ((resetDone p).lane n).tune = (p.lane n).tune ∧
        ((resetDone p).lane n).calibration = (p.lane n).calibration ∧
        ((resetDone p).lane n).reference = (p.lane n).reference ∧
        ((resetDone p).lane n).seedPending = (p.lane n).seedPending := by
  have same : (abortBatch p).lane n = p.lane n := by
    cases running : p.batchRunning with
    | false => rw [abortBatch_idle running]
    | true =>
      obtain ⟨b, record, isRunning⟩ := p.batchRunning_iff.mp running
      exact abortBatch_lane_of_finished record isRunning fun m => finished b m record isRunning
  rw [resetDone_lane, same]
  exact ⟨rfl, rfl, rfl, rfl⟩

theorem resetDone_lane_of_saved {p : Part} {b : Batch} {m : Member} {v : Saved} (record : p.tuning.batch = some b)
    (running : b.running = true) (once : (b.members.map (·.lane)).Nodup) (among : m ∈ b.members)
    (unfinished : m.phase ≠ .finished) (saved : m.saved = some v) : ((resetDone p).lane m.lane).tune = v.tune ∧
      ((resetDone p).lane m.lane).calibration = v.calibration ∧ ((resetDone p).lane m.lane).reference = v.reference ∧
      ((resetDone p).lane m.lane).seedPending = v.seedPending := by
  rw [resetDone_lane, abortBatch_lane record running once among unfinished saved]
  exact ⟨rfl, rfl, rfl, rfl⟩

theorem resetDone_wanted (p : Part) (n : LaneNo) : (resetDone p).wanted n =
    if p.feed.stopLine = false ∧ ((resetDone p).lane n).service = .inService ∧ ((resetDone p).lane n).tune = .tuned
      then p.settings.idlePressure else p.settings.parkPressure := by
  have lane : (resetDone p).lane n = (resetLevelled p).lane n := by
    rw [resetDone, resetStarted_eq, Part.lane, Part.lane, arbiterTest_lanes, startTest_lanes]
  have wanted : (resetDone p).wanted n = (resetLevelled p).wanted n := by
    rw [resetDone, resetStarted_eq, Part.wanted, Part.wanted, arbiterTest_pressure, startTest_pressure]
  rw [lane, wanted]
  exact resetLevelled_wanted p n

/-! ## The bus -/

theorem BoardState.machineReset_eq (b : BoardState) : b.machineReset = match b with
    | .faulted k => .faulted k
    | _ => .unknown := by
  cases b <;> rfl

theorem resetDone_boards (p : Part) (b : BoardNo) :
    (resetDone p).bus.boards[b.val] = (p.bus.boards[b.val]).machineReset := by
  have boards : (resetDone p).bus.boards = (resetStarted p).bus.boards := by rw [resetDone, arbiterTest_bus_boards]
  rw [← resetStarted_boards]
  simp only [boards]

theorem resetDone_drive (p : Part) (n : LaneNo) : (resetDone p).drive n = (resetStarted p).drive n := by
  rw [resetDone, Part.drive, Part.drive, arbiterTest_bus_drives]

theorem resetDone_drive_inFlight {p : Part} {n : LaneNo} (flying : ∃ v, (p.drive n).state = .inFlight v) :
    (resetDone p).drive n = p.drive n := by
  obtain ⟨v, state⟩ := flying
  rw [resetDone_drive]
  exact resetStarted_drive_of_unsettled (Drive.machineReset_inFlight state _) (by rw [state]; nofun)

theorem resetDone_drive_driven {p : Part} {n : LaneNo} (grounded : ∀ v, (p.drive n).state ≠ .inFlight v)
    (drive : (p.lane n).service ≠ .faulted .drive) (board : (p.lane n).service ≠ .faulted .board) :
    (resetDone p).drive n = ⟨.waiting, (p.drive n).applied, 0⟩ := by
  have driven := (Lane.driven_iff (p.lane n)).mpr ⟨drive, board⟩
  rw [resetDone_drive]
  exact resetStarted_drive_of_unsettled (by rw [driven, Drive.machineReset_driven grounded]) DriveState.noConfusion

theorem resetDone_drive_undriven {p : Part} {n : LaneNo}
    (faulted : (p.lane n).service = .faulted .drive ∨ (p.lane n).service = .faulted .board) :
    ((resetDone p).drive n).applied = (p.drive n).applied ∧ ((resetDone p).drive n).retry = (p.drive n).retry := by
  rw [resetDone_drive]
  refine resetStarted_drive_undriven (Bool.eq_false_iff.mpr fun driven => ?_)
  obtain ⟨drive, board⟩ := (Lane.driven_iff _).mp driven
  exact faulted.elim drive board

theorem resetDone_busy {p : Part} (busy : p.bus.master ≠ .idle) : resetDone p = resetStarted p := by
  rw [resetDone, arbiterTest_of_busy _ (resetStarted_busy busy)]

theorem resetDone_pointer {p : Part} (busy : p.bus.master ≠ .idle) : (resetDone p).bus.pointer = p.bus.pointer := by
  rw [resetDone_busy busy, resetStarted_pointer]

theorem resetDone_releasing {p : Part} (releasing : p.bus.master = .releasing) :
    (resetDone p).bus.master = .releasing ∧ (resetDone p).bus.releaseTimer = p.bus.releaseTimer := by
  rw [resetDone_busy (by rw [releasing]; nofun)]
  exact resetStarted_releasing releasing

theorem resetDone_selecting {p : Part} {b : BoardNo} (selecting : p.bus.master = .selecting b) :
    (resetDone p).bus.master = .releasing ∧ (resetDone p).bus.selectTimer = none ∧
      (resetDone p).bus.releaseTimer = some p.settings.releaseInterval := by
  rw [resetDone_busy (by rw [selecting]; nofun)]
  exact resetStarted_selecting selecting

theorem MasterState.busy_of_inSession {m : MasterState} {b : BoardNo} (inside : m = .opened b ∨ m = .draining b) :
    m ≠ .idle := by
  rcases inside with rfl | rfl <;> exact MasterState.noConfusion

theorem resetDone_inSession {p : Part} {b : BoardNo} (inside : p.bus.master = .opened b ∨ p.bus.master = .draining b) :
    (p.bus.dueNext.isSome = true ∨ p.bus.dueAfter.isSome = true → (resetDone p).bus.master = .draining b ∧
      (resetDone p).bus.resetDrain = true ∧ (resetDone p).bus.dueNext = p.bus.dueNext ∧
      (resetDone p).bus.dueAfter = p.bus.dueAfter) ∧
    (p.bus.dueNext = none → p.bus.dueAfter = none → (resetDone p).bus.master = .releasing ∧
      (resetDone p).bus.resetDrain = false ∧ (resetDone p).bus.releaseTimer = some p.settings.releaseInterval) := by
  rw [resetDone_busy (MasterState.busy_of_inSession inside)]
  exact ⟨resetStarted_drains inside, resetStarted_ends inside⟩

theorem resetDone_hasWork {p : Part} {work : BoardNo → Bool}
    (has : ∀ b : BoardNo, work b = true ↔ (∀ k, (resetDone p).bus.boards[b.val] ≠ .faulted k) ∧
      ∃ n : LaneNo, n.val / 8 = b.val ∧ ((resetDone p).drive n).state = .waiting ∧
        (p.lane n).service ≠ .faulted .drive ∧ (p.lane n).service ≠ .faulted .board) :
    (resetStarted p).hasWork = work := by
  refine Part.hasWork_eq fun b => (has b).trans ?_
  have service : ∀ n, ((resetStarted p).lane n).service = (p.lane n).service := fun n => by
    obtain ⟨same, _⟩ := abortBatch_lane_kept p n
    rw [← same, resetStarted_lane]
    rfl
  simp only [resetDone_boards, resetStarted_boards, resetDone_drive, service]

theorem resetDone_without_work {p : Part} (idle : p.bus.master = .idle) (none : ∀ b, (resetStarted p).hasWork b = false) :
    (resetDone p).bus.master = .idle ∧ (resetDone p).bus.pointer = p.bus.pointer := by
  rw [resetDone, arbiterTest_without_work none]
  exact ⟨resetStarted_idle idle, resetStarted_pointer p⟩

theorem resetDone_selects {p : Part} {b : BoardNo} (idle : p.bus.master = .idle)
    (first : [p.bus.pointer + 1, p.bus.pointer + 2, p.bus.pointer + 3, p.bus.pointer].find? (resetStarted p).hasWork =
      some b) : (resetDone p).bus.master = .selecting b ∧ (resetDone p).bus.pointer = b ∧
        (resetDone p).bus.selectTimer = some (p.settings.selectTimeout * 10) := by
  have settings : (resetStarted p).settings = p.settings := by
    rw [resetStarted_eq, startTest_settings, resetLevelled_settings]
  rw [← resetStarted_pointer] at first
  rw [resetDone, arbiterTest_selects (resetStarted_idle idle) first, settings]
  exact ⟨rfl, rfl, rfl⟩

end Sys2Proof.Machine
end

section
/-! PROOFS. MACHINE RESET (R195). -/

namespace Sys2Proof.Machine

theorem AttentionSet.restartedAlone_has (a : Attention) :
    AttentionSet.restartedAlone.has a = decide (a = .restarted) := by
  cases a <;> rfl

theorem State.answers_attention (s : State) (header : Byte) (code : ResultCode) (reply : List Byte) (p : Part) :
    (s.answers header code reply p).port.attention = p.port.attention ∧
      (s.answers header code reply p).port.attentionMask = p.port.attentionMask := ⟨rfl, rfl⟩

theorem resetDone_attention (p : Part) : (resetDone p).port.attention = AttentionSet.restartedAlone ∧
    (resetDone p).port.attentionMask = p.port.attentionMask := by
  obtain ⟨_, _, _, _, port⟩ := resetDone_kept p
  rw [port]
  exact ⟨rfl, rfl⟩

end Sys2Proof.Machine

open Sys2Proof Sys2Proof.Machine

/-- Settles O12: the reset block by block, the bus by the state of its master. -/
theorem machineResetKeepsAndClears : Obligations.MachineResetKeepsAndClears := by
  intro s accept
  refine ⟨_, exec_machineReset accept, ?_⟩
  obtain ⟨hides, nextTicket, unbound, articles, eye, encoder, feed, level⟩ := resetDone_tables s.toPart
  obtain ⟨active, staged, lastPair, excursionRun, applyPending, settle⟩ := resetDone_gap_kept s.toPart
  obtain ⟨routes, tallies, settings, scanPeriod, _⟩ := resetDone_kept s.toPart
  obtain ⟨attention, mask⟩ := resetDone_attention s.toPart
  obtain ⟨answersAttention, answersMask⟩ := s.answers_attention Header.machineReset .ok [] (resetDone s.toPart)
  refine ⟨hides, nextTicket, unbound, articles, eye, encoder, feed, active, staged, lastPair, excursionRun, applyPending,
    settle, fun g => resetDone_gap_moves, resetDone_gap_stays, fun n => ?_, resetDone_batchRunning s.toPart,
    resetDone_batch_none, fun b record => ⟨resetDone_batch_ended record, resetDone_batch_ends record⟩,
    fun n => resetDone_lane_of_finished, fun b m v => resetDone_lane_of_saved, level, resetDone_wanted s.toPart,
    fun b => (resetDone_boards s.toPart b).trans (BoardState.machineReset_eq _), fun n => ⟨resetDone_drive_inFlight,
      fun grounded => ⟨resetDone_drive_driven grounded, resetDone_drive_undriven⟩⟩, resetDone_pointer,
    resetDone_releasing, fun b => resetDone_selecting, fun b => resetDone_inSession, fun work has idle => ?_,
    routes, tallies, resetDone_line s.toPart, settings, scanPeriod, ?_, fun a => ?_, rfl⟩
  · obtain ⟨contact, enterCount, exitCount, distance, railCount⟩ := resetDone_lane_cleared s.toPart n
    obtain ⟨service, laneSettings, lastRaw, lastConditioned, tuning⟩ := resetDone_lane_kept s.toPart n
    exact ⟨contact, enterCount, exitCount, distance, railCount, service, laneSettings, lastRaw, lastConditioned, tuning⟩
  · have works := resetDone_hasWork has
    subst works
    exact ⟨resetDone_without_work idle, fun b => resetDone_selects idle⟩
  · rw [answersMask, mask]
  · rw [answersAttention, attention, AttentionSet.restartedAlone_has]

end
